-- ==== Sys2Proof/Word.lean ====
section
/-! DEFINITION. The two words the QB-820 is made of: a byte of a link or a port, and an audio word. -/

namespace Sys2Proof

/-- One byte of the block stream link or of a control port. -/
abbrev Byte := BitVec 8

/-- One audio word: a 16-bit two's-complement sample of one channel (00 section 0.5). -/
abbrev Word := BitVec 16

end Sys2Proof
end

