-- ==== Sys2Proof/Syntax.lean ====
section
/-! DEFINITION. The commands of the QB-820: one constructor for each row of spec/opcode_table.json. -/

namespace Sys2Proof

/-- The two control ports (R148). -/
inductive Port where
  | s
  | d
  deriving DecidableEq, Repr

/-- What follows the code of a port command frame (R148, R158): its N parameter bytes, its check byte, and the bytes
that the controller clocks behind that one before SS rises. N is the number of parameter bytes. The code is the row's
own. -/
structure Frame where
  params : List Byte
  check : Byte
  behind : List Byte
  deriving DecidableEq, Repr

/-- A SOFT_RESET frame, and the bytes of a D-port frame that is in reception when it is taken, none when there is no such
frame (R155). -/
structure ResetFrame where
  frame : Frame
  dFrame : List Byte
  deriving DecidableEq, Repr

/-- The level of the raw TRAY line (R133): high while the tray is closed, low while it is open. -/
inductive Tray where
  | opened
  | closed
  deriving DecidableEq, Repr

/-- The commands, in the order of spec/opcode_table.json. `msz` is the level of the straps MSZ1..0 that the ring
clear starting in this step reads (R1). `readyAtSyn` says whether RDY_B was high at the SYN_B that began the
frame (R23). `clocked` is the number of bytes the controller clocks in the transaction (R150). -/
inductive Instr where
  | powerOn (msz : BitVec 2)
  | resetLineAsserted
  | resetLineReleased (msz : BitVec 2)
  | ringClearEnd
  /-- `bytes`: the frame from its SYN_B-marked byte on, header and payload (R158). -/
  | streamFrame (readyAtSyn : Bool) (bytes : List Byte)
  /-- `byte0`: the marked byte, which is byte 0 of the new frame (R20). -/
  | frameCutShort (readyAtSyn : Bool) (byte0 : Byte)
  | stepUp
  | stepDown
  | frameClock
  | holeWaitExpiry
  | fillStalled
  | orderTimeout
  | identifyTimerExpiry
  | trayDebounced
  | wakeEdge
  | wakeDelayEnd (msz : BitVec 2)
  | holdFadeWatchdog
  | attentionPulseEnd (port : Port)
  | poll (port : Port) (clocked : Nat)
  /-- `bytes`: what the controller sent before SS rose, the code first. -/
  | transactionCutShort (port : Port) (bytes : List Byte)
  | unknownCommand (port : Port) (code : Byte) (fr : Frame)
  | lowPowerTransaction (port : Port) (clocked : Nat)
  | start (fr : Frame)
  | configure (fr : Frame)
  | softReset (msz : BitVec 2) (fr : ResetFrame)
  | queryStatus (fr : Frame)
  | readEvents (port : Port) (fr : Frame)
  | readCounters (fr : Frame)
  | queryPosition (fr : Frame)
  | playAt (fr : Frame)
  | playProgram (fr : Frame)
  | pause (fr : Frame)
  | resume (fr : Frame)
  | stop (fr : Frame)
  | discLoaded (fr : Frame)
  | discRelease (fr : Frame)
  | queryDirectory (fr : Frame)
  | queryResume (fr : Frame)
  | forgetResume (fr : Frame)
  | hold (fr : Frame)
  | sleep (fr : Frame)
  | takeOrder (fr : Frame)
  | orderDone (fr : Frame)
  | rateOffer (fr : Frame)
  | skipNotice (fr : Frame)
  | driveRestart (fr : Frame)
  | queryPlan (fr : Frame)
  | powerLost
  /-- `level`: the level the line changes to. -/
  | trayLineChange (level : Tray)
  deriving DecidableEq, Repr

end Sys2Proof
end

