-- ==== Sys2Proof/Decode.lean ====
section
/-! DEFINITION. The commands that a word spells by the table's bits: none, since no row of spec/opcode_table.json
gives any. The bytes of port frames and stream frames are decoded in Sys2Proof/Machine/Operands.lean. -/

namespace Sys2Proof

/-- The command that a word of `nbits` bits spells: the table gives no row bits, so none (log 32). -/
def decodeTableWord (_nbits _w : Nat) : Option Instr := none

end Sys2Proof
end

