-- ==== Sys2Proof/Config.lean ====
section
/-! DEFINITION. What is fixed for the part or set by CONFIGURE: the rate codes and the 23 parameters of R154.
The spec leaves no result value open, so there is no free value here. -/

namespace Sys2Proof

/-- The sample rate code of a directory (00 section 0.5): code 0 is 44,100 frames/s, code 1 is 48,000. -/
inductive RateCode where
  | r44100
  | r48000
  deriving DecidableEq, Repr

/-- The attention mode of a port (R160). -/
inductive AttnMode where
  | level
  | pulse
  deriving DecidableEq, Repr

/-- The configuration parameters in the order of R154's table (ids 1 to 23). Times are in milliseconds. -/
structure Params where
  startDepth : Nat
  lmax : Nat
  rd : Nat
  ru : Nat
  rp : Nat
  holeWait : Nat
  repairThreshold : Nat
  seamThreshold : Nat
  leadIn : Nat
  retryLimit : Nat
  orderTimeout : Nat
  downgradeLimit : Nat
  upgradeInterval : Nat
  ceiling : Nat
  releaseMargin : Nat
  fillStallTimeout : Nat
  alertThreshold : Nat
  autoPlay : Bool
  autoResume : Bool
  sMask : BitVec 15
  dMask : BitVec 8
  sMode : AttnMode
  dMode : AttnMode
  deriving DecidableEq, Repr

end Sys2Proof
end

