-- ==== Sys2Proof/Machine/Blocks.lean ====
section
/-! DEFINITION. The types of the blocks of 00 section 0.3: what each block of the part holds, as plain data. -/

namespace Sys2Proof.Machine

/-! ### The ring store (01) -/

/-- Where a slot's contents came from (R7). -/
inductive Source where
  | stream
  | repair
  deriving DecidableEq, Repr

/-- A slot record (R3). Each state holds the fields R4 gives it and no others: MISSING and VOID slots carry a
fully marked map of W marks (R5), so none is stored for them, and a CLEAN slot's map has no mark. -/
inductive Slot where
  | empty
  | missing (tag : Nat)
  | clean (tag : Nat) (payload : List Word) (source : Source)
  | flawed (tag : Nat) (map : List Bool) (payload : List Word) (source : Source) (settled : Bool)
  | void (tag : Nat)
  deriving DecidableEq, Repr

/-- A ring clear in progress (R17): when it started. The headers left to write follow from the timebase. -/
structure RingClear where
  since : Nat
  deriving DecidableEq, Repr

/-- The figures of the window (R11): depth and the three tallies. Fullness is E − P. -/
structure Figures where
  depth : Nat
  missing : Nat
  flawed : Nat
  void : Nat
  deriving DecidableEq, Repr

/-- The ring store. `slots` lists the slots that are not EMPTY by slot index, indices strictly rising. `asleep` holds
the figures that SLEEPING keeps of slots it has lost (R19). -/
structure Ring where
  straps : BitVec 2
  slots : List (Nat × Slot)
  p : Nat
  e : Nat
  owner : Option (BitVec 32)
  clear : Option RingClear
  asleep : Option Figures
  deriving DecidableEq, Repr

/-! ### The stream intake (02, 03) -/

/-- The states of the link receiver (R20). -/
inductive RxStage where
  | hunt
  | header
  | payload
  | skip
  deriving DecidableEq, Repr

/-- The link receiver: its state, the bytes it holds of the frame in reception, and whether RDY_B was high at
that frame's SYN_B (R23). -/
structure Receiver where
  stage : RxStage
  bytes : List Byte
  synReady : Bool
  deriving DecidableEq, Repr

/-- The run states other than NO_RUN (R42). -/
inductive RunState where
  | verified
  | unverified
  | rejected
  deriving DecidableEq, Repr

/-- The run record while it is not NO_RUN (R42). -/
structure Run where
  state : RunState
  last : Nat
  tag : Byte
  deriving DecidableEq, Repr

/-- The stream intake. `run = none` is NO_RUN. -/
structure Intake where
  rx : Receiver
  run : Option Run
  latch : Bool
  deriving DecidableEq, Repr

/-! ### The repair planner (04) -/

/-- What an Order Queue entry holds while it is ISSUED (R56). `deadline` is the issue time and the order timeout
read at the issue (R70, R75). -/
structure Issue where
  tag : Nat
  readFrom : Nat
  issued : Nat
  deadline : Nat
  deriving DecidableEq, Repr

/-- An Order Queue entry (R56). `issue = none` is QUEUED. The reason is a view of the slots it covers. -/
structure Order where
  first : Nat
  count : Nat
  attempts : Nat
  issue : Option Issue
  deriving DecidableEq, Repr

/-- The repair planner. `scanDue` is the model's own: set inside an event that R59 names, cleared by the scan at
the event's end. -/
structure Planner where
  queue : List Order
  tagCounter : Nat
  fails : Nat
  scanDue : Bool
  deriving DecidableEq, Repr

/-- The outcome of ORDER_DONE (R66). -/
inductive DoneOutcome where
  | read
  | unreadable
  | interrupted
  deriving DecidableEq, Repr

/-! ### The rate agreement unit (05) -/

/-- A read rate. -/
inductive Rate where
  | x1
  | x2
  | x4
  deriving DecidableEq, Repr

/-- An offer: a set drawn from 1x, 2x, 4x that always holds 1x (R79). -/
structure Offer where
  x2 : Bool
  x4 : Bool
  deriving DecidableEq, Repr

/-- What the unit holds outside NONE (R79). -/
structure Agreement where
  offer : Offer
  agreed : Rate
  requested : Rate
  deriving DecidableEq, Repr

/-- The rate agreement unit. `held = none` is NONE. -/
structure Rates where
  held : Option Agreement
  progress : Nat
  cap : Option Rate
  deriving DecidableEq, Repr

/-- The states of the unit (R79). -/
inductive RateState where
  | none
  | agreed
  | limited
  deriving DecidableEq, Repr

/-- The causes RATE_CHANGED carries (R89). -/
inductive RateCause where
  | offer
  | ceiling
  | downgrade
  | upgrade
  | reset
  deriving DecidableEq, Repr

/-! ### The output engine (06) -/

/-- The destination of a ramp (R91). -/
inductive Dest where
  | paused
  | stopped
  | leave
  deriving DecidableEq, Repr

/-- The play states (R91). RAMP_DOWN holds its destination. -/
inductive Play where
  | stopped
  | priming
  | playing
  | rampDown (dest : Dest)
  | paused
  | starved
  | halted
  deriving DecidableEq, Repr

/-- The play intent (R97). -/
inductive Intent where
  | play
  | pause
  | stop
  deriving DecidableEq, Repr

/-- The fill-stall timer while it runs (R102). -/
structure StallTimer where
  since : Nat
  timeout : Nat
  stalled : Bool
  deriving DecidableEq, Repr

/-- The output engine. Its P is the ring store's. -/
structure Engine where
  f : Nat
  slotOpen : Bool
  play : Play
  intent : Intent
  holeWait : Nat
  program : Nat
  stall : Option StallTimer
  anticipate : Bool
  deriving DecidableEq, Repr

/-! ### The concealment unit and the sample line (07) -/

/-- A flaw run record (R115). -/
inductive FlawRun where
  | short (n : Nat) (k : Nat) (b : Word)
  | long (k : Nat)
  deriving DecidableEq, Repr

/-- One channel of the concealment unit: its last clean value and its flaw run (R115). -/
structure Channel where
  a : Word
  run : Option FlawRun
  deriving DecidableEq, Repr

/-- The concealment unit (R115). The conceal step in force is `gcDown` on the way down and `gcUp` on the way up. -/
structure Conceal where
  left : Channel
  right : Channel
  gp : Nat
  gpTarget : Nat
  gpStep : Nat
  gc : Nat
  gcTarget : Nat
  gcDown : Nat
  gcUp : Nat
  deriving DecidableEq, Repr

/-- One frame for the sample line: two output words and SLC (R130). -/
structure OutFrame where
  left : Word
  right : Word
  slc : Bool
  deriving DecidableEq, Repr

/-- The sample line: the frame last produced, and the one being shifted out, one behind it (R129). -/
structure Line where
  produced : OutFrame
  shifting : OutFrame
  deriving DecidableEq, Repr

/-! ### The session unit (08) -/

/-- The session states (R132). -/
inductive SessionState where
  | noDisc
  | identifying
  | present
  | leaving
  deriving DecidableEq, Repr

/-- A disc directory: rate code, T and the program start addresses, n of them (R132). -/
structure Directory where
  rate : RateCode
  t : Nat
  starts : List Nat
  deriving DecidableEq, Repr

/-- Why a directory is not valid (R137). -/
inductive DirectoryFlaw where
  | rateCode
  | programCount
  | length
  | order
  | startRange
  deriving DecidableEq, Repr

/-- The identify timer while it runs (R136). -/
structure IdentifyTimer where
  since : Nat
  expired : Bool
  deriving DecidableEq, Repr

/-- The stored intent of a resume entry (R143). -/
inductive StoredIntent where
  | playing
  | paused
  deriving DecidableEq, Repr

/-- A resume entry (R144). Its rank is its place in the table. -/
structure ResumeEntry where
  fingerprint : BitVec 32
  programs : Nat
  t : Nat
  address : Nat
  frame : Nat
  intent : StoredIntent
  cap : Option Rate
  deriving DecidableEq, Repr

/-- The session unit (R132). `table` lists the resume entries from rank 1 on. `tray = none` is unknown. -/
structure Session where
  state : SessionState
  directory : Option Directory
  fingerprint : Option (BitVec 32)
  identify : Option IdentifyTimer
  pendingLoad : Bool
  trayLine : Tray
  trayChange : Nat
  tray : Option Tray
  table : List ResumeEntry
  deriving DecidableEq, Repr

/-! ### The ports (09) -/

/-- The response codes (R152). -/
inductive RespCode where
  | ok
  | badFrame
  | unknownCommand
  | busy
  | notStarted
  | wrongState
  | noDisc
  | noEntry
  deriving DecidableEq, Repr

/-- A pending response: its code and its data, the flags byte first (R152). -/
structure Response where
  code : RespCode
  data : List Byte
  deriving DecidableEq, Repr

/-- What one port holds (R150, R151). `sent` is the model's record of the bytes the part sent in the port's last
transaction. -/
structure PortState where
  response : Option Response
  error : Bool
  sent : List Byte
  deriving DecidableEq, Repr

/-! ### The event unit (10) -/

/-- The wake sources (R169). -/
inductive WakeSource where
  | sPort
  | tray
  | wake
  deriving DecidableEq, Repr

/-- The S-port events with their data, in the order of R159's list. -/
inductive SEvent where
  | playStateChanged (play : Play) (intent : Intent)
  | programChanged (program : Nat) (p : Nat)
  | endOfDisc (t : Nat)
  | starved (p : Nat)
  | slotAbandoned (first : Nat) (last : Nat)
  | concealMute (p : Nat) (f : Nat)
  | fillStalled (play : Play) (p : Nat) (e : Nat) (depth : Nat)
  | discIdentified (fingerprint : BitVec 32) (rate : RateCode) (n : Nat) (t : Nat)
  | discMatched (rank : Nat) (address : Nat) (frame : Nat) (intent : StoredIntent)
  | directoryBad (reason : DirectoryFlaw)
  | noDirectory
  | sessionEnded (fingerprint : BitVec 32) (address : Nat) (frame : Nat) (intent : StoredIntent)
  | rateChanged (agreed : Rate) (requested : Rate) (state : RateState) (cause : RateCause)
  | counterAlert (flags : List Bool)
  | woke (source : WakeSource)
  deriving DecidableEq, Repr

/-- The D-port events with their data, in the order of R159's list. -/
inductive DEvent where
  | orderAvailable
  | orderComplete (tag : Nat)
  | orderWithdrawn (tag : Nat) (first : Nat)
  | pauseChanged (flag : Bool)
  | seekRequested (address : Nat)
  | seamReject (address : Nat) (tag : Byte) (d : Nat)
  | rateChanged (agreed : Rate) (requested : Rate) (state : RateState) (cause : RateCause)
  | sessionChanged
  deriving DecidableEq, Repr

/-- A latched event: the data of its latest raising and its repeat count (R159). -/
structure Latched (α : Type) where
  ev : α
  count : Nat
  deriving DecidableEq, Repr

/-- The session counters, in index order (R162). -/
inductive CounterId where
  | blocksAccepted
  | blocksImproved
  | flawedWordsReceived
  | wordsInterpolated
  | wordsHeld
  | concealMutes
  | starveEpisodes
  | slotsAbandoned
  | ordersIssued
  | attemptsFailed
  | seamRejects
  | unverifiedRuns
  | blocksDiscarded
  | skipNotices
  | rateDowngrades
  deriving DecidableEq, Repr

/-- A session counter and its alerted flag (R162). -/
structure Counter where
  value : Nat
  alerted : Bool
  deriving DecidableEq, Repr

/-- The event unit. The sets list the latched events in ascending position. A pulse is held by its start. -/
structure Events where
  sSet : List (Latched SEvent)
  dSet : List (Latched DEvent)
  sPulse : Option Nat
  dPulse : Option Nat
  counters : Vector Counter 15
  deriving DecidableEq, Repr

/-! ### The power controller (11) -/

/-- The device modes (R153). -/
inductive Mode where
  | unconfigured
  | running
  | held
  | sleeping
  deriving DecidableEq, Repr

/-- The two low-power modes (R166). -/
inductive LowMode where
  | held
  | sleeping
  deriving DecidableEq, Repr

/-- An entry to a low-power mode in progress (R166). -/
structure Entry where
  target : LowMode
  since : Nat
  deriving DecidableEq, Repr

/-- The power controller, with the supply and RESET lines and the last rising edge of SLF. -/
structure Power where
  powered : Bool
  resetLine : Bool
  mode : Mode
  entry : Option Entry
  wake : Option WakeSource
  wakeStart : Nat
  selfRefresh : Bool
  supply : Bool
  lastSlf : Nat
  deriving DecidableEq, Repr

end Sys2Proof.Machine
end

