-- ==== Sys2Proof/Machine/Resets.lean ====
section
/-! DEFINITION. The value each block takes at a reset, from the table that ends its chapter. -/

namespace Sys2Proof.Machine

/-- The defaults of R154. -/
def paramDefaults : Params where
  startDepth := 50
  lmax := 16
  rd := 64
  ru := 256
  rp := 1024
  holeWait := 200
  repairThreshold := 24
  seamThreshold := 4
  leadIn := 2
  retryLimit := 3
  orderTimeout := 1500
  downgradeLimit := 3
  upgradeInterval := 6000
  ceiling := 4
  releaseMargin := 200
  fillStallTimeout := 2000
  alertThreshold := 1000
  autoPlay := true
  autoResume := true
  sMask := 0
  dMask := 0
  sMode := .level
  dMode := .level

/-- The ring store after a reset, with no ring clear yet started (R19). -/
def ringReset : Ring where
  straps := 0
  slots := []
  p := 0
  e := 0
  owner := none
  clear := none
  asleep := none

/-- The link receiver in HUNT (R20). -/
def rxHunt : Receiver where
  stage := .hunt
  bytes := []
  synReady := true

/-- The stream intake after a reset (R41). -/
def intakeReset : Intake where
  rx := rxHunt
  run := none
  latch := false

/-- The repair planner after a reset (R78). -/
def plannerReset : Planner where
  queue := []
  tagCounter := 0
  fails := 0
  scanDue := false

/-- The rate agreement unit after a reset (R90). -/
def ratesReset : Rates where
  held := none
  progress := 0
  cap := none

/-- The output engine after a reset (R114). -/
def engineReset : Engine where
  f := 0
  slotOpen := false
  play := .halted
  intent := .stop
  holeWait := 0
  program := 0
  stall := none
  anticipate := false

/-- A channel with its last clean value and its run dropped (R122). -/
def channelReset : Channel where
  a := 0
  run := none

/-- The concealment unit after a reset (R131). -/
def concealReset : Conceal where
  left := channelReset
  right := channelReset
  gp := 0
  gpTarget := 0
  gpStep := 4
  gc := 4096
  gcTarget := 4096
  gcDown := 64
  gcUp := 16

/-- A silent frame with SLC low (R93, R130). -/
def silentFrame : OutFrame where
  left := 0
  right := 0
  slc := false

/-- The sample line after a reset: silent (R131). -/
def lineReset : Line where
  produced := silentFrame
  shifting := silentFrame

/-- The session unit after a power-on (R147). -/
def sessionReset : Session where
  state := .noDisc
  directory := none
  fingerprint := none
  identify := none
  pendingLoad := false
  trayLine := .closed
  trayChange := 0
  tray := none
  table := []

/-- A port after a reset (R151). -/
def portReset : PortState where
  response := none
  error := false
  sent := []

/-- The event unit after a reset (R165). -/
def eventsReset : Events where
  sSet := []
  dSet := []
  sPulse := none
  dPulse := none
  counters := Vector.replicate 15 ⟨0, false⟩

/-- The power controller after a reset (R166). -/
def powerReset : Power where
  powered := true
  resetLine := false
  mode := .unconfigured
  entry := none
  wake := none
  wakeStart := 0
  selfRefresh := false
  supply := true
  lastSlf := 0

end Sys2Proof.Machine
end

