-- ==== Sys2Proof/Machine/State.lean ====
section
/-! DEFINITION. The state of the part, block by block, the reasons a step can stop, and the part after reset. -/

namespace Sys2Proof.Machine

/-- The whole part. `now` is the reading of its timebase in microseconds. `pending` is the queue of the commands
that wait, first in, first out: the model's own. -/
structure State where
  ring : Ring
  intake : Intake
  planner : Planner
  rates : Rates
  engine : Engine
  conceal : Conceal
  line : Line
  session : Session
  sPort : PortState
  dPort : PortState
  events : Events
  power : Power
  params : Params
  now : Nat
  pending : List Instr
  deriving DecidableEq, Repr

/-- The faults of the part: none. The spec names no event that stops it (log 31), which is safe: no command is
kept from an effect the spec gives it. -/
inductive Fault where
  deriving DecidableEq, Repr

/-- The refusals of the model. -/
inductive Refusal where
  /-- A command that has no meaning yet, raised by an arm of `exec` alone; no arm raises it. Safe. -/
  | notModelled (mnemonic : String)
  deriving DecidableEq, Repr

/-- The part right after POWER_ON (R153), its ring clear running (R17). The straps read 0 and the timebase starts at
0: DESIGN CHOICE, log 2 and log 3, unsafe. -/
def State.reset : State where
  ring := { ringReset with clear := some ⟨0⟩ }
  intake := intakeReset
  planner := plannerReset
  rates := ratesReset
  engine := engineReset
  conceal := concealReset
  line := lineReset
  session := sessionReset
  sPort := portReset
  dPort := portReset
  events := eventsReset
  power := powerReset
  params := paramDefaults
  now := 0
  pending := []

end Sys2Proof.Machine
end

