-- ==== Sys2Proof/Machine/Operands.lean ====
section
/-! DEFINITION. The operand forms: byte orders, CRCs, check bytes, the frame and payload layouts of R158, the codes
of the enumerated values, and the rounding and clamping of 00 section 0.6. -/

namespace Sys2Proof

/-! ### Rate codes (00 section 0.5) -/

/-- F: frames per block. -/
def RateCode.frames : RateCode → Nat
  | .r44100 => 441
  | .r48000 => 480

/-- W = 2F: words per block. -/
def RateCode.words (c : RateCode) : Nat := 2 * c.frames

/-- R: frames per second. -/
def RateCode.hz : RateCode → Nat
  | .r44100 => 44100
  | .r48000 => 48000

/-- The code of a rate code. -/
def RateCode.code : RateCode → Nat
  | .r44100 => 0
  | .r48000 => 1

/-- Bytes of an AUDIO payload: 2W and ⌈W/8⌉ (R21). -/
def RateCode.payloadBytes (c : RateCode) : Nat := 2 * c.words + (c.words + 7) / 8

/-- A duration in frames: floor(ms × R / 1000). -/
def RateCode.msToFrames (c : RateCode) (ms : Nat) : Nat := ms * c.hz / 1000

end Sys2Proof

namespace Sys2Proof.Machine

/-! ### Numbers (00 section 0.6) -/

/-- Round to the nearest whole number, ties away from zero. -/
def roundDiv (p : Int) (q : Nat) : Int :=
  if p < 0 then -((2 * p.natAbs + q) / (2 * q) : Nat) else ((2 * p.natAbs + q) / (2 * q) : Nat)

/-- ceil(4096 / r): the step of a ramp of length r (R124). -/
def rampStep (r : Nat) : Nat := (4096 + r - 1) / r

/-- Bring a value into lo..hi. -/
def clampTo (lo hi v : Nat) : Nat := max lo (min v hi)

/-- Milliseconds on the timebase, which counts microseconds. -/
def msToUs (ms : Nat) : Nat := 1000 * ms

/-! ### Byte orders (R158) -/

/-- The low byte of a number. -/
def byteOf (n : Nat) : Byte := BitVec.ofNat 8 n

/-- A number in two bytes, low byte first. -/
def le16 (n : Nat) : List Byte := [byteOf n, byteOf (n / 256)]

/-- A number in three bytes, low byte first. -/
def le24 (n : Nat) : List Byte := [byteOf n, byteOf (n / 256), byteOf (n / 65536)]

/-- A number in four bytes, low byte first. -/
def le32 (n : Nat) : List Byte := [byteOf n, byteOf (n / 256), byteOf (n / 65536), byteOf (n / 16777216)]

/-- The number that bytes sent low byte first stand for. -/
def ofLe : List Byte → Nat
  | [] => 0
  | b :: bs => b.toNat + 256 * ofLe bs

/-- Cut a list into whole groups of three bytes, each read low byte first. -/
def groups24 : List Byte → List Nat
  | a :: b :: c :: rest => ofLe [a, b, c] :: groups24 rest
  | _ => []

/-- Pack marks into bytes, mark i at bit (i mod 8) of byte (i div 8): `n` bytes. -/
def packBits : Nat → List Bool → List Byte
  | 0, _ => []
  | n + 1, bs =>
    byteOf ((List.range 8).foldl (fun acc i => acc + if bs.getD i false then 2 ^ i else 0) 0) :: packBits n (bs.drop 8)

/-- Unpack the first `n` marks of a map: mark i is bit (i mod 8) of byte (i div 8) (R25). -/
def unpackBits (n : Nat) (bs : List Byte) : List Bool :=
  (bs.flatMap fun b => (List.range 8).map fun i => b.getLsbD i).take n

/-- Words from bytes, two to a word, low byte first (R25). -/
def words16 : List Byte → List Word
  | a :: b :: rest => (b ++ a) :: words16 rest
  | _ => []

/-! ### Check bytes and CRCs -/

/-- The byte that brings the sum of the bytes and itself to 0 mod 256 (R148, R150). -/
def checkByte (bs : List Byte) : Byte := -(bs.foldl (· + ·) 0)

/-- One bit of CRC-16, polynomial 0x1021, not reflected (R21). -/
def crc16Bits : Nat → BitVec 16 → BitVec 16
  | 0, c => c
  | n + 1, c => crc16Bits n (if c.getLsbD 15 then (c <<< 1) ^^^ 0x1021#16 else c <<< 1)

/-- CRC-16 of a byte sequence: initial value 0xFFFF, no final XOR (R21). -/
def crc16 (bs : List Byte) : BitVec 16 :=
  bs.foldl (fun c b => crc16Bits 8 (c ^^^ (b ++ (0 : BitVec 8)))) 0xFFFF#16

/-- One bit of CRC-32, polynomial 0x04C11DB7 with input and output reflected (R138). -/
def crc32Bits : Nat → BitVec 32 → BitVec 32
  | 0, c => c
  | n + 1, c => crc32Bits n (if c.getLsbD 0 then (c >>> 1) ^^^ 0xEDB88320#32 else c >>> 1)

/-- CRC-32 of a byte sequence: initial value and final XOR 0xFFFFFFFF (R138). -/
def crc32 (bs : List Byte) : BitVec 32 :=
  (bs.foldl (fun c b => crc32Bits 8 (c ^^^ b.setWidth 32)) 0xFFFFFFFF#32) ^^^ 0xFFFFFFFF#32

/-! ### Stream frames (R21, R25, R158) -/

/-- The header of a stream frame, decoded. -/
structure Header where
  kind : Byte
  addressGood : Bool
  runStart : Bool
  tag : Byte
  address : Nat
  length : Nat
  crcGood : Bool
  deriving DecidableEq, Repr

/-- Decode ten header bytes. The upper four bits of byte 5 and bits 2..7 of the flags are ignored; the check value
is sent high byte first. -/
def readHeader (bs : List Byte) : Header where
  kind := bs.getD 0 0
  addressGood := (bs.getD 1 0).getLsbD 0
  runStart := (bs.getD 1 0).getLsbD 1
  tag := bs.getD 2 0
  address := ofLe [bs.getD 3 0, bs.getD 4 0, bs.getD 5 0] % 1048576
  length := ofLe [bs.getD 6 0, bs.getD 7 0]
  crcGood := crc16 (bs.take 8) == bs.getD 8 0 ++ bs.getD 9 0

/-- A block as it arrives: its words and their flaw marks (R25). -/
structure Block where
  words : List Word
  marks : List Bool
  deriving DecidableEq, Repr

/-- The number of set marks. -/
def markCount (ms : List Bool) : Nat := ms.countP id

/-- Unpack an AUDIO payload of W words (R25). -/
def readBlock (w : Nat) (payload : List Byte) : Block where
  words := words16 (payload.take (2 * w))
  marks := unpackBits w (payload.drop (2 * w))

/-- A directory payload: rate code byte, program count byte, T and the start addresses (R26, R137). -/
structure RawDirectory where
  rate : Byte
  n : Byte
  t : Nat
  starts : List Nat
  deriving DecidableEq, Repr

/-- Read a directory payload. -/
def readDirectory (payload : List Byte) : RawDirectory where
  rate := payload.getD 0 0
  n := payload.getD 1 0
  t := ofLe (payload.drop 2 |>.take 3)
  starts := groups24 (payload.drop 5)

/-- Each element is greater than the one before it. -/
def ascending : List Nat → Bool
  | a :: b :: rest => a < b && ascending (b :: rest)
  | _ => true

/-- Validate a directory, the first check that fails giving the reason (R137). -/
def validateDirectory (d : RawDirectory) : Except DirectoryFlaw Directory :=
  if d.rate.toNat > 1 then .error .rateCode
  else if d.n.toNat < 1 || d.n.toNat > 99 then .error .programCount
  else if d.t < 1 || d.t > 1048576 then .error .length
  else if !ascending d.starts then .error .order
  else if d.starts.getLastD 0 ≥ d.t then .error .startRange
  else .ok ⟨if d.rate = 0 then .r44100 else .r48000, d.t, d.starts⟩

/-! ### Port frames (R148, R158) -/

/-- N of a command frame. -/
def frameN (fr : Frame) : Nat := fr.params.length

/-- The bytes that a transaction with this frame clocks: code, N, the parameters, the check byte, and those behind it
(R148). -/
def frameClocked (fr : Frame) : Nat := frameN fr + 3 + fr.behind.length

/-- A command frame whose bytes, code to check, sum to 0 mod 256. -/
def frameSumGood (code : Byte) (fr : Frame) : Bool :=
  fr.check == checkByte (code :: byteOf (frameN fr) :: fr.params)

/-- The command frame of a code with the check byte that fits it, and nothing behind. -/
def goodFrame (code : Byte) (params : List Byte) : Frame where
  params := params
  check := checkByte (code :: byteOf params.length :: params)
  behind := []

/-! ### Codes of the enumerated values (R158) -/

def Mode.code : Mode → Nat
  | .unconfigured => 0 | .running => 1 | .held => 2 | .sleeping => 3

def SessionState.code : SessionState → Nat
  | .noDisc => 0 | .identifying => 1 | .present => 2 | .leaving => 3

def Play.code : Play → Nat
  | .stopped => 0 | .priming => 1 | .playing => 2 | .rampDown _ => 3 | .paused => 4 | .starved => 5 | .halted => 6

/-- The code of the ramp destination, 3 when no ramp is in progress. -/
def Play.destCode : Play → Nat
  | .rampDown .paused => 0 | .rampDown .stopped => 1 | .rampDown .leave => 2 | _ => 3

def Intent.code : Intent → Nat
  | .play => 0 | .pause => 1 | .stop => 2

def StoredIntent.code : StoredIntent → Nat
  | .playing => 0 | .paused => 1

def RateState.code : RateState → Nat
  | .none => 0 | .agreed => 1 | .limited => 2

def RateCause.code : RateCause → Nat
  | .offer => 0 | .ceiling => 1 | .downgrade => 2 | .upgrade => 3 | .reset => 4

def DirectoryFlaw.code : DirectoryFlaw → Nat
  | .rateCode => 0 | .programCount => 1 | .length => 2 | .order => 3 | .startRange => 4

def WakeSource.code : WakeSource → Nat
  | .sPort => 0 | .tray => 1 | .wake => 2

def RespCode.code : RespCode → Nat
  | .ok => 0 | .badFrame => 1 | .unknownCommand => 2 | .busy => 3
  | .notStarted => 4 | .wrongState => 5 | .noDisc => 6 | .noEntry => 7

/-- A rate as sent: 1, 2 or 4. -/
def Rate.code : Rate → Nat
  | .x1 => 1 | .x2 => 2 | .x4 => 4

/-- An optional rate as sent: 0 when absent. -/
def capCode : Option Rate → Nat
  | none => 0
  | some r => r.code

/-- The outcome that a byte of ORDER_DONE names (R158). -/
def outcomeOf (b : Byte) : Option DoneOutcome :=
  if b = 0 then some .read else if b = 1 then some .unreadable else if b = 2 then some .interrupted else none

/-- The codes of the S-port's commands (R158). -/
def sCodes : List Byte :=
  [0x01, 0x02, 0x03, 0x04, 0x05, 0x06, 0x07, 0x08, 0x09, 0x0A, 0x0B, 0x0C, 0x0D, 0x0E, 0x0F, 0x10, 0x11, 0x12, 0x13]

/-- The codes of the D-port's commands (R158). -/
def dCodes : List Byte := [0x05, 0x21, 0x22, 0x23, 0x24, 0x25, 0x26]

/-- The code names a command of the port. -/
def knownCode : Port → Byte → Bool
  | .s, c => sCodes.contains c
  | .d, c => dCodes.contains c

end Sys2Proof.Machine
end

