-- ==== Sys2Proof/Machine/RingStore.lean ====
section
/-! DEFINITION. The ring store: reading and writing slots, the slot transitions of R10, the window's views. -/

namespace Sys2Proof.Machine

/-! ### Slots by index -/

/-- The slot is EMPTY. -/
def Slot.isEmpty : Slot → Bool
  | .empty => true
  | _ => false

/-- Read a slot by index; an index that is not listed is EMPTY. -/
def slotsGet (i : Nat) : List (Nat × Slot) → Slot
  | [] => .empty
  | (j, v) :: rest => if i = j then v else slotsGet i rest

/-- Write a slot by index, keeping the indices rising and listing no EMPTY slot. -/
def slotsPut (i : Nat) (v : Slot) : List (Nat × Slot) → List (Nat × Slot)
  | [] => if v.isEmpty then [] else [(i, v)]
  | (j, u) :: rest =>
    if i < j then (if v.isEmpty then (j, u) :: rest else (i, v) :: (j, u) :: rest)
    else if i = j then (if v.isEmpty then rest else (i, v) :: rest)
    else (j, u) :: slotsPut i v rest

/-- Indices strictly rising, all above `lo`. -/
def indicesRise : List (Nat × Slot) → Bool
  | (i, _) :: (j, v) :: rest => i < j && indicesRise ((j, v) :: rest)
  | _ => true

/-- The canonical form of the slot list: indices strictly rising, no EMPTY slot listed. -/
def slotsWf (l : List (Nat × Slot)) : Bool :=
  indicesRise l && l.all fun x => !x.2.isEmpty

/-! ### What a slot holds (R4, R5) -/

/-- The address tag, held in every state but EMPTY. -/
def Slot.tag : Slot → Option Nat
  | .empty => none
  | .missing t => some t
  | .clean t _ _ => some t
  | .flawed t _ _ _ _ => some t
  | .void t => some t

/-- CLEAN, FLAWED or VOID. -/
def Slot.playable : Slot → Bool
  | .clean .. => true
  | .flawed .. => true
  | .void _ => true
  | _ => false

/-- MISSING. -/
def Slot.isMissing : Slot → Bool
  | .missing _ => true
  | _ => false

/-- FLAWED. -/
def Slot.isFlawed : Slot → Bool
  | .flawed .. => true
  | _ => false

/-- VOID. -/
def Slot.isVoid : Slot → Bool
  | .void _ => true
  | _ => false

/-- The flaw map over W words: fully marked in MISSING and VOID, no mark in CLEAN, none held in EMPTY (R5). -/
def Slot.map (w : Nat) : Slot → List Bool
  | .empty => []
  | .missing _ => List.replicate w true
  | .clean .. => List.replicate w false
  | .flawed _ m _ _ _ => m
  | .void _ => List.replicate w true

/-- The flaw count: the number of marks of the map (R5). -/
def Slot.flawCount (w : Nat) (s : Slot) : Nat := markCount (s.map w)

/-- Bad in the planner's sense: MISSING, or FLAWED, not settled and with a count above the threshold, which is
compared against W at most (R57). -/
def Slot.bad (threshold w : Nat) : Slot → Bool
  | .missing _ => true
  | .flawed _ m _ _ settled => !settled && markCount m > min threshold w
  | _ => false

/-- Word i of a slot with its mark; a slot without a payload gives a marked word (R12). -/
def Slot.wordAt (i : Nat) : Slot → Bool × Word
  | .clean _ p _ => (false, p.getD i 0)
  | .flawed _ m p _ _ => (m.getD i true, p.getD i 0)
  | _ => (true, 0)

/-- The slot that a block fills: CLEAN when it has no mark, FLAWED otherwise (R10). -/
def Block.filled (b : Block) (tag : Nat) (source : Source) : Slot :=
  if markCount b.marks = 0 then .clean tag b.words source else .flawed tag b.marks b.words source false

/-! ### The window -/

/-- L from a strap value (R1). -/
def ringLength (straps : BitVec 2) : Nat :=
  if straps = 0 then 512 else if straps = 1 then 1024 else 2048

/-- L in force. -/
def Ring.len (r : Ring) : Nat := ringLength r.straps

/-- The slot of an address: index A mod L (R3). -/
def Ring.slot (r : Ring) (a : Nat) : Slot := slotsGet (a % r.len) r.slots

/-- Write the slot of an address. -/
def Ring.setSlot (a : Nat) (v : Slot) (r : Ring) : Ring := { r with slots := slotsPut (a % r.len) v r.slots }

/-- The address lies in P..P+L-1 and its slot carries it as its tag: what a request to a held slot needs (R10). -/
def Ring.holds (r : Ring) (a : Nat) : Bool := r.p ≤ a && a < r.p + r.len && (r.slot a).tag == some a

/-- Fullness E − P (R11). -/
def Ring.fullness (r : Ring) : Nat := r.e - r.p

/-- Consecutive playable slots from an address up, at most `n`. -/
def playableFrom (r : Ring) : Nat → Nat → Nat
  | 0, _ => 0
  | n + 1, a => if (r.slot a).playable then 1 + playableFrom r n (a + 1) else 0

/-- Depth: consecutive playable slots from P up, at most to E (R11). -/
def Ring.depth (r : Ring) : Nat := playableFrom r r.fullness r.p

/-- How many slots of P..E-1 satisfy a test: the window tallies (R11). -/
def Ring.tally (r : Ring) (test : Slot → Bool) : Nat :=
  (List.range' r.p r.fullness).countP fun a => test (r.slot a)

/-- The figures of the window, counted in its slots (R11). -/
def Ring.counted (r : Ring) : Figures :=
  ⟨r.depth, r.tally Slot.isMissing, r.tally Slot.isFlawed, r.tally Slot.isVoid⟩

/-- The figures that the ring store holds: those of the slots, or in SLEEPING those of the slots lost with the DRAM
supply, which nothing reads (R19). -/
def Ring.figures (r : Ring) : Figures := r.asleep.getD r.counted

/-- The DRAM loses its supply: the slot records are gone, the figures stay as they were (R19). -/
def Ring.loseSlots (r : Ring) : Ring := { r with slots := [], asleep := some r.figures }

/-! ### The slot transitions (R10) -/

/-- Mark the slots of `n` addresses from `a` on MISSING, each when it is EMPTY. -/
def markMissing : Nat → Nat → Ring → Ring
  | 0, _, r => r
  | n + 1, a, r => markMissing n (a + 1) (if (r.slot a).isEmpty then r.setSlot a (.missing a) else r)

/-- Place a block at A ≥ E inside the window, when its slot is EMPTY: the addresses passed over become MISSING and E
becomes A+1 (R10, R33). -/
def Ring.place (a : Nat) (b : Block) (r : Ring) : Ring :=
  if r.e ≤ a && a < r.p + r.len && (r.slot a).isEmpty then
    { (markMissing (a - r.e) r.e r).setSlot a (b.filled a .stream) with e := a + 1 }
  else r

/-- Merge position by position (R52): the arriving word where the held one is flawed and it is clean. -/
def mergeWords : List Bool → List Word → List Bool → List Word → List Word
  | hm :: hms, hw :: hws, am :: ams, aw :: aws =>
    (if hm && !am then aw else hw) :: mergeWords hms hws ams aws
  | _, hws, _, _ => hws

/-- The marks after a merge: set where both copies are marked (R52). -/
def mergeMarks : List Bool → List Bool → List Bool
  | hm :: hms, am :: ams => (hm && am) :: mergeMarks hms ams
  | hms, _ => hms

/-- A FLAWED slot after a merge (R53). -/
def mergeFlawed (tag : Nat) (map : List Bool) (words : List Word) (source : Source) (settled : Bool) (b : Block) : Slot :=
  let map' := mergeMarks map b.marks
  let words' := mergeWords map words b.marks b.words
  let source' := if markCount map' < markCount map then Source.repair else source
  if markCount map' = 0 then .clean tag words' source' else .flawed tag map' words' source' settled

/-- The slot after an accepted block at A < E (R51, R52, R54). -/
def acceptInto (a : Nat) (b : Block) : Slot → Slot
  | .missing _ => b.filled a .repair
  | .void _ => b.filled a .repair
  | .flawed t m p src settled => mergeFlawed t m p src settled b
  | other => other

/-- Accept a block at A < E into its slot (R34). -/
def Ring.accept (a : Nat) (b : Block) (r : Ring) : Ring :=
  if r.holds a then r.setSlot a (acceptInto a b (r.slot a)) else r

/-- The slot's source is REPAIR. -/
def Slot.fromRepair : Slot → Bool
  | .clean _ _ .repair => true
  | .flawed _ _ _ .repair _ => true
  | _ => false

/-- Give up a hole: MISSING becomes VOID (R10). -/
def Ring.giveUpHole (a : Nat) (r : Ring) : Ring :=
  if r.holds a && (r.slot a).isMissing then r.setSlot a (.void a) else r

/-- A slot after the planner gives it up: a hole becomes VOID, a FLAWED slot is settled (R10). -/
def Slot.givenUp : Slot → Slot
  | .missing t => .void t
  | .flawed t m p src _ => .flawed t m p src true
  | other => other

/-- Give up a slot for the planner (R69). -/
def Ring.giveUp (a : Nat) (r : Ring) : Ring :=
  if r.holds a then r.setSlot a (r.slot a).givenUp else r

/-- Release slot P: it becomes EMPTY and P rises by one; refused when it is EMPTY (R13). -/
def Ring.release (r : Ring) : Ring :=
  if (r.slot r.p).isEmpty then r else { r.setSlot r.p .empty with p := r.p + 1 }

/-- Empty the slots of `n` addresses from `a` on. -/
def emptySlots : Nat → Nat → Ring → Ring
  | 0, _, r => r
  | n + 1, a, r => emptySlots n (a + 1) (r.setSlot a .empty)

/-- The in-window advance: release P..A-1 and set P to A (R14). -/
def Ring.advance (a : Nat) (r : Ring) : Ring :=
  { emptySlots (a - r.p) r.p r with p := a }

/-- Flush to an address: every slot EMPTY, P = E = the address, the owner set (R15, R16). -/
def Ring.flush (a : Nat) (owner : Option (BitVec 32)) (r : Ring) : Ring :=
  { r with slots := [], p := a, e := a, owner := owner }

/-- The seam difference d: positions where both copies are clean and the words differ (R44). -/
def seamDiff : List Bool → List Word → List Bool → List Word → Nat
  | hm :: hms, hw :: hws, am :: ams, aw :: aws =>
    (if !hm && !am && hw != aw then 1 else 0) + seamDiff hms hws ams aws
  | _, _, _, _ => 0

/-- d of a held slot against an arriving block. -/
def Slot.diff (w : Nat) (b : Block) : Slot → Nat
  | .clean _ p _ => seamDiff (List.replicate w false) p b.marks b.words
  | .flawed _ m p _ _ => seamDiff m p b.marks b.words
  | _ => 0

end Sys2Proof.Machine
end

