-- ==== Sys2Proof/Machine/Flags.lean ====
section
/-! DEFINITION. The views of the state: every flag, line, status bit and figure that the spec computes from what
the blocks hold. -/

namespace Sys2Proof.Machine

/-! ### The disc in play -/

/-- T, the disc length of the current directory; 0 while none is held (R8, R132). -/
def State.t (s : State) : Nat :=
  match s.session.directory with
  | none => 0
  | some d => d.t

/-- The rate code in force. With no directory held nothing reads it (log 20). -/
def State.rate (s : State) : RateCode :=
  match s.session.directory with
  | none => .r44100
  | some d => d.rate

/-- F. -/
def State.frames (s : State) : Nat := s.rate.frames

/-- W. -/
def State.w (s : State) : Nat := s.rate.words

/-- The slot of an address. -/
def State.slot (s : State) (a : Nat) : Slot := s.ring.slot a

/-- The slot of an address is CLEAN, FLAWED or VOID. -/
def State.playable (s : State) (a : Nat) : Bool := (s.slot a).playable

/-- The slot of an address is bad in the planner's sense (R57). -/
def State.badAt (s : State) (a : Nat) : Bool := (s.slot a).bad s.params.repairThreshold s.w

/-! ### The planner's views -/

/-- An Order Queue entry is ISSUED. -/
def Order.isIssued (o : Order) : Bool := o.issue.isSome

/-- The entry covers the address (R56). -/
def Order.covers (o : Order) (a : Nat) : Bool := o.first ≤ a && a < o.first + o.count

/-- The ISSUED entry. -/
def Planner.issuedEntry (p : Planner) : Option Order := p.queue.find? Order.isIssued

/-- The tag of an entry, 0 when it is QUEUED (R73). -/
def Order.tagOr0 (o : Order) : Nat :=
  match o.issue with
  | none => 0
  | some i => i.tag

/-- Work waits: the queue holds an entry and none is ISSUED (R62). -/
def Planner.workWaits (p : Planner) : Bool := !p.queue.isEmpty && !p.queue.any Order.isIssued

/-- The lowest placeable address: P+1 while slot P is open, P while it is unopened (R58). -/
def State.lowestPlaceable (s : State) : Nat := if s.engine.slotOpen then s.ring.p + 1 else s.ring.p

/-- The bad addresses of a range, in ascending order. -/
def State.badIn (s : State) (first count : Nat) : List Nat := (List.range' first count).filter s.badAt

/-- The reason of an entry is HOLE: a slot of its range is MISSING (R56). -/
def State.reasonHole (s : State) (o : Order) : Bool :=
  (List.range' o.first o.count).any fun a => (s.slot a).isMissing

/-! ### The rates (R79, R80, R89) -/

/-- The rates of an offer, from slowest to fastest. -/
def Offer.ladder (o : Offer) : List Rate :=
  .x1 :: ((if o.x2 then [.x2] else []) ++ if o.x4 then [.x4] else [])

/-- The highest offered rate at or below a rate; an offer always holds 1x. -/
def Offer.atMost (o : Offer) (r : Rate) : Rate :=
  (o.ladder.filter fun x => x.code ≤ r.code).getLastD .x1

/-- The next lower rate of the offer. -/
def Offer.below (o : Offer) (r : Rate) : Option Rate :=
  (o.ladder.filter fun x => x.code < r.code).getLast?

/-- The next higher rate of the offer at or below the agreed rate. -/
def Offer.above (o : Offer) (r agreed : Rate) : Option Rate :=
  (o.ladder.filter fun x => r.code < x.code && x.code ≤ agreed.code).head?

/-- The effective ceiling: the ceiling parameter taken down to 1x, 2x or 4x (R80). -/
def effectiveCeiling (p : Params) : Rate :=
  if p.ceiling ≥ 4 then .x4 else if p.ceiling ≥ 2 then .x2 else .x1

/-- The state of the unit follows from the rates (R79). -/
def Rates.state (r : Rates) : RateState :=
  match r.held with
  | none => .none
  | some a => if a.requested = a.agreed then .agreed else .limited

/-- The reported agreed rate: 1x in NONE (R89). -/
def Rates.agreed (r : Rates) : Rate :=
  match r.held with
  | none => .x1
  | some a => a.agreed

/-- The reported requested rate: 1x in NONE (R89). -/
def Rates.requested (r : Rates) : Rate :=
  match r.held with
  | none => .x1
  | some a => a.requested

/-! ### The engine's views -/

/-- The engine produces frames from slot P (R93). -/
def Play.producing : Play → Bool
  | .playing => true
  | .rampDown _ => true
  | _ => false

/-- The hole wait limit in frames (R101). -/
def State.holeWaitLimit (s : State) : Nat := s.rate.msToFrames s.params.holeWait

/-- The program number: the largest k whose start address is at or below P, 0 when there is none (R96). -/
def programAt (starts : List Nat) (p : Nat) : Nat :=
  (starts.zipIdx 1).foldl (fun acc x => if x.1 ≤ p then x.2 else acc) 0

/-- The program number for the present P. -/
def State.programNow (s : State) : Nat :=
  match s.session.directory with
  | none => 0
  | some d => programAt d.starts s.ring.p

/-- The start address of program k, counted from 1. -/
def Directory.startOf (d : Directory) (k : Nat) : Nat := d.starts.getD (k - 1) 0

/-- A LONG run is in progress in the channel. -/
def Channel.inLong (c : Channel) : Bool :=
  match c.run with
  | some (.long _) => true
  | _ => false

/-- The conceal target as R123 derives it. -/
def State.concealTarget (s : State) : Nat :=
  if s.engine.anticipate || s.conceal.left.inLong || s.conceal.right.inLong then 0 else 4096

/-! ### Lines and flags -/

/-- The pause flag (R36). -/
def State.pauseFlag (s : State) : Bool := s.intake.latch || s.engine.play == .stopped

/-- RDY_B is high (R38). -/
def State.rdyB (s : State) : Bool :=
  s.power.powered && !s.power.resetLine && s.power.mode == .running && s.ring.clear.isNone

/-- BUSY (R151). -/
def State.busy (s : State) : Bool := s.ring.clear.isSome || s.power.resetLine || s.power.entry.isSome

/-- The mode is HELD or SLEEPING. -/
def Mode.isLow : Mode → Bool
  | .held => true
  | .sleeping => true
  | _ => false

/-- The headers a ring clear has still to write: L, one fewer every 2 µs (R17). -/
def State.headersLeft (s : State) : Nat :=
  match s.ring.clear with
  | none => 0
  | some c => s.ring.len - (s.now - c.since) / 2

/-! ### Events (R159) -/

/-- The position of an S-port event in its list. -/
def SEvent.pos : SEvent → Nat
  | .playStateChanged .. => 0
  | .programChanged .. => 1
  | .endOfDisc _ => 2
  | .starved _ => 3
  | .slotAbandoned .. => 4
  | .concealMute .. => 5
  | .fillStalled .. => 6
  | .discIdentified .. => 7
  | .discMatched .. => 8
  | .directoryBad _ => 9
  | .noDirectory => 10
  | .sessionEnded .. => 11
  | .rateChanged .. => 12
  | .counterAlert _ => 13
  | .woke _ => 14

/-- The position of a D-port event in its list. -/
def DEvent.pos : DEvent → Nat
  | .orderAvailable => 0
  | .orderComplete _ => 1
  | .orderWithdrawn .. => 2
  | .pauseChanged _ => 3
  | .seekRequested _ => 4
  | .seamReject .. => 5
  | .rateChanged .. => 6
  | .sessionChanged => 7

/-- The data bytes of an S-port event's record. -/
def SEvent.data : SEvent → List Byte
  | .playStateChanged p i => [byteOf p.code, byteOf p.destCode, byteOf i.code]
  | .programChanged k p => byteOf k :: le24 p
  | .endOfDisc t => le24 t
  | .starved p => le24 p
  | .slotAbandoned a b => le24 a ++ le24 b
  | .concealMute p f => le24 p ++ le16 f
  | .fillStalled st p e d => byteOf st.code :: (le24 p ++ le24 e ++ le16 d)
  | .discIdentified fp c n t => le32 fp.toNat ++ [byteOf c.code, byteOf n] ++ le24 t
  | .discMatched r a f i => byteOf r :: (le24 a ++ le16 f ++ [byteOf i.code])
  | .directoryBad r => [byteOf r.code]
  | .noDirectory => []
  | .sessionEnded fp a f i => le32 fp.toNat ++ le24 a ++ le16 f ++ [byteOf i.code]
  | .rateChanged a r st c => [byteOf a.code, byteOf r.code, byteOf st.code, byteOf c.code]
  | .counterAlert fl => packBits 2 fl
  | .woke w => [byteOf w.code]

/-- The data bytes of a D-port event's record. -/
def DEvent.data : DEvent → List Byte
  | .orderAvailable => []
  | .orderComplete t => [byteOf t]
  | .orderWithdrawn t a => byteOf t :: le24 a
  | .pauseChanged f => [byteOf f.toNat]
  | .seekRequested a => le24 a
  | .seamReject a t d => le24 a ++ [t] ++ le16 d
  | .rateChanged a r st c => [byteOf a.code, byteOf r.code, byteOf st.code, byteOf c.code]
  | .sessionChanged => []

/-- An S-port record: position, repeat count, data. -/
def sRecord (l : Latched SEvent) : List Byte := byteOf l.ev.pos :: byteOf l.count :: l.ev.data

/-- A D-port record: position, repeat count, data. -/
def dRecord (l : Latched DEvent) : List Byte := byteOf l.ev.pos :: byteOf l.count :: l.ev.data

/-- An S-port event position is masked. -/
def sMasked (p : Params) (pos : Nat) : Bool := p.sMask.getLsbD pos

/-- A D-port event position is masked. -/
def dMasked (p : Params) (pos : Nat) : Bool := p.dMask.getLsbD pos

/-- EVENTS_PENDING of a port: an unmasked event is latched in its set (R160). -/
def State.eventsPending (s : State) : Port → Bool
  | .s => s.events.sSet.any fun l => !sMasked s.params l.ev.pos
  | .d => s.events.dSet.any fun l => !dMasked s.params l.ev.pos

/-- A port's attention line is asserted (R160); it is released while RESET is held or the part is unpowered (R18). -/
def State.attention (s : State) (port : Port) : Bool :=
  s.power.powered && !s.power.resetLine &&
    match port with
    | .s => if s.params.sMode = .level then s.eventsPending .s else s.events.sPulse.isSome
    | .d => if s.params.dMode = .level then s.eventsPending .d else s.events.dPulse.isSome

/-! ### The status byte (R151, R158) -/

/-- What a port holds. -/
def State.port (s : State) : Port → PortState
  | .s => s.sPort
  | .d => s.dPort

/-- One bit of a byte. -/
def bitIf (b : Bool) (n : Nat) : Nat := if b then 2 ^ n else 0

/-- The device mode shown: UNCONFIGURED while RESET is held (R18). -/
def State.shownMode (s : State) : Mode := if s.power.resetLine then .unconfigured else s.power.mode

/-- The status byte of a port. -/
def State.statusByte (s : State) (port : Port) : Byte :=
  byteOf (bitIf s.busy 7 + bitIf (s.port port).response.isSome 6 + bitIf (s.port port).error 5 +
    bitIf (s.eventsPending port) 4 + s.shownMode.code)

/-! ### The sample line (R129) -/

/-- The bits SLD carries over a half period of `n` SLK periods: the word, most significant bit first, then 0. -/
def sldHalf (w : Word) (n : Nat) : List Bool := (List.range n).map fun i => i < 16 && w.getMsbD i

/-- The bits of SLD over one half of the present frame period, `n` SLK periods long: the left word while SLF is high, the
right word while it is low, of the frame being shifted out (R129). -/
def State.sld (s : State) (slfHigh : Bool) (n : Nat) : List Bool :=
  sldHalf (if slfHigh then s.line.shifting.left else s.line.shifting.right) n

/-- SLC during the present frame period. -/
def State.slc (s : State) : Bool := s.line.shifting.slc

end Sys2Proof.Machine
end

