-- ==== Sys2Proof/Machine/Ops.lean ====
section
/-! DEFINITION. The shared operations of the event unit, the timebase, the ports and the concealment gains. -/

namespace Sys2Proof.Machine

/-! ### The timebase -/

/-- Time passes up to a reading; a reading already passed leaves the timebase as it is (log 4). -/
def elapseTo (t : Nat) (s : State) : State := { s with now := max s.now t }

/-! ### Raising events (R159, R160) -/

/-- An event of that position is latched. -/
def isLatched {α : Type} (pos : α → Nat) (n : Nat) (l : List (Latched α)) : Bool := l.any fun x => pos x.ev == n

/-- Latch an event: a clear flag is set with count 1, a set one takes the new data and a count up to 255 (R159).
The set stays in ascending position. -/
def latch {α : Type} (pos : α → Nat) (e : α) : List (Latched α) → List (Latched α)
  | [] => [⟨e, 1⟩]
  | x :: rest =>
    if pos e < pos x.ev then ⟨e, 1⟩ :: x :: rest
    else if pos e = pos x.ev then ⟨e, min (x.count + 1) 255⟩ :: rest
    else x :: latch pos e rest

/-- Raise an event on the S-port; in PULSE mode a fresh unmasked event starts a pulse (R160). -/
def raiseS (e : SEvent) (s : State) : State :=
  { s with events := { s.events with
      sSet := latch SEvent.pos e s.events.sSet
      sPulse :=
        if s.params.sMode = .pulse && !sMasked s.params e.pos && !isLatched SEvent.pos e.pos s.events.sSet then
          some s.now
        else s.events.sPulse } }

/-- Raise an event on the D-port; in PULSE mode a fresh unmasked event starts a pulse (R160). -/
def raiseD (e : DEvent) (s : State) : State :=
  { s with events := { s.events with
      dSet := latch DEvent.pos e s.events.dSet
      dPulse :=
        if s.params.dMode = .pulse && !dMasked s.params e.pos && !isLatched DEvent.pos e.pos s.events.dSet then
          some s.now
        else s.events.dPulse } }

/-! ### Counters (R162, R163) -/

/-- The place of a counter: its index less one. -/
def CounterId.idx : CounterId → Fin 15
  | .blocksAccepted => 0
  | .blocksImproved => 1
  | .flawedWordsReceived => 2
  | .wordsInterpolated => 3
  | .wordsHeld => 4
  | .concealMutes => 5
  | .starveEpisodes => 6
  | .slotsAbandoned => 7
  | .ordersIssued => 8
  | .attemptsFailed => 9
  | .seamRejects => 10
  | .unverifiedRuns => 11
  | .blocksDiscarded => 12
  | .skipNotices => 13
  | .rateDowngrades => 14

/-- The value of a counter. -/
def State.counter (s : State) (c : CounterId) : Nat := s.events.counters[c.idx].value

/-- The fifteen alerted flags, in index order. -/
def alertedFlags (cs : Vector Counter 15) : List Bool := cs.toList.map Counter.alerted

/-- A counter after a rise by `n`, stopping at 16,777,215; it alerts when it stands at or above the threshold (R163). -/
def Counter.risen (threshold n : Nat) (c : Counter) : Counter :=
  let v := min (c.value + n) 16777215
  ⟨v, c.alerted || decide (v ≥ threshold)⟩

/-- A counter rises by `n`; COUNTER_ALERT is raised when its alerted flag becomes set (R162, R163). A rise by 0 is
no rise. -/
def rise (c : CounterId) (n : Nat) (s : State) : State :=
  if n = 0 then s
  else
    let old := s.events.counters[c.idx]
    let new := old.risen s.params.alertThreshold n
    let s' := { s with events := { s.events with counters := s.events.counters.set c.idx new } }
    if new.alerted && !old.alerted then raiseS (.counterAlert (alertedFlags s'.events.counters)) s' else s'

/-- Clear the counters and their flags (R162). -/
def clearCounters (s : State) : State :=
  { s with events := { s.events with counters := Vector.replicate 15 ⟨0, false⟩ } }

/-- A frame is discarded, in whatever class: blocks discarded rises by one (R22). -/
def discardFrame (s : State) : State := rise .blocksDiscarded 1 s

/-! ### Ports (R149, R150, R152) -/

/-- Change what a port holds. -/
def setPort (port : Port) (p : PortState) (s : State) : State :=
  match port with
  | .s => { s with sPort := p }
  | .d => { s with dPort := p }

/-- Make a response the pending one of its port; ERROR follows its code (R150, R151). -/
def respond (port : Port) (code : RespCode) (data : List Byte) (s : State) : State :=
  setPort port { s.port port with response := some ⟨code, data⟩, error := code != .ok } s

/-- The bytes of the data flags: bit 0 CLAMPED, bit 1 STALE (R152). -/
def flagsByte (clamped stale : Bool) : Byte := byteOf (bitIf clamped 0 + bitIf stale 1)

/-- Answer a refusal code with the flags byte alone (R152). -/
def refuse (port : Port) (code : RespCode) (s : State) : State := respond port code [0] s

/-- Answer OK with both flags clear. -/
def respondOk (port : Port) (data : List Byte) (s : State) : State := respond port .ok (0 :: data) s

/-- Record the bytes the part sends in a transaction: the status byte as SS falls, then 0x00 to the end (R148). -/
def sendStatus (port : Port) (more : Nat) (s : State) : State :=
  setPort port { s.port port with sent := s.statusByte port :: List.replicate more 0 } s

/-- The bytes of a response frame behind a status byte, its check byte last (R150, R158). -/
def responseFrame (status : Byte) (r : Response) : List Byte :=
  let body := status :: byteOf r.code.code :: byteOf r.data.length :: r.data
  body ++ [checkByte body]

/-! ### The gains (R123 to R126) -/

/-- Change the play target; a ramp that starts from rest fixes its step (R125). -/
def setPlayTarget (target : Nat) (s : State) : State :=
  let c := s.conceal
  if target = c.gpTarget then s
  else
    { s with conceal := { c with
        gpTarget := target
        gpStep := if c.gp = c.gpTarget then rampStep s.params.rp else c.gpStep } }

/-- Set the play gain at once, with its target; away from the target a ramp starts (R125, R126). -/
def setPlayGain (gain target : Nat) (s : State) : State :=
  { s with conceal := { s.conceal with
      gp := gain
      gpTarget := target
      gpStep := if gain = target then s.conceal.gpStep else rampStep s.params.rp } }

/-- Take a conceal target: a change starts a ramp, whose direction fixes its step (R125). -/
def takeConcealTarget (target : Nat) (s : State) : State :=
  if target = s.conceal.gcTarget then s
  else if target = 0 then
    { s with conceal := { s.conceal with gcTarget := target, gcDown := rampStep s.params.rd } }
  else
    { s with conceal := { s.conceal with gcTarget := target, gcUp := rampStep s.params.ru } }

/-- Set the conceal gain at once; the target is the one R123 derives, and away from it a ramp starts (R125, R126). -/
def setConcealGain (gain : Nat) (s : State) : State :=
  let target := s.concealTarget
  let c := { s.conceal with gc := gain, gcTarget := target }
  { s with conceal :=
      if gain < target then { c with gcUp := rampStep s.params.ru }
      else if target < gain then { c with gcDown := rampStep s.params.rd }
      else c }

/-- One step of a gain towards its target, stopping at it (R124). -/
def stepGain (gain target up down : Nat) : Nat :=
  if gain < target then min (gain + up) target else max (gain - down) target

/-- The frame's step of both gains, after the conceal target is derived (R123, R124). -/
def stepGains (s : State) : State :=
  let s := takeConcealTarget s.concealTarget s
  let c := s.conceal
  { s with conceal := { c with
      gp := stepGain c.gp c.gpTarget c.gpStep c.gpStep
      gc := stepGain c.gc c.gcTarget c.gcUp c.gcDown } }

/-- Drop both channels' flaw runs and set their last clean values to 0 (R122). -/
def dropRuns (s : State) : State :=
  { s with conceal := { s.conceal with left := channelReset, right := channelReset } }

end Sys2Proof.Machine
end

