-- ==== Sys2Proof/Machine/RateOps.lean ====
section
/-! DEFINITION. The rate agreement unit: its changes and the report of each (05). -/

namespace Sys2Proof.Machine

/-- Replace what the unit holds; RATE_CHANGED is raised on both ports when a reported rate changes (R89). -/
def setRates (cause : RateCause) (new : Rates) (s : State) : State :=
  let s' := { s with rates := new }
  if s.rates.agreed = new.agreed && s.rates.requested = new.requested then s'
  else
    s' |> raiseS (.rateChanged new.agreed new.requested new.state cause)
       |> raiseD (.rateChanged new.agreed new.requested new.state cause)

/-- RATE_OFFER: the offer replaces the rates, under a pending cap when one is held (R81). -/
def takeOffer (offer : Offer) (s : State) : State :=
  let agreed := offer.atMost (effectiveCeiling s.params)
  let requested :=
    match s.rates.cap with
    | none => agreed
    | some cap => offer.atMost (if cap.code < agreed.code then cap else agreed)
  setRates .offer ⟨some ⟨offer, agreed, requested⟩, 0, none⟩ s

/-- A change of the ceiling parameter, already stored (R83). Rates that the unit keeps outside PRESENT change with it,
where R90 says that they do not change until the next entry: DESIGN CHOICE (log 45). -/
def applyCeiling (s : State) : State :=
  match s.rates.held with
  | none => s
  | some a =>
    let agreed := a.offer.atMost (effectiveCeiling s.params)
    let requested := if agreed.code < a.requested.code then agreed else a.requested
    let limited := a.requested ≠ a.agreed ∧ requested ≠ agreed
    setRates .ceiling ⟨some ⟨a.offer, agreed, requested⟩, if limited then s.rates.progress else 0, s.rates.cap⟩ s

/-- A step down of the requested rate (R80, R84). -/
def rateStepDown (s : State) : State :=
  match s.rates.held with
  | none => s
  | some a =>
    match a.offer.below a.requested with
    | none => s
    | some lower =>
      s |> rise .rateDowngrades 1
        |> setRates .downgrade ⟨some ⟨a.offer, a.agreed, lower⟩, 0, s.rates.cap⟩

/-- A step up of the requested rate, the progress back at 0 (R80, R86). -/
def rateStepUp (s : State) : State :=
  match s.rates.held with
  | none => s
  | some a =>
    match a.offer.above a.requested a.agreed with
    | none => { s with rates := { s.rates with progress := 0 } }
    | some higher => setRates .upgrade ⟨some ⟨a.offer, a.agreed, higher⟩, 0, s.rates.cap⟩ s

/-- The unit steps up when it is LIMITED and its progress stands at the interval or above (R86, R87); outside PRESENT
too: DESIGN CHOICE (log 45). -/
def judgeUpgrade (s : State) : State :=
  if s.rates.state = .limited ∧ s.params.upgradeInterval ≤ s.rates.progress then rateStepUp s else s

/-- An accepted block counts towards a step up in LIMITED (R85, R86). -/
def countUpgrade (s : State) : State :=
  if s.rates.state = .limited then
    judgeUpgrade { s with rates := { s.rates with progress := s.rates.progress + 1 } }
  else s

/-- Set the unit to NONE with the pending cap given (R88). -/
def ratesToNone (cap : Option Rate) (s : State) : State := setRates .reset ⟨none, 0, cap⟩ s

/-- The learned cap a resume entry takes: the requested rate in LIMITED, none otherwise (R82, R143). -/
def learnedCap (s : State) : Option Rate := if s.rates.state = .limited then some s.rates.requested else none

end Sys2Proof.Machine
end

