-- ==== Sys2Proof/Machine/PlannerOps.lean ====
section
/-! DEFINITION. The repair planner: judging and trimming entries, the scan, counted failures, giving up (04). -/

namespace Sys2Proof.Machine

/-- Replace the Order Queue. -/
def setQueue (q : List Order) (s : State) : State := { s with planner := { s.planner with queue := q } }

/-- Note that the present event ends with a scan (R59). -/
def dueScan (s : State) : State := { s with planner := { s.planner with scanDue := true } }

/-- The queue without the entry that begins at `first`; no two entries begin at one address (R56). -/
def removeFirst (first : Nat) (q : List Order) : List Order := q.filter fun o => o.first != first

/-- Remove the entry that begins at `first`, which frees a place and calls for a scan (R59). -/
def removeOrder (first : Nat) (s : State) : State :=
  s |> setQueue (removeFirst first s.planner.queue) |> dueScan

/-- Replace the entry that begins at `first`. -/
def replaceOrder (first : Nat) (new : Order) (s : State) : State :=
  setQueue (s.planner.queue.map fun o => if o.first = first then new else o) s

/-- An entry trimmed to the first and last of the bad addresses of its range (R66, R68, R71). -/
def trimTo (bad : List Nat) (o : Order) : Order :=
  { o with first := bad.headD o.first, count := bad.getLastD o.first + 1 - bad.headD o.first }

/-- The consecutive-failure count at a rise, judged against the downgrade limit (R72). -/
def setFails (n : Nat) (s : State) : State := { s with planner := { s.planner with fails := n } }

/-- Step down when the count stands at the downgrade limit or above; the count returns to 0 (R72, R75, R84).
Rates kept outside PRESENT step down too: DESIGN CHOICE (log 45). -/
def judgeFails (s : State) : State :=
  if s.params.downgradeLimit ≤ s.planner.fails then s |> rateStepDown |> setFails 0 else s

/-- One counted failure (R68). -/
def countFailure (s : State) : State :=
  let s := s |> rise .attemptsFailed 1 |> setFails (s.planner.fails + 1) |> judgeFails
  { s with rates := { s.rates with progress := 0 } }

/-- Give up the bad slots of an entry and remove it (R69). An entry with no bad slot left, which only a lowered retry
limit can find (R75), is removed with nothing given up and no SLOT_ABANDONED: DESIGN CHOICE (log 34). -/
def giveUpOrder (o : Order) (s : State) : State :=
  let bad := s.badIn o.first o.count
  let s := { s with ring := bad.foldl (fun r a => r.giveUp a) s.ring } |> rise .slotsAbandoned bad.length
  let s := if bad.isEmpty then s else raiseS (.slotAbandoned (bad.headD 0) (bad.getLastD 0)) s
  removeOrder o.first s

/-- A failed attempt of the ISSUED entry with bad slots left: counted, then requeued or given up (R68, R69). The
second component says that it was given up. -/
def failAttempt (o : Order) (s : State) : State × Bool :=
  let bad := s.badIn o.first o.count
  let s := countFailure s
  if o.attempts < s.params.retryLimit then
    (s |> replaceOrder o.first { trimTo bad o with issue := none } |> dueScan, false)
  else (giveUpOrder o s, true)

/-- Withdraw an entry: it is removed with ORDER_WITHDRAWN, tag 0 when it was QUEUED (R71, R73). -/
def withdrawOrder (o : Order) (s : State) : State :=
  s |> removeOrder o.first |> raiseD (.orderWithdrawn o.tagOr0 o.first)

/-- Judge an entry from the slot states after an arrival (R71). -/
def judgeArrival (o : Order) (s : State) : State :=
  let bad := s.badIn o.first o.count
  if bad.isEmpty then
    match o.issue with
    | some i => s |> removeOrder o.first |> setFails 0 |> raiseD (.orderComplete i.tag)
    | none => withdrawOrder o s
  else replaceOrder o.first (trimTo bad o) s

/-- Judge the entry that covers an address, when one does (R71). -/
def judgeCovering (a : Nat) (s : State) : State :=
  match s.planner.queue.find? (fun o => o.covers a) with
  | none => s
  | some o => judgeArrival o s

/-- Trim one entry for play to begin at `low` or above; one left empty is withdrawn (R73). -/
def trimForPlay (low : Nat) (o : Order) (s : State) : State :=
  if o.first < low then
    if o.first + o.count ≤ low then withdrawOrder o s
    else replaceOrder o.first { o with first := low, count := o.first + o.count - low } s
  else s

/-- Trim every entry for play (R73), in ascending address order: where several are withdrawn the highest one's data stays in
the record (R159), DESIGN CHOICE (log 40). -/
def trimAll (low : Nat) (s : State) : State :=
  s.planner.queue.foldl (fun s o => trimForPlay low o s) s

/-- Empty the queue and set the tag counter to 0; an ISSUED entry is withdrawn with its tag (R76). -/
def emptyQueue (s : State) : State :=
  let cleared := { s with planner := { s.planner with queue := [], tagCounter := 0 } }
  match s.planner.issuedEntry with
  | none => cleared
  | some o => raiseD (.orderWithdrawn o.tagOr0 o.first) cleared

/-- The next tag: 255 is followed by 1 (R65). -/
def nextTag (n : Nat) : Nat := if n ≥ 255 then 1 else n + 1

/-! ### The scan (R59 to R61) -/

/-- Group ascending addresses into maximal ranges of consecutive ones, as (first, count). -/
def ranges : List Nat → List (Nat × Nat)
  | [] => []
  | a :: rest =>
    match ranges rest with
    | (b, n) :: more => if b = a + 1 then (a, n + 1) :: more else (a, 1) :: (b, n) :: more
    | [] => [(a, 1)]

/-- The uncovered bad ranges of the repair region, from its low end (R58, R59). -/
def uncoveredBad (s : State) : List (Nat × Nat) :=
  ranges ((s.badIn s.lowestPlaceable (s.ring.e - s.lowestPlaceable)).filter fun a =>
    !s.planner.queue.any fun o => o.covers a)

/-- Put a new entry in its place in address order. -/
def insertOrder (o : Order) : List Order → List Order
  | [] => [o]
  | x :: rest => if o.first < x.first then o :: x :: rest else x :: insertOrder o rest

/-- Step 1: extend the QUEUED entry that ends just below the range, up to 64 addresses. Answers the queue and how
many addresses were used (R60). -/
def joinBelow (first n : Nat) : List Order → List Order × Nat
  | [] => ([], 0)
  | o :: rest =>
    if !o.isIssued && o.first + o.count = first then
      let k := min n (64 - o.count)
      ({ o with count := o.count + k } :: rest, k)
    else
      let (rest', k) := joinBelow first n rest
      (o :: rest', k)

/-- Step 2: extend the QUEUED entry that begins just above the rest of the range down over it, when both fit into
64 addresses (R60). -/
def joinAbove (first n : Nat) : List Order → Option (List Order)
  | [] => none
  | o :: rest =>
    if !o.isIssued && o.first = first + n && o.count + n ≤ 64 then
      some ({ o with first := first, count := o.count + n } :: rest)
    else (joinAbove first n rest).map (o :: ·)

/-- Step 3: cut what is left into entries of 64 from its low end; step 2 is tried once more for the last piece. The
flag answers whether a full queue ended the scan (R60, R61). `fuel` bounds the pieces. -/
def newEntries (fuel first n : Nat) (q : List Order) : List Order × Bool :=
  match fuel with
  | 0 => (q, false)
  | fuel + 1 =>
    if n = 0 then (q, false)
    else if n ≤ 64 then
      match joinAbove first n q with
      | some q' => (q', false)
      | none => if q.length < 16 then (insertOrder ⟨first, n, 0, none⟩ q, false) else (q, true)
    else if q.length < 16 then newEntries fuel (first + 64) (n - 64) (insertOrder ⟨first, 64, 0, none⟩ q)
    else (q, true)

/-- Place one uncovered bad range in the queue (R60). -/
def placeRange (first n : Nat) (q : List Order) : List Order × Bool :=
  let (q1, k) := joinBelow first n q
  if n ≤ k then (q1, false)
  else
    match joinAbove (first + k) (n - k) q1 with
    | some q2 => (q2, false)
    | none => newEntries (n - k) (first + k) (n - k) q1

/-- Place ranges in turn until a full queue ends the scan (R61). -/
def placeRanges : List (Nat × Nat) → List Order → List Order
  | [], q => q
  | (first, n) :: more, q =>
    let (q', ended) := placeRange first n q
    if ended then q' else placeRanges more q'

/-- The scan, made only in RUNNING with the session PRESENT (R59). -/
def scan (s : State) : State :=
  if s.power.mode = .running ∧ s.session.state = .present then
    setQueue (placeRanges (uncoveredBad s) s.planner.queue) s
  else s

/-! ### The end of an event -/

/-- Make the scan that the event calls for. -/
def scanIfDue (s : State) : State :=
  if s.planner.scanDue then
    let s := scan s
    { s with planner := { s.planner with scanDue := false } }
  else s

/-- Raise ORDER_AVAILABLE when work waits and did not wait at the event's start or just before its scan, which may put the
first entry into a queue that the event itself has emptied (R62, log 15). -/
def tellWork (before unscanned : State) (s : State) : State :=
  if s.planner.workWaits && !(before.planner.workWaits && unscanned.planner.workWaits) then raiseD .orderAvailable s
  else s

/-- Raise PAUSE_CHANGED when the pause flag has changed since `before` (R37). -/
def tellPause (before : State) (s : State) : State :=
  if before.pauseFlag = s.pauseFlag then s else raiseD (.pauseChanged s.pauseFlag) s

/-- End an event that began at `before`: the scan it calls for, then ORDER_AVAILABLE and PAUSE_CHANGED (log 15). -/
def finish (before : State) (s : State) : State :=
  scanIfDue s |> tellWork before s |> tellPause before

end Sys2Proof.Machine
end

