-- ==== Sys2Proof/Machine/EngineOps.lean ====
section
/-! DEFINITION. The output engine: play states, opening, starvation, priming, flush, jump, stop (06). -/

namespace Sys2Proof.Machine

/-- Change the play intent; no event of its own (R97, R91). -/
def setIntent (i : Intent) (s : State) : State := { s with engine := { s.engine with intent := i } }

/-- Take a play state; a change of the state or of the ramp destination raises PLAY_STATE_CHANGED (R91). The
anticipatory request is clear outside PLAYING and RAMP_DOWN (R98). -/
def setPlay (p : Play) (s : State) : State :=
  let s' := { s with engine := { s.engine with play := p, anticipate := p.producing && s.engine.anticipate } }
  if p = s.engine.play then s' else raiseS (.playStateChanged p s.engine.intent) s'

/-- Set the frame index. -/
def setFrame (f : Nat) (s : State) : State := { s with engine := { s.engine with f := f } }

/-- Slot P becomes unopened (R92). -/
def closeSlot (s : State) : State := { s with engine := { s.engine with slotOpen := false } }

/-- Slot P becomes open; the planner trims the orders that cover P (R92, R73). -/
def openSlot (s : State) : State :=
  trimAll (s.ring.p + 1) { s with engine := { s.engine with slotOpen := true } }

/-- Drop the hole-wait count and stop the fill-stall timer (R100, R111). -/
def dropWaits (s : State) : State := { s with engine := { s.engine with holeWait := 0, stall := none } }

/-- Start the fill-stall timer at an entry, reading the timeout; a stalled flag of the same episode is kept (R102). -/
def startStall (s : State) : State :=
  { s with engine := { s.engine with
      stall := some ⟨s.now, s.params.fillStallTimeout, (s.engine.stall.map StallTimer.stalled).getD false⟩ } }

/-- An accepted block restarts the fill-stall timer when it runs (R102). -/
def restartStall (s : State) : State :=
  match s.engine.stall with
  | none => s
  | some _ => startStall s

/-- Compute the program number; PROGRAM_CHANGED when it differs (R96). -/
def judgeProgram (s : State) : State :=
  let k := s.programNow
  if k = s.engine.program then s
  else { s with engine := { s.engine with program := k } } |> raiseS (.programChanged k s.ring.p)

/-- The fill latch after fullness has fallen or the margin changed: cleared at L − margin or below (R36). -/
def judgeLatchLow (s : State) : State :=
  if s.ring.fullness ≤ s.ring.len - s.params.releaseMargin then
    { s with intake := { s.intake with latch := false } }
  else s

/-- The fill latch after a placement: set at L − 8 or above (R36). -/
def judgeLatchHigh (s : State) : State :=
  if s.ring.len - 8 ≤ s.ring.fullness then { s with intake := { s.intake with latch := true } } else s

/-- Set the run to NO_RUN (R42). -/
def endRun (s : State) : State := { s with intake := { s.intake with run := none } }

/-- The flush to an address, with what the neighbours do in the same event (R15, R16, R36, R76, R96, R122). -/
def flush (a : Nat) (s : State) : State :=
  { s with ring := s.ring.flush a s.session.fingerprint }
    |> emptyQueue |> dueScan |> endRun |> dropRuns |> closeSlot |> judgeLatchLow |> judgeProgram

/-- Entry to STOPPED: a flush to the present P, f = 0, the play gain 0 (R109). -/
def enterStopped (s : State) : State :=
  s |> setPlay .stopped |> dropWaits |> flush s.ring.p |> setFrame 0 |> setPlayGain 0 0

/-- End of disc: STOPPED with intent STOP, and END_OF_DISC (R95). -/
def endOfDisc (s : State) : State :=
  s |> setIntent .stop |> enterStopped |> raiseS (.endOfDisc s.t)

/-- STARVED ends in PLAYING: slot P opens and the conceal gain comes up from 0 (R100). -/
def exitStarved (s : State) : State :=
  s |> openSlot |> dropWaits |> setPlay .playing |> setConcealGain 0

/-- The hole wait expires at slot P (R101). -/
def expireHole (s : State) : State :=
  { s with ring := s.ring.giveUpHole s.ring.p }
    |> raiseS (.slotAbandoned s.ring.p s.ring.p) |> rise .slotsAbandoned 1 |> exitStarved

/-- The hole wait has expired: in STARVED at a MISSING slot P with the count at the limit (R101). -/
def holeWaitOver (s : State) : Bool :=
  s.engine.play == .starved && (s.slot s.ring.p).isMissing && s.holeWaitLimit ≤ s.engine.holeWait

/-- Judge the hole wait (R101). -/
def judgeHoleWait (s : State) : State := if holeWaitOver s then expireHole s else s

/-- Entry to STARVED, whatever its cause (R99). With a hole wait of 0 the wait at a hole ends at once. -/
def enterStarved (s : State) : State :=
  let s' := { s with engine := { s.engine with holeWait := 0 } } |> setPlay .starved
    |> raiseS (.starved s.ring.p) |> rise .starveEpisodes 1
  let s' := if s.engine.play = .priming then s' else startStall s'
  if s.holeWaitLimit = 0 then judgeHoleWait s' else s'

/-- PRIMING has ended: depth reached the start depth, or all the disc still has is held and playable (R103). -/
def primed (s : State) : Bool :=
  s.params.startDepth ≤ s.ring.depth || (s.ring.e == s.t && s.ring.depth == s.ring.fullness)

/-- PRIMING ends into PLAYING, or at the end of the disc (R103, R95, R126). -/
def endPriming (s : State) : State :=
  if s.ring.p = s.t then endOfDisc s
  else s |> openSlot |> dropWaits |> setPlay .playing |> setPlayTarget 4096 |> setConcealGain 4096

/-- What the engine does when slot states may have changed: STARVED ends at a playable slot P, PRIMING when it is
primed (R100, R103). -/
def react (s : State) : State :=
  match s.engine.play with
  | .starved => if s.playable s.ring.p then exitStarved s else s
  | .priming => if primed s then endPriming s else s
  | _ => s

/-- Entry to PRIMING: play gain 0, the fill-stall timer starts; the conditions are judged at once (R103). -/
def enterPriming (s : State) : State :=
  { s with engine := { s.engine with holeWait := 0 } } |> startStall |> setPlay .priming |> setPlayGain 0 0 |> react

/-- Land play on the present slot P: PLAYING with the slot opened when it is playable, STARVED otherwise (R105). -/
def landJump (s : State) : State :=
  if s.playable s.ring.p then s |> openSlot |> dropWaits |> setPlay .playing else enterStarved s

/-- An in-window jump to A and a frame index (R105). -/
def jump (a f : Nat) (s : State) : State :=
  { s with ring := s.ring.advance a }
    |> closeSlot |> setFrame f |> trimAll a |> judgeLatchLow |> judgeProgram |> dropRuns
    |> setPlayGain 4096 4096 |> (fun s => { s with engine := { s.engine with anticipate := false } })
    |> setConcealGain 0 |> landJump

/-- A flush for PLAY_AT to A and a frame index (R106). -/
def seek (a f : Nat) (s : State) : State :=
  s |> flush a |> setFrame f |> raiseD (.seekRequested a) |> enterPriming

/-- Play at a clamped position: a jump inside P..E-1, a flush otherwise; the intent becomes PLAY (R104). -/
def playTo (a f : Nat) (s : State) : State :=
  let s := setIntent .play s
  if s.ring.p ≤ a ∧ a < s.ring.e then jump a f s else seek a f s

/-- PLAYING at the present position after RESUME or a warm start: slot P opens (R92, R108, R112). -/
def openAndPlay (s : State) : State := s |> openSlot |> dropWaits |> setPlay .playing

end Sys2Proof.Machine
end

