-- ==== Sys2Proof/Machine/SessionOps.lean ====
section
/-! DEFINITION. The session unit and the power controller: loads, releases, the leave, the start of a session, the
entry to a low-power mode, ring clear, wakes and resets (08, 11, 01 section 1.8). -/

namespace Sys2Proof.Machine

/-- Set the session state. -/
def setSession (x : SessionState) (s : State) : State := { s with session := { s.session with state := x } }

/-! ### Loads (R134) -/

/-- IDENTIFYING with the identify timer started, its expired flag clear (R134). -/
def startIdentify (s : State) : State :=
  { s with session := { s.session with state := .identifying, identify := some ⟨s.now, false⟩ } }

/-- DISC_LOADED, sent or implied, by the session state. In PRESENT it has no effect (R134). -/
def loadDisc (s : State) : State :=
  match s.session.state with
  | .noDisc => startIdentify s
  | .identifying => startIdentify s
  | .present => s
  | .leaving => { s with session := { s.session with pendingLoad := true } }

/-! ### The Resume Table (R144) -/

/-- Store an entry at rank 1: one with its fingerprint is rewritten, and a seventh entry pushes out rank 6. -/
def storeEntry (e : ResumeEntry) (table : List ResumeEntry) : List ResumeEntry :=
  (e :: table.filter fun x => x.fingerprint != e.fingerprint).take 6

/-- The rank, from 1, and the entry that matches a directory: fingerprint, program count and T equal (R138). -/
def matchEntry (fp : BitVec 32) (n t : Nat) (table : List ResumeEntry) : Option (ResumeEntry × Nat) :=
  (table.zipIdx 1).find? fun x => x.1.fingerprint == fp && x.1.programs == n && x.1.t == t

/-- The entry at a rank, from 1. -/
def entryAt (rank : Nat) (table : List ResumeEntry) : Option ResumeEntry :=
  if rank = 0 then none else table[rank - 1]?

/-! ### Entry to a low-power mode (R167) -/

/-- The mode that an entry leads to. -/
def LowMode.mode : LowMode → Mode
  | .held => .held
  | .sleeping => .sleeping

/-- The entry completes: tag counter 0, the DRAM parked, the mode set, the wake latch emptied (R167). SLEEP loses the
slot records and keeps their figures (R19). -/
def completeEntry (target : LowMode) (s : State) : State :=
  { s with
    planner := { s.planner with tagCounter := 0 }
    ring := match target with
      | .held => s.ring
      | .sleeping => s.ring.loseSlots
    power := { s.power with
      mode := target.mode
      entry := none
      wake := none
      selfRefresh := match target with
        | .held => true
        | .sleeping => s.power.selfRefresh
      supply := match target with
        | .held => s.power.supply
        | .sleeping => false } }

/-! ### The leave procedure (R142, R143) -/

/-- The stored intent (R143). -/
def Intent.stored : Intent → StoredIntent
  | .play => .playing
  | .pause => .paused
  | .stop => .paused

/-- The resume entry of the disc now leaving, when a directory and its fingerprint are held (R143). -/
def resumeEntryNow (s : State) : Option ResumeEntry :=
  match s.session.directory, s.session.fingerprint with
  | some d, some fp => some ⟨fp, d.starts.length, d.t, s.ring.p, s.engine.f, s.engine.intent.stored, learnedCap s⟩
  | _, _ => none

/-- The resume entry is stored (R143 step 1). -/
def storeResume (s : State) : State :=
  match resumeEntryNow s with
  | none => s
  | some e => { s with session := { s.session with table := storeEntry e s.session.table } }

/-- SESSION_ENDED carries the entry that was stored (R143 step 3). -/
def tellEnded (entry : Option ResumeEntry) (s : State) : State :=
  match entry with
  | none => s
  | some e => raiseS (.sessionEnded e.fingerprint e.address e.frame e.intent) s

/-- The engine enters HALTED (R111). -/
def halt (s : State) : State := s |> dropWaits |> setPlay .halted

/-- The session state after a leave: NO_DISC; a pending load starts identification, but an entry to HELD or SLEEPING
clears it and completes (R143 step 4, R166). -/
def endSession (s : State) : State :=
  let load := s.session.pendingLoad
  let s := { s with session := { s.session with state := .noDisc, pendingLoad := false } }
  match s.power.entry with
  | some e => completeEntry e.target s
  | none => if load then startIdentify s else s

/-- The leave ends, its steps in R143's order. -/
def leaveEnd (s : State) : State :=
  s |> storeResume |> halt |> tellEnded (resumeEntryNow s) |> raiseD .sessionChanged |> endSession

/-- The engine is asked to leave play (R111). -/
def leavePlay (s : State) : State :=
  match s.engine.play with
  | .playing => s |> setPlay (.rampDown .leave) |> setPlayTarget 0
  | .rampDown _ => setPlay (.rampDown .leave) s
  | _ => leaveEnd s

/-- The leave procedure begins (R142). -/
def beginLeave (s : State) : State :=
  let s := s |> setSession .leaving |> emptyQueue |> endRun
  leavePlay { s with rates := { s.rates with cap := none } }

/-- DISC_RELEASE, sent or implied, by the session state (R135). -/
def releaseDisc (s : State) : State :=
  match s.session.state with
  | .noDisc => s
  | .identifying => { s with session := { s.session with state := .noDisc, identify := none } }
  | .present => beginLeave s
  | .leaving => { s with session := { s.session with pendingLoad := false } }

/-- The end of a ramp at its destination (R110). -/
def rampEnd (dest : Dest) (s : State) : State :=
  match dest with
  | .paused => setPlay .paused s
  | .stopped => enterStopped s
  | .leave => leaveEnd s

/-! ### The start of a session (R139 to R141, R112) -/

/-- What each start does first in the concealment unit (R112, R122, R126). -/
def startConceal (s : State) : State :=
  s |> dropRuns |> (fun s => { s with engine := { s.engine with anticipate := false } })
    |> setPlayGain 0 0 |> setConcealGain 4096

/-- PAUSED at the present position, intent PAUSE (R112). -/
def startPaused (s : State) : State := s |> setIntent .pause |> setPlay .paused

/-- A warm start with play intended: PLAYING when slot P is playable, STARVED otherwise; at P = T the end of the
disc (R112, R95). -/
def startWarmPlay (s : State) : State :=
  let s := setIntent .play s
  if s.ring.p = s.t then endOfDisc s
  else if s.playable s.ring.p then s |> openAndPlay |> setPlayGain 0 4096
  else s |> setPlayGain 4096 4096 |> enterStarved

/-- The start on a match: warm when the owner and P agree with the entry, cold otherwise (R140). -/
def startMatched (e : ResumeEntry) (s : State) : State :=
  let play := s.params.autoResume && e.intent == .playing
  if s.ring.owner = s.session.fingerprint ∧ s.ring.p = e.address then
    let s := s |> startConceal |> setFrame e.frame |> judgeProgram
    if play then startWarmPlay s else startPaused s
  else
    let s := s |> flush e.address |> startConceal |> setFrame e.frame
    if play then s |> setIntent .play |> enterPriming else startPaused s

/-- The start without a match, at the first program start (R141). -/
def startUnmatched (first : Nat) (s : State) : State :=
  let s := s |> flush first |> startConceal |> setFrame 0
  if s.params.autoPlay then s |> setIntent .play |> enterPriming
  else s |> setIntent .stop |> enterStopped

/-- The entry to PRESENT on a valid directory, its steps in R139's order. -/
def enterPresent (d : Directory) (fp : BitVec 32) (s : State) : State :=
  let n := d.starts.length
  let s := { s with session := { s.session with
    state := .present, directory := some d, fingerprint := some fp, identify := none } }
  let s := s |> clearCounters |> setFails 0
  let s :=
    match matchEntry fp n d.t s.session.table with
    | some (e, rank) =>
      s |> ratesToNone e.cap |> raiseS (.discMatched rank e.address e.frame e.intent) |> startMatched e
    | none =>
      s |> ratesToNone none |> raiseS (.discIdentified fp d.rate n d.t) |> startUnmatched (d.startOf 1)
  s |> dueScan |> raiseD (.seekRequested s.ring.e)

/-- A directory payload handed over by the intake: taken in IDENTIFYING, ignored elsewhere (R26, R137). -/
def takeDirectory (payload : List Byte) (s : State) : State :=
  if s.session.state = .identifying then
    match validateDirectory (readDirectory payload) with
    | .error reason => raiseS (.directoryBad reason) s
    | .ok d => enterPresent d (crc32 payload) s
  else s

/-! ### Ring clear, resets and wakes -/

/-- Bring the L-dependent parameters into range for the L in force (R2). -/
def fitParams (s : State) : State :=
  { s with params := { s.params with
      startDepth := clampTo 1 (s.ring.len / 2) s.params.startDepth
      releaseMargin := clampTo 16 (s.ring.len / 2) s.params.releaseMargin } }

/-- A ring clear starts: L from the straps, the owner none, the slots EMPTY, E set to P, the run NO_RUN, slot P
unopened, the last clean values 0 (R17, R42, R92, R122). That the clean values and the flaw runs go at the start of the
clear that follows a wake, and not at its end, is a DESIGN CHOICE (log 42). -/
def startClear (msz : BitVec 2) (s : State) : State :=
  { s with ring := { s.ring with
      straps := msz, slots := [], e := s.ring.p, owner := none, clear := some ⟨s.now⟩, asleep := none } }
    |> fitParams |> endRun |> closeSlot |> dropRuns

/-- Every block at the value its chapter gives for a reset. The Resume Table, the lines into the part, the timebase,
the record of what was sent and the queue are kept (R147, log 10). -/
def resetBlocks (s : State) : State :=
  { State.reset with
    ring := { ringReset with straps := s.ring.straps }
    session := { sessionReset with trayLine := s.session.trayLine, trayChange := s.now, table := s.session.table }
    sPort := { portReset with sent := s.sPort.sent }
    dPort := { portReset with sent := s.dPort.sent }
    power := { powerReset with
      powered := s.power.powered, resetLine := s.power.resetLine, lastSlf := s.power.lastSlf }
    now := s.now
    pending := s.pending }

/-- The session looks at the tray state as the mode becomes RUNNING (R133). -/
def lookAtTray (s : State) : State := if s.session.tray = some .closed then loadDisc s else s

/-- A wake ends: the mode becomes RUNNING, WOKE carries the latched source, the tray is looked at (R169, R170). -/
def wakeEnd (source : WakeSource) (s : State) : State :=
  { s with power := { s.power with mode := .running, wake := none } }
    |> raiseS (.woke source) |> lookAtTray

/-- A wake source in HELD or SLEEPING, the latch empty: it is stored and the wake begins (R169, R170). -/
def beginWake (source : WakeSource) (s : State) : State :=
  if s.power.mode.isLow && s.power.wake.isNone then
    { s with power := { s.power with
        wake := some source, wakeStart := s.now, selfRefresh := false, supply := true } }
  else s

end Sys2Proof.Machine
end

