-- ==== Sys2Proof/Machine/PortOps.lean ====
section
/-! DEFINITION. Transactions on the two ports: the judgement of R149, polls, low-power transactions (09). -/

namespace Sys2Proof.Machine

/-- A transaction in HELD or SLEEPING: the status byte and 0x00 after it; on the S-port the falling SS is a wake
source (R168, R169). The rules give the 0x00 for the S-port; that the D-port sends 0x00 too is a DESIGN CHOICE
(log 36). -/
def lowPowerBus (port : Port) (clocked : Nat) (s : State) : State :=
  let s := sendStatus port (clocked - 1) s
  match port with
  | .s => beginWake .sPort s
  | .d => s

/-- The parts of a transaction that come before any judgement: nothing on an unpowered part (log 11), the status byte
alone while RESET is held (R18) or in a low-power mode (R168). Otherwise `act` follows the status byte. -/
def transaction (port : Port) (clocked : Nat) (act : State → State) (s : State) : State :=
  if !s.power.powered then s
  else if s.power.resetLine then sendStatus port (clocked - 1) s
  else if s.power.mode.isLow then lowPowerBus port clocked s
  else act (sendStatus port (clocked - 1) s)

/-- What the judgement of R149 makes of a command frame: the refusal of the first step that fails, if one does.
`fits` is step 4 and `early` says that UNCONFIGURED takes the command. -/
def judgement (code : Byte) (fr : Frame) (known fits early : Bool) (s : State) : Option RespCode :=
  if frameN fr > 32 || !frameSumGood code fr then some .badFrame
  else if s.busy then some .busy
  else if !known then some .unknownCommand
  else if !fits then some .badFrame
  else if s.power.mode = .unconfigured && !early then some .notStarted
  else none

/-- A command frame on a port: the transaction clocks N + 3 bytes and those behind the check byte, which are ignored, and
the frame is judged; `act` is the command itself (R148, R149). What the part sends beside the bytes behind is log 37's
choice. -/
def command (port : Port) (code : Byte) (fr : Frame) (fits early : Bool) (act : State → State) (s : State) : State :=
  transaction port (frameClocked fr)
    (fun s =>
      match judgement code fr true fits early s with
      | some refusal => refuse port refusal s
      | none => act s) s

/-- A command that needs the session PRESENT, answered NO_DISC otherwise (R152). -/
def withDisc (port : Port) (act : State → State) (s : State) : State :=
  if s.session.state = .present then act s else refuse port .noDisc s

/-- POLL: the response behind the status byte as far as it is clocked, consumed with its check byte (R150). What the
part sends when a poll is clocked past the check byte is not said: 0x00, DESIGN CHOICE (log 35). -/
def pollBus (port : Port) (clocked : Nat) (s : State) : State :=
  match (s.port port).response with
  | none => s
  | some r =>
    let bytes := responseFrame (s.statusByte port) r
    let p := { s.port port with sent := (bytes ++ List.replicate (clocked - bytes.length) 0).take clocked }
    setPort port (if bytes.length ≤ clocked then { p with response := none } else p) s

/-- POLL (R150). -/
def execPoll (port : Port) (clocked : Nat) (s : State) : Host.Outcome State Fault Refusal :=
  .next (transaction port clocked (pollBus port clocked) s)

/-- TRANSACTION_CUT_SHORT: SS rises before the check byte, and the frame is answered BAD_FRAME (R148). -/
def execTransactionCutShort (port : Port) (bytes : List Byte) (s : State) : Host.Outcome State Fault Refusal :=
  .next (transaction port bytes.length (refuse port .badFrame) s)

/-- UNKNOWN_COMMAND: a frame whose code names no command of the port, judged by R149. The row is taken at its word that
the code is unknown; WellFormed refuses a code the port knows (log 27). -/
def execUnknownCommand (port : Port) (code : Byte) (fr : Frame) (s : State) : Host.Outcome State Fault Refusal :=
  .next (transaction port (frameClocked fr)
    (fun s =>
      match judgement code fr false true true s with
      | some refusal => refuse port refusal s
      | none => s) s)

/-- LOW_POWER_TRANSACTION: a transaction in HELD or SLEEPING (R168). In another mode the status byte is all that is
said of it (log 9). -/
def execLowPowerTransaction (port : Port) (clocked : Nat) (s : State) : Host.Outcome State Fault Refusal :=
  .next (transaction port clocked id s)

end Sys2Proof.Machine
end

