-- ==== Sys2Proof/Machine/Configure.lean ====
section
/-! DEFINITION. CONFIGURE: the 23 parameters, their clamping, and what each change does at once (R154). -/

namespace Sys2Proof.Machine

/-! ### What a change does at once -/

/-- The stored parameters. -/
def setParams (p : Params) (s : State) : State := { s with params := p }

/-- A new start depth is judged in PRIMING (R103). -/
def applyStartDepth (s : State) : State := react s

/-- A new hole wait is judged in STARVED (R101). -/
def applyHoleWait (s : State) : State := judgeHoleWait s

/-- A repair threshold named: each QUEUED entry is judged against it, in ascending address order (DESIGN CHOICE, log 40), and
a scan follows (R74). The value already in force is judged as a new one is: DESIGN CHOICE (log 41). -/
def applyThreshold (s : State) : State :=
  dueScan (s.planner.queue.foldl (fun s o => if o.isIssued then s else judgeArrival o s) s)

/-- A lowered retry limit: QUEUED entries at it or above are given up, the ISSUED entry's attempts are taken down
to it (R75). They are given up in ascending address order, so that the highest one's data stays in the record of
SLOT_ABANDONED (R159): DESIGN CHOICE (log 40). Slots given up may end STARVED or PRIMING (R100, R103). -/
def applyRetryLimit (old : Nat) (s : State) : State :=
  let limit := s.params.retryLimit
  if old ≤ limit then s
  else
    react (s.planner.queue.foldl
      (fun s o =>
        if o.isIssued then replaceOrder o.first { o with attempts := min o.attempts limit } s
        else if limit ≤ o.attempts then giveUpOrder o s
        else s) s)

/-- A new upgrade interval is judged in LIMITED (R87). -/
def applyInterval (s : State) : State := judgeUpgrade s

/-- A new release margin: a latch set with fullness at L − margin or below is cleared (R36). -/
def applyMargin (s : State) : State := judgeLatchLow s

/-- A new alert threshold: every counter at it or above with its flag clear alerts, by one COUNTER_ALERT (R163). -/
def applyAlert (s : State) : State :=
  let hits := fun c : Counter => !c.alerted && decide (s.params.alertThreshold ≤ c.value)
  if s.events.counters.toList.any hits then
    let cs := s.events.counters.map fun c => if hits c then { c with alerted := true } else c
    { s with events := { s.events with counters := cs } } |> raiseS (.counterAlert (alertedFlags cs))
  else s

/-- A new mask in PULSE mode: each event that comes to be both latched and unmasked starts a pulse (R160). -/
def applySMask (old : Params) (s : State) : State :=
  if s.params.sMode = .pulse &&
      s.events.sSet.any (fun l => sMasked old l.ev.pos && !sMasked s.params l.ev.pos) then
    { s with events := { s.events with sPulse := some s.now } }
  else s

/-- The same for the D-port (R160). -/
def applyDMask (old : Params) (s : State) : State :=
  if s.params.dMode = .pulse &&
      s.events.dSet.any (fun l => dMasked old l.ev.pos && !dMasked s.params l.ev.pos) then
    { s with events := { s.events with dPulse := some s.now } }
  else s

/-- A change of the S attention mode releases a line asserted by a pulse (R160). -/
def applySMode (old : Params) (s : State) : State :=
  if old.sMode = s.params.sMode then s else { s with events := { s.events with sPulse := none } }

/-- The same for the D-port (R160). -/
def applyDMode (old : Params) (s : State) : State :=
  if old.dMode = s.params.dMode then s else { s with events := { s.events with dPulse := none } }

/-! ### One pair -/

/-- A yes/no value: 0 is no, any other is yes. -/
def yes (v : Nat) : Bool := v != 0

/-- An attention mode value: 0 is LEVEL, any other is PULSE. -/
def attnMode (v : Nat) : AttnMode := if v = 0 then .level else .pulse

/-- The value a parameter takes for a value sent, by its range (R154). Masks drop the bits that name no event. -/
def inRange (len id v : Nat) : Nat :=
  match id with
  | 1 => clampTo 1 (len / 2) v
  | 2 => clampTo 2 32 v
  | 3 => clampTo 16 256 v
  | 4 => clampTo 16 1024 v
  | 5 => clampTo 64 8192 v
  | 6 => clampTo 0 2000 v
  | 7 => clampTo 0 960 v
  | 8 => clampTo 0 64 v
  | 9 => clampTo 0 4 v
  | 10 => clampTo 1 8 v
  | 11 => clampTo 200 10000 v
  | 12 => clampTo 1 8 v
  | 13 => clampTo 500 60000 v
  | 14 => clampTo 1 4 v
  | 15 => clampTo 16 (len / 2) v
  | 16 => clampTo 200 10000 v
  | 17 => clampTo 1 16777215 v
  | 18 => clampTo 0 1 v
  | 19 => clampTo 0 1 v
  | 20 => v % 32768
  | 21 => v % 256
  | 22 => clampTo 0 1 v
  | 23 => clampTo 0 1 v
  | _ => v

/-- Store a value, already in range, and take its effect (R154). -/
def applyParam (id v : Nat) (s : State) : State :=
  let p := s.params
  match id with
  | 1 => s |> setParams { p with startDepth := v } |> applyStartDepth
  | 2 => s |> setParams { p with lmax := v }
  | 3 => s |> setParams { p with rd := v }
  | 4 => s |> setParams { p with ru := v }
  | 5 => s |> setParams { p with rp := v }
  | 6 => s |> setParams { p with holeWait := v } |> applyHoleWait
  | 7 => s |> setParams { p with repairThreshold := v } |> applyThreshold
  | 8 => s |> setParams { p with seamThreshold := v }
  | 9 => s |> setParams { p with leadIn := v }
  | 10 => s |> setParams { p with retryLimit := v } |> applyRetryLimit p.retryLimit
  | 11 => s |> setParams { p with orderTimeout := v }
  | 12 => s |> setParams { p with downgradeLimit := v } |> judgeFails
  | 13 => s |> setParams { p with upgradeInterval := v } |> applyInterval
  | 14 => s |> setParams { p with ceiling := v } |> applyCeiling
  | 15 => s |> setParams { p with releaseMargin := v } |> applyMargin
  | 16 => s |> setParams { p with fillStallTimeout := v }
  | 17 => s |> setParams { p with alertThreshold := v } |> applyAlert
  | 18 => s |> setParams { p with autoPlay := yes v }
  | 19 => s |> setParams { p with autoResume := yes v }
  | 20 => s |> setParams { p with sMask := BitVec.ofNat 15 v } |> applySMask p
  | 21 => s |> setParams { p with dMask := BitVec.ofNat 8 v } |> applyDMask p
  | 22 => s |> setParams { p with sMode := attnMode v } |> applySMode p
  | 23 => s |> setParams { p with dMode := attnMode v } |> applyDMode p
  | _ => s

/-! ### The command -/

/-- The pairs of a CONFIGURE frame: an id and a three-byte value, low byte first. -/
def readPairs : List Byte → List (Nat × Nat)
  | i :: a :: b :: c :: rest => (i.toNat, ofLe [a, b, c]) :: readPairs rest
  | _ => []

/-- The id names a parameter. -/
def knownParam (id : Nat) : Bool := 1 ≤ id && id ≤ 23

/-- Apply the pairs in frame order; the flag answers whether a value was clamped (R154, log 13). -/
def applyPairs : List (Nat × Nat) → State → State × Bool
  | [], s => (s, false)
  | (id, v) :: rest, s =>
    let v' := inRange s.ring.len id v
    let (s', clamped) := applyPairs rest (applyParam id v' s)
    (s', v' != v || clamped)

/-- CONFIGURE past the judgement of R149 (R154). -/
def configureAct (params : List Byte) (s : State) : State :=
  let pairs := readPairs params
  if pairs.all fun x => knownParam x.1 then
    let (s', clamped) := applyPairs pairs s
    respond .s .ok [flagsByte clamped false, byteOf pairs.length] (finish s s')
  else refuse .s .unknownCommand s

/-- CONFIGURE (R154). -/
def execConfigure (fr : Frame) (s : State) : Host.Outcome State Fault Refusal :=
  .next (command .s 0x02 fr (frameN fr % 4 == 0) true (configureAct fr.params) s)

end Sys2Proof.Machine
end

