-- ==== Sys2Proof/Machine/Lines.lean ====
section
/-! DEFINITION. The commands that come from the supply, the lines into the part and its timebase. -/

namespace Sys2Proof.Machine

/-- A ring clear starts after a reset, unless RESET is held: then it starts at the release (R18). -/
def clearAfterReset (msz : BitVec 2) (s : State) : State :=
  if s.power.resetLine then s else startClear msz s

/-- POWER_ON: the part resets to UNCONFIGURED, the Resume Table is emptied, a ring clear starts (R153, R144, R17). -/
def execPowerOn (msz : BitVec 2) (s : State) : Host.Outcome State Fault Refusal :=
  let s := resetBlocks s
  .next (clearAfterReset msz { s with
    session := { s.session with table := [] }
    power := { s.power with powered := true } })

/-- POWER_LOST: whatever was in progress ends, no resume entry is stored (R18, R167). Nothing acts until POWER_ON
(log 11). -/
def execPowerLost (s : State) : Host.Outcome State Fault Refusal :=
  if !s.power.powered then .next s
  else
    let s := resetBlocks s
    .next { s with
      session := { s.session with table := [] }
      power := { s.power with powered := false, supply := false } }

/-- RESET_LINE_ASSERTED: a ring clear, entry, wake or leave stops, with no resume entry stored; the part is held in
reset (R18, R167, R170; log 10). -/
def execResetLineAsserted (s : State) : Host.Outcome State Fault Refusal :=
  let held := { s with power := { s.power with resetLine := true } }
  .next (if s.power.powered then resetBlocks held else held)

/-- RESET_LINE_RELEASED: UNCONFIGURED with the defaults, the Resume Table kept, and a ring clear from the beginning
(R18, R153). -/
def execResetLineReleased (msz : BitVec 2) (s : State) : Host.Outcome State Fault Refusal :=
  let free := { s with power := { s.power with resetLine := false } }
  .next (if s.power.resetLine && s.power.powered then startClear msz (resetBlocks free) else free)

/-- RING_CLEAR_END: the last header is written and BUSY ends; after a wake from SLEEPING the mode becomes RUNNING
(R17, R170). The fill latch is clear after each ring clear (R36, log 24). -/
def execRingClearEnd (s : State) : Host.Outcome State Fault Refusal :=
  match s.ring.clear with
  | none => .next s
  | some c =>
    let ended := { elapseTo (c.since + 2 * s.ring.len) s with
      ring := { s.ring with clear := none }
      intake := { s.intake with latch := false } }
    .next (finish s
      (match s.power.mode, s.power.wake with
        | .sleeping, some source => wakeEnd source ended
        | _, _ => ended))

/-- TRAY_LINE_CHANGE: the raw line changes level and the 20 ms start again from that change (R133). -/
def execTrayLineChange (level : Tray) (s : State) : Host.Outcome State Fault Refusal :=
  .next (if level = s.session.trayLine then s
    else { s with session := { s.session with trayLine := level, trayChange := s.now } })

/-- A debounced tray state acts: on the session in RUNNING, as a wake source in HELD and SLEEPING; the first state
after a reset is no change (R133, R169). -/
def trayActs (old : Option Tray) (s : State) : State :=
  match s.power.mode, old, s.session.trayLine with
  | .running, none, .opened => s
  | .running, some _, .opened => releaseDisc s
  | .running, _, .closed => loadDisc s
  | .held, some _, _ => beginWake .tray s
  | .sleeping, some _, _ => beginWake .tray s
  | _, _, _ => s

/-- TRAY_DEBOUNCED: the line has held its level for 20 ms and becomes the tray state (R133). -/
def execTrayDebounced (s : State) : Host.Outcome State Fault Refusal :=
  if !s.power.powered then .next s
  else
    let s' := elapseTo (s.session.trayChange + 20000) s
    let s' := { s' with session := { s'.session with tray := some s.session.trayLine } }
    .next (if s.session.tray = some s.session.trayLine then s' else finish s (trayActs s.session.tray s'))

/-- WAKE_EDGE: a rising edge on WAKE is a wake source in HELD and SLEEPING (R168, R169). -/
def execWakeEdge (s : State) : Host.Outcome State Fault Refusal :=
  .next (if s.power.powered then beginWake .wake s else s)

/-- WAKE_DELAY_END: 3 ms after the wake began the mode becomes RUNNING from HELD, and a ring clear starts from
SLEEPING (R170). With no wake in its 3 ms nothing happens (log 4). -/
def execWakeDelayEnd (msz : BitVec 2) (s : State) : Host.Outcome State Fault Refusal :=
  match s.power.mode, s.power.wake, s.ring.clear with
  | .held, some source, none => .next (finish s (s |> elapseTo (s.power.wakeStart + 3000) |> wakeEnd source))
  | .sleeping, some _, none => .next (s |> elapseTo (s.power.wakeStart + 3000) |> startClear msz)
  | _, _, _ => .next s

/-- HOLD_FADE_WATCHDOG: 10 ms with no SLF edge during an entry's fade end the fade at once: the play gain is 0 and the
leave ends from the position as it stands (R166). -/
def execHoldFadeWatchdog (s : State) : Host.Outcome State Fault Refusal :=
  match s.power.entry, s.engine.play with
  | some e, .rampDown .leave =>
    .next (finish s (s |> elapseTo (max e.since s.power.lastSlf + 10000) |> setPlayGain 0 0 |> leaveEnd))
  | _, _ => .next s

/-- ATTENTION_PULSE_END: 2 µs after it began the pulse ends and the line is released (R160). -/
def execAttentionPulseEnd (port : Port) (s : State) : Host.Outcome State Fault Refusal :=
  match port, s.events.sPulse, s.events.dPulse with
  | .s, some t, _ => .next { elapseTo (t + 2) s with events := { s.events with sPulse := none } }
  | .d, _, some t => .next { elapseTo (t + 2) s with events := { s.events with dPulse := none } }
  | _, _, _ => .next s

/-- FILL_STALLED: the fill-stall timeout has passed with no accepted block; it is raised once in an episode (R102). -/
def execFillStalled (s : State) : Host.Outcome State Fault Refusal :=
  match s.engine.stall with
  | none => .next s
  | some t =>
    if t.stalled then .next s
    else
      let s' := elapseTo (t.since + msToUs t.timeout) s
      .next ({ s' with engine := { s'.engine with stall := some { t with stalled := true } } }
        |> raiseS (.fillStalled s.engine.play s.ring.p s.ring.e s.ring.depth))

/-- IDENTIFY_TIMER_EXPIRY: 10 s have passed in IDENTIFYING; NO_DIRECTORY is raised once for each start (R136). -/
def execIdentifyTimerExpiry (s : State) : Host.Outcome State Fault Refusal :=
  match s.session.identify with
  | none => .next s
  | some t =>
    if t.expired then .next s
    else
      let s' := elapseTo (t.since + 10000000) s
      .next ({ s' with session := { s'.session with identify := some { t with expired := true } } }
        |> raiseS .noDirectory)

/-- STEP_UP: in LIMITED with the upgrade progress at the interval the requested rate steps up (R86). The accepted
block that brings it there has this effect in its own event; where the condition does not stand nothing happens
(log 5). -/
def execStepUp (s : State) : Host.Outcome State Fault Refusal := .next (judgeUpgrade s)

/-- STEP_DOWN: with the consecutive-failure count at the downgrade limit the requested rate steps down and the count
returns to 0 (R72, R84). The counted failure that brings it there has this effect in its own event; where the
condition does not stand nothing happens (log 5). -/
def execStepDown (s : State) : Host.Outcome State Fault Refusal := .next (judgeFails s)

end Sys2Proof.Machine
end

