-- ==== Sys2Proof/Machine/Control.lean ====
section
/-! DEFINITION. The S-port commands START, SOFT_RESET, HOLD and SLEEP (09 section 9.4, 9.6; 11). -/

namespace Sys2Proof.Machine

/-- START past the judgement: the mode becomes RUNNING and the session looks at the tray (R153). -/
def startAct (s : State) : State :=
  if s.power.mode = .unconfigured then
    respondOk .s [] (finish s (lookAtTray { s with power := { s.power with mode := .running } }))
  else refuse .s .wrongState s

/-- START (R153). -/
def execStart (fr : Frame) (s : State) : Host.Outcome State Fault Refusal :=
  .next (command .s 0x01 fr (frameN fr == 0) true startAct s)

/-- A D-port frame in reception is dropped without an answer: its transaction has sent the status byte and 0x00, and
nothing is judged (R155, R148; log 38). -/
def dropFrame (dFrame : List Byte) (s : State) : State :=
  if dFrame.isEmpty then s else sendStatus .d (dFrame.length - 1) s

/-- SOFT_RESET past the judgement: a D-port frame in reception is dropped, the part resets as by the RESET line, a ring
clear runs, and its own OK response is kept (R155). -/
def softResetAct (msz : BitVec 2) (dFrame : List Byte) (s : State) : State :=
  respondOk .s [] (startClear msz (resetBlocks (dropFrame dFrame s)))

/-- SOFT_RESET (R155). -/
def execSoftReset (msz : BitVec 2) (fr : ResetFrame) (s : State) : Host.Outcome State Fault Refusal :=
  .next (command .s 0x03 fr.frame (frameN fr.frame == 0) true (softResetAct msz fr.dFrame) s)

/-- HOLD and SLEEP past the judgement: the response carries the session state found, and the entry begins by it
(R166). In STOPPED the leave halts play at once, and the pause flag that STOPPED held is released with PAUSE_CHANGED, by
R36 and R37, where R41's table keeps the flag at the entry: DESIGN CHOICE (log 39). -/
def enterLow (target : LowMode) (s : State) : State :=
  let s' := { respondOk .s [byteOf s.session.state.code] s with
    power := { s.power with entry := some ⟨target, s.now⟩ } }
  finish s
    (match s.session.state with
      | .present => beginLeave s'
      | .leaving => s'
      | .identifying =>
        completeEntry target { s' with session := { s'.session with state := .noDisc, identify := none } }
      | .noDisc => completeEntry target s')

/-- HOLD (R166). -/
def execHold (fr : Frame) (s : State) : Host.Outcome State Fault Refusal :=
  .next (command .s 0x12 fr (frameN fr == 0) false (enterLow .held) s)

/-- SLEEP (R166). -/
def execSleep (fr : Frame) (s : State) : Host.Outcome State Fault Refusal :=
  .next (command .s 0x13 fr (frameN fr == 0) false (enterLow .sleeping) s)

end Sys2Proof.Machine
end

