-- ==== Sys2Proof/Machine/DriveCommands.lean ====
section
/-! DEFINITION. The commands of the D-port, and the order timeout (02 section 2.10, 04, 05). -/

namespace Sys2Proof.Machine

/-- The response to TAKE_ORDER with an order (R63, R158). -/
def orderData (s : State) (o : Order) (i : Issue) : List Byte :=
  [byteOf i.tag] ++ le24 i.readFrom ++ le24 o.first ++
    [byteOf o.count, byteOf (if s.reasonHole o then 0 else 1), byteOf s.rates.requested.code]

/-- The response to TAKE_ORDER with no order: tag 0 and the requested rate (R64, R158). -/
def noOrderData (s : State) : List Byte := List.replicate 9 0 ++ [byteOf s.rates.requested.code]

/-- What the lowest QUEUED entry holds once it is issued (R63). -/
def issueFor (s : State) (o : Order) : Issue where
  tag := nextTag s.planner.tagCounter
  readFrom := max (o.first - s.params.leadIn) s.lowestPlaceable
  issued := s.now
  deadline := s.now + msToUs s.params.orderTimeout

/-- Issue an entry (R63). -/
def issueOrder (o : Order) (s : State) : State :=
  let i := issueFor s o
  { s with planner := { s.planner with tagCounter := i.tag } }
    |> replaceOrder o.first { o with attempts := o.attempts + 1, issue := some i } |> rise .ordersIssued 1

/-- The ISSUED entry's fields at a repeat: the read-from address raised to the lowest placeable one (R64). -/
def repeatIssue (s : State) (i : Issue) : Issue := { i with readFrom := max i.readFrom s.lowestPlaceable }

/-- TAKE_ORDER past the judgement: the ISSUED entry again, the lowest QUEUED one issued, or NONE (R63, R64). -/
def takeOrderAct (s : State) : State :=
  match s.planner.queue.find? Order.isIssued with
  | some ⟨first, count, attempts, some i⟩ =>
    let i' := repeatIssue s i
    let o := { first := first, count := count, attempts := attempts, issue := some i' }
    respondOk .d (orderData s o i') (replaceOrder first o s)
  | _ =>
    match s.planner.queue with
    | [] => respondOk .d (noOrderData s) s
    | o :: _ => respondOk .d (orderData s o (issueFor s o)) (issueOrder o s)

/-- TAKE_ORDER (R63, R64). -/
def execTakeOrder (fr : Frame) (s : State) : Host.Outcome State Fault Refusal :=
  .next (command .d 0x21 fr (frameN fr == 0) false takeOrderAct s)

/-- The disposition codes of R158. -/
def dispRemoved : Byte := 0
def dispRequeued : Byte := 1
def dispAbandoned : Byte := 2
def dispStale : Byte := 3

/-- The answer of the ISSUED entry's attempt by the slot states (R66), with the disposition. -/
def closeAttempt (o : Order) (outcome : DoneOutcome) (s : State) : State × Byte :=
  let bad := s.badIn o.first o.count
  if bad.isEmpty then (s |> removeOrder o.first |> setFails 0, dispRemoved)
  else if outcome = .interrupted then
    (s |> replaceOrder o.first { trimTo bad o with attempts := o.attempts - 1, issue := none } |> dueScan,
      dispRequeued)
  else
    let (s', given) := failAttempt o s
    (react s', if given then dispAbandoned else dispRequeued)

/-- ORDER_DONE past the judgement: STALE unless the tag is the ISSUED entry's (R66). -/
def orderDoneAct (tag : Byte) (outcome : DoneOutcome) (s : State) : State :=
  match s.planner.issuedEntry with
  | none => respond .d .ok [flagsByte false true, tag, dispStale] s
  | some o =>
    if o.tagOr0 = tag.toNat then
      let (s', disp) := closeAttempt o outcome s
      respondOk .d [tag, disp] (finish s s')
    else respond .d .ok [flagsByte false true, tag, dispStale] s

/-- ORDER_DONE: an outcome other than READ, UNREADABLE or INTERRUPTED is BAD_FRAME (R66). -/
def execOrderDone (fr : Frame) (s : State) : Host.Outcome State Fault Refusal :=
  .next (command .d 0x22 fr (frameN fr == 2 && (outcomeOf (fr.params.getD 1 0)).isSome) false
    (orderDoneAct (fr.params.getD 0 0) ((outcomeOf (fr.params.getD 1 0)).getD .read)) s)

/-- The ISSUED entry's timeout has run out (R70). -/
def timeoutOrder (o : Order) (s : State) : State :=
  if (s.badIn o.first o.count).isEmpty then withdrawOrder o s else react (failAttempt o s).1

/-- ORDER_TIMEOUT: with no entry ISSUED no timeout runs, and nothing happens (R70, log 4). -/
def execOrderTimeout (s : State) : Host.Outcome State Fault Refusal :=
  match s.planner.queue.find? Order.isIssued with
  | some ⟨first, count, attempts, some i⟩ =>
    .next (finish s (timeoutOrder ⟨first, count, attempts, some i⟩ (elapseTo i.deadline s)))
  | _ => .next s

/-- The offer that RATE_OFFER's parameter byte names; bits 3..7 are ignored (R158). -/
def offerOf (b : Byte) : Offer := ⟨b.getLsbD 1, b.getLsbD 2⟩

/-- RATE_OFFER past the judgement: WRONG_STATE outside PRESENT (R81). -/
def rateOfferAct (b : Byte) (s : State) : State :=
  if s.session.state = .present then
    let s' := takeOffer (offerOf b) s
    respondOk .d [byteOf s'.rates.agreed.code, byteOf s'.rates.requested.code, byteOf s'.rates.state.code] s'
  else refuse .d .wrongState s

/-- RATE_OFFER (R81). -/
def execRateOffer (fr : Frame) (s : State) : Host.Outcome State Fault Refusal :=
  .next (command .d 0x23 fr (frameN fr == 1) false (rateOfferAct (fr.params.getD 0 0)) s)

/-- The part of SKIP_NOTICE's response that names the run ended (R39, R158). -/
def runData : Option Run → List Byte
  | none => 0 :: le24 0
  | some r => 1 :: le24 r.last

/-- SKIP_NOTICE past the judgement: the run ends; the part does not act on g (R39). -/
def skipNoticeAct (s : State) : State :=
  respondOk .d (le24 s.ring.e ++ runData s.intake.run) (s |> endRun |> rise .skipNotices 1)

/-- SKIP_NOTICE (R39). -/
def execSkipNotice (fr : Frame) (s : State) : Host.Outcome State Fault Refusal :=
  .next (command .d 0x24 fr (frameN fr == 3) false skipNoticeAct s)

/-- The ISSUED entry returns to QUEUED with its attempt refunded (R77). -/
def refundIssued (s : State) : State :=
  setQueue (s.planner.queue.map fun o =>
    if o.isIssued then { o with attempts := o.attempts - 1, issue := none } else o) s

/-- DRIVE_RESTART past the judgement: the run ends, the ISSUED entry is requeued, the count is 0, the rates are NONE,
a scan follows, and ORDER_AVAILABLE is raised whenever work then waits (R40, R77, R88, R62). Rates kept outside PRESENT
are dropped too: DESIGN CHOICE (log 45). -/
def driveRestartAct (s : State) : State :=
  let s := s |> endRun |> refundIssued |> setFails 0 |> ratesToNone s.rates.cap |> dueScan |> scanIfDue
  respondOk .d [] (if s.planner.workWaits then raiseD .orderAvailable s else s)

/-- DRIVE_RESTART (R77). -/
def execDriveRestart (fr : Frame) (s : State) : Host.Outcome State Fault Refusal :=
  .next (command .d 0x25 fr (frameN fr == 0) false driveRestartAct s)

end Sys2Proof.Machine
end

