-- ==== Sys2Proof/Machine/PlayCommands.lean ====
section
/-! DEFINITION. The play commands of the S-port (06 sections 6.6, 6.8). -/

namespace Sys2Proof.Machine

/-- PLAY_AT and PLAY_PROGRAM at a position already clamped: the response carries it and the play state produced
(R104). -/
def playCommand (a f : Nat) (clamped : Bool) (s : State) : State :=
  let s' := finish s (playTo a f s)
  respond .s .ok (flagsByte clamped false :: (le24 a ++ le16 f ++ [byteOf s'.engine.play.code])) s'

/-- PLAY_AT past the judgement: A is clamped to 0..T−1 and f to 0..F−1 (R104). -/
def playAtAct (params : List Byte) (s : State) : State :=
  let a := ofLe (params.take 3)
  let f := ofLe (params.drop 3)
  let a' := min a (s.t - 1)
  let f' := min f (s.frames - 1)
  playCommand a' f' (a' != a || f' != f) s

/-- PLAY_AT (R104). -/
def execPlayAt (fr : Frame) (s : State) : Host.Outcome State Fault Refusal :=
  .next (command .s 0x08 fr (frameN fr == 5) false (withDisc .s (playAtAct fr.params)) s)

/-- PLAY_PROGRAM past the judgement: k is clamped to 1..n and acts as PLAY_AT at its start (R104). -/
def playProgramAct (params : List Byte) (s : State) : State :=
  match s.session.directory with
  | none => refuse .s .noDisc s
  | some d =>
    let k := ofLe params
    let k' := clampTo 1 d.starts.length k
    let a := min (d.startOf k') (s.t - 1)
    playCommand a 0 (k' != k || a != d.startOf k') s

/-- PLAY_PROGRAM (R104). -/
def execPlayProgram (fr : Frame) (s : State) : Host.Outcome State Fault Refusal :=
  .next (command .s 0x09 fr (frameN fr == 1) false (withDisc .s (playProgramAct fr.params)) s)

/-- PAUSE with the session PRESENT, by the play state (R107). -/
def pauseAct (s : State) : State :=
  let done := fun s' => respondOk .s [] (finish s s')
  match s.engine.play with
  | .playing => done (s |> setIntent .pause |> setPlay (.rampDown .paused) |> setPlayTarget 0)
  | .priming => done (s |> setIntent .pause |> dropWaits |> setPlay .paused |> setPlayGain 0 0)
  | .starved => done (s |> setIntent .pause |> dropWaits |> setPlay .paused |> setPlayGain 0 0)
  | .paused => done (setIntent .pause s)
  | .rampDown .paused => done (setIntent .pause s)
  | _ => refuse .s .wrongState s

/-- PAUSE (R107). -/
def execPause (fr : Frame) (s : State) : Host.Outcome State Fault Refusal :=
  .next (command .s 0x0A fr (frameN fr == 0) false (withDisc .s pauseAct) s)

/-- RESUME from PAUSED (R108). -/
def resumePaused (s : State) : State :=
  let s := setIntent .play s
  if s.ring.p = s.t then endOfDisc s
  else if s.playable s.ring.p then s |> openAndPlay |> setPlayTarget 4096
  else s |> setPlayGain 4096 4096 |> enterStarved

/-- RESUME with the session PRESENT (R108). -/
def resumeAct (s : State) : State :=
  match s.engine.play with
  | .paused => respondOk .s [] (finish s (resumePaused s))
  | .rampDown .paused =>
    respondOk .s [] (finish s (s |> setIntent .play |> setPlay .playing |> setPlayTarget 4096))
  | _ => refuse .s .wrongState s

/-- RESUME (R108). -/
def execResume (fr : Frame) (s : State) : Host.Outcome State Fault Refusal :=
  .next (command .s 0x0B fr (frameN fr == 0) false (withDisc .s resumeAct) s)

/-- STOP with the session PRESENT, by the play state (R109). -/
def stopPlay (s : State) : State :=
  match s.engine.play with
  | .playing => s |> setPlay (.rampDown .stopped) |> setPlayTarget 0
  | .rampDown .paused => setPlay (.rampDown .stopped) s
  | .priming => enterStopped s
  | .paused => enterStopped s
  | .starved => enterStopped s
  | _ => s

/-- STOP past the judgement (R109). -/
def stopAct (s : State) : State := respondOk .s [] (finish s (stopPlay (setIntent .stop s)))

/-- STOP (R109). -/
def execStop (fr : Frame) (s : State) : Host.Outcome State Fault Refusal :=
  .next (command .s 0x0C fr (frameN fr == 0) false (withDisc .s stopAct) s)

/-- The blocks since the start of the program in play, P itself when there is none (R113). -/
def blocksSince (s : State) : Nat :=
  match s.session.directory with
  | none => s.ring.p
  | some d => if s.engine.program = 0 then s.ring.p else s.ring.p - d.startOf s.engine.program

/-- The data of QUERY_POSITION after the flags byte (R113, R158). -/
def positionData (s : State) : List Byte :=
  le24 s.ring.p ++ le16 s.engine.f ++ [byteOf s.engine.program] ++ le24 (blocksSince s) ++
    [byteOf s.engine.play.code, byteOf s.engine.play.destCode, byteOf s.engine.intent.code] ++ le16 s.ring.depth

/-- QUERY_POSITION (R113). -/
def execQueryPosition (fr : Frame) (s : State) : Host.Outcome State Fault Refusal :=
  .next (command .s 0x07 fr (frameN fr == 0) false (fun s => respondOk .s (positionData s) s) s)

end Sys2Proof.Machine
end

