-- ==== Sys2Proof/Machine/ConcealOps.lean ====
section
/-! DEFINITION. The concealment unit frame by frame: flaw runs, samples, output words (07). -/

namespace Sys2Proof.Machine

/-- How a word was produced (R116, R122). -/
inductive Produced where
  | clean
  | short
  | long
  deriving DecidableEq, Repr

/-- The two channels (R116): a frame's word 2f is the left one and word 2f+1 the right one. -/
inductive Side where
  | left
  | right
  deriving DecidableEq, Repr

/-- The place in a block of a channel's word of frame f (R25). -/
def Side.index : Side → Nat → Nat
  | .left, f => 2 * f
  | .right, f => 2 * f + 1

/-- A channel's words of a slot from frame f on, at most `n` of them, with their marks. -/
def sideWords (slot : Slot) (side : Side) (f n : Nat) : List (Bool × Word) :=
  (List.range' f n).map fun j => slot.wordAt (side.index j)

/-- The lookahead of R117, as far as Lmax words of it: the rest of slot P after frame f, then slot P+1 when it is
playable. -/
def lookahead (s : State) (side : Side) : List (Bool × Word) :=
  let lmax := s.params.lmax
  let rest := s.frames - (s.engine.f + 1)
  let here := sideWords (s.slot s.ring.p) side (s.engine.f + 1) (min rest lmax)
  if s.playable (s.ring.p + 1) then
    here ++ sideWords (s.slot (s.ring.p + 1)) side 0 (lmax - rest)
  else here

/-- The first clean word of a lookahead and how many flawed words stand before it. -/
def nextClean : List (Bool × Word) → Option (Nat × Word)
  | [] => none
  | (true, _) :: rest => (nextClean rest).map fun x => (x.1 + 1, x.2)
  | (false, w) :: _ => some (0, w)

/-- Classify a run at its first word: SHORT with its length n and end value b when the next clean word lies within
the lookahead and n ≤ Lmax, LONG otherwise (R117). -/
def classify (s : State) (side : Side) : FlawRun :=
  match nextClean (lookahead s side) with
  | some (m, b) => if m + 1 ≤ s.params.lmax then .short (m + 1) 0 b else .long 0
  | none => .long 0

/-- The k-th word of a SHORT run of n words between a and b (R119). -/
def interpolate (a b : Int) (n k : Nat) : Int := a + roundDiv ((b - a) * k) (n + 1)

/-- A word of a run that has been joined or begun: the channel after it, its sample, how it was produced. -/
def runWord (c : Channel) : FlawRun → Channel × Int × Produced
  | .short n k b =>
    ({ c with run := if k + 1 ≥ n then none else some (.short n (k + 1) b) },
      interpolate c.a.toInt b.toInt n (k + 1), .short)
  | .long k => ({ c with run := some (.long (k + 1)) }, c.a.toInt, .long)

/-- A word produced as clean: it becomes the last clean value and the run, if any, is over (R120, R122). -/
def cleanWord (w : Word) : Channel × Int × Produced := (⟨w, none⟩, w.toInt, .clean)

/-- Steps 1 and 2 of R127 for one channel. -/
def channelWord (s : State) (side : Side) (c : Channel) : Channel × Int × Produced :=
  let (marked, w) := (s.slot s.ring.p).wordAt (side.index s.engine.f)
  match c.run with
  | some (.short n k b) => runWord c (.short n k b)
  | some (.long k) => if marked then runWord c (.long k) else cleanWord w
  | none => if marked then runWord c (classify s side) else cleanWord w

/-- A LONG run begins with this word: the word is LONG and no LONG run stood before it. -/
def beganLong (c : Channel) (how : Produced) : Bool := how == .long && !c.inLong

/-- One if true. -/
def oneIf (b : Bool) : Nat := if b then 1 else 0

/-- Step 3 of R127: the counters, and CONCEAL_MUTE when a LONG run begins the mute (R116, R121). `l` and `r` are the
channels before the frame, `hl` and `hr` how their words were produced. -/
def countWords (l r : Channel) (hl hr : Produced) (s : State) : State :=
  let began := oneIf (beganLong l hl) + oneIf (beganLong r hr)
  let goesOn := (l.inLong && hl == .long) || (r.inLong && hr == .long)
  let s := s |> rise .wordsInterpolated (oneIf (hl == .short) + oneIf (hr == .short))
    |> rise .wordsHeld (oneIf (hl == .long) + oneIf (hr == .long))
    |> rise .concealMutes began
  if began > 0 && !goesOn then raiseS (.concealMute s.ring.p s.engine.f) s else s

/-- The output word (R128). -/
def outWord (sample : Int) (gp gc : Nat) : Word := BitVec.ofInt 16 (roundDiv (sample * gp * gc) 16777216)

/-- Hand a frame to the sample line: the frame produced before it is shifted out now (R129). -/
def putFrame (o : OutFrame) (s : State) : State := { s with line := ⟨o, s.line.produced⟩ }

/-- The concealment unit's steps for a frame read from slot P (R127, R130). -/
def produceFrame (s : State) : State :=
  let l := s.conceal.left
  let r := s.conceal.right
  let (l', sl, hl) := channelWord s .left l
  let (r', sr, hr) := channelWord s .right r
  let s := { s with conceal := { s.conceal with left := l', right := r' } } |> countWords l r hl hr |> stepGains
  let c := s.conceal
  putFrame ⟨outWord sl c.gp c.gc, outWord sr c.gp c.gc, hl != .clean || hr != .clean || c.gc < 4096⟩ s

/-- A frame of a silent state: the gains step, both words are 0, SLC by R130 (R127). SLC is low while RESET is held
(R18). -/
def produceSilence (s : State) : State :=
  let s := stepGains { s with engine := { s.engine with anticipate := false } }
  putFrame ⟨0, 0, !s.power.resetLine && (s.conceal.gc < 4096 || s.engine.play == .starved)⟩ s

end Sys2Proof.Machine
end

