-- ==== Sys2Proof/Machine/Playback.lean ====
section
/-! DEFINITION. The frame clock and the hole wait as commands (R93, R94, R101). -/

namespace Sys2Proof.Machine

/-- Judge the anticipatory request before a frame: slot P+1 not playable and F − f ≤ Rd (R98). -/
def judgeAnticipation (s : State) : State :=
  { s with engine := { s.engine with
      anticipate := !s.playable (s.ring.p + 1) && decide (s.frames - s.engine.f ≤ s.params.rd) } }

/-- End of disc at a boundary: a leave ramp ends at (T, 0) with no flush and the play gain at 0, since slot T is not
playable; any other ramp ends in STOPPED (R94, R95, R126). -/
def boundaryEndOfDisc (s : State) : State :=
  match s.engine.play with
  | .rampDown .leave => s |> setPlayGain 0 0 |> leaveEnd
  | _ => endOfDisc s

/-- Steps 3 to 5 of the block boundary, against the new P (R94, R110). -/
def boundaryNext (s : State) : State :=
  match s.engine.play with
  | .rampDown dest =>
    if s.conceal.gp = 0 then rampEnd dest s
    else if s.playable s.ring.p then openSlot s
    else s |> setPlayGain 0 0 |> rampEnd dest
  | _ => if s.playable s.ring.p then openSlot s else enterStarved s

/-- Release slot P: the new P is unopened, orders are trimmed, the latch judged, the request cleared (R13, R94, R98). -/
def releaseSlot (s : State) : State :=
  { s with
    ring := s.ring.release
    engine := { s.engine with f := 0, slotOpen := false, anticipate := false } }
    |> (fun s => trimAll s.ring.p s) |> judgeLatchLow

/-- The block boundary (R94). -/
def blockBoundary (s : State) : State :=
  let s := releaseSlot s
  if s.ring.p = s.t then boundaryEndOfDisc s else s |> judgeProgram |> boundaryNext

/-- What follows the frame inside a block: a fade that has reached 0 ends the ramp (R110). -/
def afterFrame (s : State) : State :=
  match s.engine.play with
  | .rampDown dest => if s.conceal.gp = 0 then rampEnd dest s else s
  | _ => s

/-- A frame played from slot P (R93). -/
def playFrame (s : State) : State :=
  let s := s |> judgeAnticipation |> produceFrame
  let s := setFrame (s.engine.f + 1) s
  if s.frames ≤ s.engine.f then blockBoundary s else afterFrame s

/-- A silent frame; in STARVED one that finds slot P MISSING counts towards the hole wait (R93, R101). It also ends a wait
whose count stood at the limit before slot P became a hole, as with a limit of 0 and slot P EMPTY at the entry to
STARVED: that this waits for the frame clock and does not come with the placement that makes the hole is a DESIGN
CHOICE (log 44). -/
def silentTick (s : State) : State :=
  let s := produceSilence s
  if s.engine.play == .starved && (s.slot s.ring.p).isMissing then
    judgeHoleWait { s with engine := { s.engine with holeWait := s.engine.holeWait + 1 } }
  else s

/-- FRAME_CLOCK: a rising edge of SLF (R93, R129). An unpowered part does nothing (log 11). -/
def execFrameClock (s : State) : Host.Outcome State Fault Refusal :=
  if !s.power.powered then .next s
  else
    let s' := { s with power := { s.power with lastSlf := s.now } }
    .next (finish s (if s'.engine.play.producing then playFrame s' else silentTick s'))

/-- HOLE_WAIT_EXPIRY: in STARVED at a MISSING slot P with the count at the limit, slot P becomes VOID and play goes
on through it (R101). The frame clock that brings the count to the limit has this effect in its own event; where
the condition does not stand nothing happens (log 5). -/
def execHoleWaitExpiry (s : State) : Host.Outcome State Fault Refusal := .next (finish s (judgeHoleWait s))

end Sys2Proof.Machine
end

