-- ==== Sys2Proof/Machine/Reports.lean ====
section
/-! DEFINITION. The commands that report: QUERY_STATUS, QUERY_PLAN, READ_EVENTS, READ_COUNTERS (09, 10). -/

namespace Sys2Proof.Machine

/-- The data of QUERY_STATUS after the flags byte (R156, R158). -/
def statusData (s : State) : List Byte :=
  [byteOf s.power.mode.code, byteOf s.ring.straps.toNat, byteOf s.session.state.code, byteOf s.engine.play.code,
    byteOf s.engine.play.destCode, byteOf s.engine.intent.code] ++
  le16 s.ring.depth ++ le16 s.ring.fullness ++ le16 (s.ring.tally Slot.isMissing) ++
  le16 (s.ring.tally Slot.isFlawed) ++ le16 (s.ring.tally Slot.isVoid) ++
  [byteOf s.planner.queue.length, byteOf s.rates.agreed.code, byteOf s.rates.requested.code,
    byteOf s.rates.state.code, byteOf s.pauseFlag.toNat]

/-- QUERY_STATUS (R156). -/
def execQueryStatus (fr : Frame) (s : State) : Host.Outcome State Fault Refusal :=
  .next (command .s 0x04 fr (frameN fr == 0) true (fun s => respondOk .s (statusData s) s) s)

/-- The tag of the ISSUED entry, 0 when none is (R157). -/
def issuedTag (s : State) : Nat :=
  match s.planner.issuedEntry with
  | none => 0
  | some o => o.tagOr0

/-- The data of QUERY_PLAN after the flags byte (R157, R158). -/
def planData (s : State) : List Byte :=
  le24 s.ring.p ++ le24 s.ring.e ++
    [byteOf s.pauseFlag.toNat, byteOf s.rates.requested.code, byteOf s.planner.queue.length, byteOf (issuedTag s)]

/-- QUERY_PLAN (R157). -/
def execQueryPlan (fr : Frame) (s : State) : Host.Outcome State Fault Refusal :=
  .next (command .d 0x26 fr (frameN fr == 0) false (fun s => respondOk .d (planData s) s) s)

/-- The bitmap of a set, position i at bit (i mod 8) of byte (i div 8), three bytes (R161). -/
def bitmap {α : Type} (pos : α → Nat) (set : List (Latched α)) : List Byte :=
  packBits 3 ((List.range 24).map fun i => isLatched pos i set)

/-- How many records, from the lowest position on, fit whole in the room left (R161, log 14). -/
def fitting {α : Type} (record : Latched α → List Byte) : Nat → List (Latched α) → Nat
  | _, [] => 0
  | room, x :: rest => if (record x).length ≤ room then 1 + fitting record (room - (record x).length) rest else 0

/-- READ_EVENTS past the judgement: the bitmap and the records that fit, which are cleared (R161). -/
def readEventsAct (port : Port) (s : State) : State :=
  match port with
  | .s =>
    let n := fitting sRecord 60 s.events.sSet
    respondOk .s (bitmap SEvent.pos s.events.sSet ++ (s.events.sSet.take n).flatMap sRecord)
      { s with events := { s.events with sSet := s.events.sSet.drop n } }
  | .d =>
    let n := fitting dRecord 60 s.events.dSet
    respondOk .d (bitmap DEvent.pos s.events.dSet ++ (s.events.dSet.take n).flatMap dRecord)
      { s with events := { s.events with dSet := s.events.dSet.drop n } }

/-- READ_EVENTS on either port: the S-port takes it in UNCONFIGURED too (R149, R161). -/
def execReadEvents (port : Port) (fr : Frame) (s : State) : Host.Outcome State Fault Refusal :=
  .next (command port 0x05 fr (frameN fr == 0) (port == .s) (readEventsAct port) s)

/-- The data of READ_COUNTERS after the flags byte (R164, R158). -/
def counterData (s : State) : List Byte :=
  s.events.counters.toList.flatMap (fun c => le24 c.value) ++ packBits 2 (alertedFlags s.events.counters)

/-- READ_COUNTERS past the judgement: option 1 clears after the read (R164). -/
def readCountersAct (params : List Byte) (s : State) : State :=
  respondOk .s (counterData s) (if ofLe params = 1 then clearCounters s else s)

/-- READ_COUNTERS: an option other than 0 or 1 is BAD_FRAME (R164). -/
def execReadCounters (fr : Frame) (s : State) : Host.Outcome State Fault Refusal :=
  .next (command .s 0x06 fr (frameN fr == 1 && ofLe fr.params ≤ 1) false (readCountersAct fr.params) s)

end Sys2Proof.Machine
end

