-- ==== Sys2Proof/Machine/SessionCommands.lean ====
section
/-! DEFINITION. The disc and Resume Table commands of the S-port (08). -/

namespace Sys2Proof.Machine

/-- The session state as a response byte. -/
def sessionByte (s : State) : Byte := byteOf s.session.state.code

/-- DISC_LOADED past the judgement; in PRESENT it is WRONG_STATE with the session state (R134, R158). -/
def discLoadedAct (s : State) : State :=
  if s.session.state = .present then respond .s .wrongState [0, sessionByte s] s
  else
    let s' := finish s (loadDisc s)
    respondOk .s [sessionByte s'] s'

/-- DISC_LOADED (R134). -/
def execDiscLoaded (fr : Frame) (s : State) : Host.Outcome State Fault Refusal :=
  .next (command .s 0x0D fr (frameN fr == 0) false discLoadedAct s)

/-- DISC_RELEASE past the judgement (R135). -/
def discReleaseAct (s : State) : State :=
  let s' := finish s (releaseDisc s)
  respondOk .s [sessionByte s'] s'

/-- DISC_RELEASE (R135). -/
def execDiscRelease (fr : Frame) (s : State) : Host.Outcome State Fault Refusal :=
  .next (command .s 0x0E fr (frameN fr == 0) false discReleaseAct s)

/-- QUERY_DIRECTORY with the session PRESENT (R145). -/
def queryDirectoryAct (params : List Byte) (s : State) : State :=
  match s.session.directory with
  | none => refuse .s .noDisc s
  | some d =>
    let i := ofLe params
    let i' := clampTo 1 d.starts.length i
    let starts := (d.starts.drop (i' - 1)).take 16
    respond .s .ok (flagsByte (i' != i) false :: byteOf d.rate.code :: byteOf d.starts.length ::
      (le24 d.t ++ byteOf i' :: starts.flatMap le24)) s

/-- QUERY_DIRECTORY (R145). -/
def execQueryDirectory (fr : Frame) (s : State) : Host.Outcome State Fault Refusal :=
  .next (command .s 0x0F fr (frameN fr == 1) false (withDisc .s (queryDirectoryAct fr.params)) s)

/-- The fields of a resume entry as QUERY_RESUME sends them (R158). -/
def entryData (e : ResumeEntry) : List Byte :=
  le32 e.fingerprint.toNat ++ [byteOf e.programs] ++ le24 e.t ++ le24 e.address ++ le16 e.frame ++
    [byteOf e.intent.code, byteOf (capCode e.cap)]

/-- The number of resume entries held, as a response byte. -/
def heldByte (s : State) : Byte := byteOf s.session.table.length

/-- QUERY_RESUME past the judgement (R145). -/
def queryResumeAct (params : List Byte) (s : State) : State :=
  match entryAt (ofLe params) s.session.table with
  | some e => respondOk .s (heldByte s :: entryData e) s
  | none => respond .s .noEntry [0, heldByte s] s

/-- QUERY_RESUME (R145). -/
def execQueryResume (fr : Frame) (s : State) : Host.Outcome State Fault Refusal :=
  .next (command .s 0x10 fr (frameN fr == 1) false (queryResumeAct fr.params) s)

/-- Replace the Resume Table. -/
def setTable (t : List ResumeEntry) (s : State) : State := { s with session := { s.session with table := t } }

/-- FORGET_RESUME past the judgement: 0xFF names all entries (R146, R158). -/
def forgetResumeAct (params : List Byte) (s : State) : State :=
  let rank := ofLe params
  if rank = 255 then
    let s' := setTable [] s
    respondOk .s [heldByte s'] s'
  else
    match entryAt rank s.session.table with
    | some _ =>
      let s' := setTable (s.session.table.eraseIdx (rank - 1)) s
      respondOk .s [heldByte s'] s'
    | none => respond .s .noEntry [0, heldByte s] s

/-- FORGET_RESUME (R146). -/
def execForgetResume (fr : Frame) (s : State) : Host.Outcome State Fault Refusal :=
  .next (command .s 0x11 fr (frameN fr == 1) false (forgetResumeAct fr.params) s)

end Sys2Proof.Machine
end

