-- ==== Sys2Proof/Machine/Stream.lean ====
section
/-! DEFINITION. The stream intake: reception, the checks of R22, addresses and runs, the seam check, placement and
merging (02, 03). -/

namespace Sys2Proof.Machine

/-- Set the run record. -/
def setRun (r : Run) (s : State) : State := { s with intake := { s.intake with run := some r } }

/-- Put the link receiver in a state. -/
def setRx (rx : Receiver) (s : State) : State := { s with intake := { s.intake with rx := rx } }

/-! ### The header (R21) -/

/-- A header that R21 lets go on to its payload. -/
def headerGood (s : State) (h : Header) : Bool :=
  h.crcGood &&
    if h.kind = 0x01 then
      if s.session.state = .present then h.length == s.rate.payloadBytes
      else h.length == RateCode.payloadBytes .r44100 || h.length == RateCode.payloadBytes .r48000
    else h.kind == 0x02 && 5 ≤ h.length && h.length ≤ 770

/-! ### Addresses and runs (R29, R30) -/

/-- What R29 makes of an AUDIO frame's address. -/
inductive Addressed where
  | given (a : Nat)
  | inferred (a : Nat)
  | rejectedRun (last : Nat)
  | unknownNoRun
  | unknownNewRun
  deriving DecidableEq, Repr

/-- The table of R29. -/
def addressOf (h : Header) (run : Option Run) : Addressed :=
  if h.addressGood then .given h.address
  else if h.runStart then .unknownNewRun
  else
    match run with
    | none => .unknownNoRun
    | some r => if r.state = .rejected then .rejectedRun (r.last + 1) else .inferred (r.last + 1)

/-- A frame with a header address begins a new run (R30). -/
def beginsRun (h : Header) (a : Nat) (run : Option Run) : Bool :=
  match run with
  | none => true
  | some r => h.runStart || a != r.last + 1

/-- LATE: behind play, or slot P once it is open (R31). -/
def isLate (s : State) (a : Nat) : Bool := a < s.ring.p || (a == s.ring.p && s.engine.slotOpen)

/-- BEYOND: past the window or the disc (R32). -/
def isBeyond (s : State) (a : Nat) : Bool := s.ring.p + s.ring.len ≤ a || s.t ≤ a

/-! ### Acceptance (R33 to R35) -/

/-- Write an accepted block: placed at or beyond E, replaced or merged below it (R33, R34). -/
def writeBlock (a : Nat) (b : Block) (s : State) : State :=
  if s.ring.e ≤ a then { s with ring := s.ring.place a b } |> judgeLatchHigh
  else { s with ring := s.ring.accept a b }

/-- The acceptance makes the slot's source REPAIR where it was not (R7). -/
def improved (before after : Slot) : Bool := after.fromRepair && !before.fromRepair

/-- The acceptance calls for a scan: it made holes, or it left a bad slot that no entry covers (R59). -/
def acceptanceScans (a : Nat) (before : State) (s : State) : Bool :=
  before.ring.e < a || (s.badAt a && !s.planner.queue.any fun o => o.covers a)

/-- An accepted block, counted and passed on (R35): the run's last address, the counters, the fill-stall timer, the
upgrade progress, the planner, and then the engine. The hole wait is not judged here, also when the block makes slot P a
hole in STARVED with the count at the limit: DESIGN CHOICE (log 44). -/
def acceptBlock (r : Run) (a : Nat) (b : Block) (s : State) : State :=
  let s' := s |> writeBlock a b |> setRun { r with last := a }
    |> rise .blocksAccepted 1 |> rise .flawedWordsReceived (markCount b.marks)
    |> rise .blocksImproved (oneIf (improved (s.slot a) ((writeBlock a b s).slot a)))
    |> restartStall |> countUpgrade |> judgeCovering a
  react (if acceptanceScans a s s' then dueScan s' else s')

/-- A discarded frame of a continuing run: the run's last address becomes A (R31, R50). -/
def discardIn (r : Run) (a : Nat) (s : State) : State := s |> setRun { r with last := a } |> discardFrame

/-- A discarded frame that sets the run to NO_RUN. -/
def discardEndingRun (s : State) : State := s |> endRun |> discardFrame

/-- The seam check of a frame that begins a run (R43 to R46). -/
def seamCheck (a : Nat) (tag : Byte) (b : Block) (s : State) : State :=
  match s.slot a with
  | .clean .. | .flawed .. =>
    let d := (s.slot a).diff s.w b
    if d ≤ s.params.seamThreshold then acceptBlock ⟨.verified, a, tag⟩ a b s
    else
      s |> setRun ⟨.rejected, a, tag⟩ |> discardFrame |> rise .seamRejects 1 |> raiseD (.seamReject a tag d)
  | _ => acceptBlock ⟨.unverified, a, tag⟩ a b (rise .unverifiedRuns 1 s)

/-- A frame that begins a run (R30). -/
def audioBegins (a : Nat) (tag : Byte) (b : Block) (s : State) : State :=
  if isLate s a || isBeyond s a then discardEndingRun s else seamCheck a tag b s

/-- A frame that continues a run (R30, R49, R50). -/
def audioContinues (r : Run) (a : Nat) (b : Block) (s : State) : State :=
  if r.state = .rejected || isLate s a || isBeyond s a then discardIn r a s else acceptBlock r a b s

/-- An AUDIO frame past the checks of R27 and R28 (R29, R30). -/
def audioFrame (h : Header) (b : Block) (s : State) : State :=
  match addressOf h s.intake.run, s.intake.run with
  | .given a, some r => if beginsRun h a (some r) then audioBegins a h.tag b s else audioContinues r a b s
  | .given a, none => audioBegins a h.tag b s
  | .inferred a, some r => audioContinues r a b s
  | .rejectedRun a, some r => discardIn r a s
  | .unknownNewRun, _ => discardEndingRun s
  | _, _ => discardFrame s

/-! ### The checks in order (R22) -/

/-- A concluded frame whose header R21 passed: the checks of R22 from the second on. -/
def goodHeaderFrame (h : Header) (payload : List Byte) (s : State) : State :=
  if h.kind = 0x02 then
    if h.length = 5 + 3 * (payload.getD 1 0).toNat then takeDirectory payload s else discardEndingRun s
  else if s.session.state ≠ .present then discardFrame s
  else if s.engine.play = .stopped then discardFrame s
  else audioFrame h (readBlock s.w payload) s

/-- The receiver holds a frame that is not concluded. -/
def Receiver.inFrame (rx : Receiver) : Bool := rx.stage == .header || rx.stage == .payload

/-- RDY_B was low at the frame's SYN_B or is low now (R23). A frame that a cut began keeps what its SYN_B found. -/
def notReady (readyAtSyn : Bool) (s : State) : Bool :=
  !readyAtSyn || !s.rdyB || (s.intake.rx.inFrame && !s.intake.rx.synReady)

/-- A marked byte in HEADER or PAYLOAD: the frame in reception is concluded as FRAME_BAD, or as NOT_READY (R23), and the
byte is byte 0 of a new frame (R20, R24). -/
def cutFrame (readyAtSyn : Bool) (byte0 : Byte) (s : State) : State :=
  s |> discardEndingRun |> setRx ⟨.header, [byte0], readyAtSyn && s.rdyB⟩

/-- The receiver holds a frame other than the one of these bytes. Byte 0 alone, as a FRAME_CUT_SHORT leaves it, is the
beginning of this one (log 7). -/
def Receiver.holdsOther (rx : Receiver) (bytes : List Byte) : Bool :=
  rx.inFrame && !(rx.stage == .header && rx.bytes == bytes.take 1)

/-- The marked byte 0 of a stream frame, which ends a frame still in reception (R20). -/
def takeMarked (readyAtSyn : Bool) (bytes : List Byte) (s : State) : State :=
  match bytes with
  | [] => s
  | byte0 :: _ => if s.intake.rx.holdsOther bytes then cutFrame readyAtSyn byte0 s else s

/-- The bytes of a stream frame as the receiver takes them (R20, R21): a bad header concludes it after ten bytes. A frame
that is not concluded stays in reception (log 7). -/
def receiveFrame (readyAtSyn : Bool) (bytes : List Byte) (s : State) : State :=
  let s := takeMarked readyAtSyn bytes s
  let low := notReady readyAtSyn s
  let h := readHeader bytes
  if bytes.length < 10 then setRx ⟨.header, bytes, !low⟩ s
  else if !headerGood s h then s |> setRx { rxHunt with stage := .skip } |> discardEndingRun
  else if bytes.length < 10 + h.length then setRx ⟨.payload, bytes, !low⟩ s
  else
    let s := setRx rxHunt s
    if low then discardEndingRun s else goodHeaderFrame h ((bytes.drop 10).take h.length) s

/-- STREAM_FRAME (R22). -/
def execStreamFrame (readyAtSyn : Bool) (bytes : List Byte) (s : State) : Host.Outcome State Fault Refusal :=
  if !s.power.powered then .next s else .next (finish s (receiveFrame readyAtSyn bytes s))

/-- FRAME_CUT_SHORT (R20, R24): a marked byte ends the frame in reception and is byte 0 of a new one. With no frame held
here, the cut frame was one whose bytes the model was not given: it is concluded all the same (log 7). -/
def execFrameCutShort (readyAtSyn : Bool) (byte0 : Byte) (s : State) : Host.Outcome State Fault Refusal :=
  if !s.power.powered then .next s
  else .next (finish s (cutFrame readyAtSyn byte0 s))

end Sys2Proof.Machine
end

