-- ==== Sys2Proof/Machine/Dispatch.lean ====
section
/-! DEFINITION. exec: each command of the table, one direct call of its meaning. -/

namespace Sys2Proof.Machine

def exec (i : Instr) (s : State) : Host.Outcome State Fault Refusal :=
  match i with
  | .powerOn msz => Sys2Proof.Machine.execPowerOn msz s
  | .resetLineAsserted => Sys2Proof.Machine.execResetLineAsserted s
  | .resetLineReleased msz => Sys2Proof.Machine.execResetLineReleased msz s
  | .ringClearEnd => Sys2Proof.Machine.execRingClearEnd s
  | .streamFrame readyAtSyn bytes => Sys2Proof.Machine.execStreamFrame readyAtSyn bytes s
  | .frameCutShort readyAtSyn byte0 => Sys2Proof.Machine.execFrameCutShort readyAtSyn byte0 s
  | .stepUp => Sys2Proof.Machine.execStepUp s
  | .stepDown => Sys2Proof.Machine.execStepDown s
  | .frameClock => Sys2Proof.Machine.execFrameClock s
  | .holeWaitExpiry => Sys2Proof.Machine.execHoleWaitExpiry s
  | .fillStalled => Sys2Proof.Machine.execFillStalled s
  | .orderTimeout => Sys2Proof.Machine.execOrderTimeout s
  | .identifyTimerExpiry => Sys2Proof.Machine.execIdentifyTimerExpiry s
  | .trayDebounced => Sys2Proof.Machine.execTrayDebounced s
  | .wakeEdge => Sys2Proof.Machine.execWakeEdge s
  | .wakeDelayEnd msz => Sys2Proof.Machine.execWakeDelayEnd msz s
  | .holdFadeWatchdog => Sys2Proof.Machine.execHoldFadeWatchdog s
  | .attentionPulseEnd port => Sys2Proof.Machine.execAttentionPulseEnd port s
  | .poll port clocked => Sys2Proof.Machine.execPoll port clocked s
  | .transactionCutShort port bytes => Sys2Proof.Machine.execTransactionCutShort port bytes s
  | .unknownCommand port code fr => Sys2Proof.Machine.execUnknownCommand port code fr s
  | .lowPowerTransaction port clocked => Sys2Proof.Machine.execLowPowerTransaction port clocked s
  | .start fr => Sys2Proof.Machine.execStart fr s
  | .configure fr => Sys2Proof.Machine.execConfigure fr s
  | .softReset msz fr => Sys2Proof.Machine.execSoftReset msz fr s
  | .queryStatus fr => Sys2Proof.Machine.execQueryStatus fr s
  | .readEvents port fr => Sys2Proof.Machine.execReadEvents port fr s
  | .readCounters fr => Sys2Proof.Machine.execReadCounters fr s
  | .queryPosition fr => Sys2Proof.Machine.execQueryPosition fr s
  | .playAt fr => Sys2Proof.Machine.execPlayAt fr s
  | .playProgram fr => Sys2Proof.Machine.execPlayProgram fr s
  | .pause fr => Sys2Proof.Machine.execPause fr s
  | .resume fr => Sys2Proof.Machine.execResume fr s
  | .stop fr => Sys2Proof.Machine.execStop fr s
  | .discLoaded fr => Sys2Proof.Machine.execDiscLoaded fr s
  | .discRelease fr => Sys2Proof.Machine.execDiscRelease fr s
  | .queryDirectory fr => Sys2Proof.Machine.execQueryDirectory fr s
  | .queryResume fr => Sys2Proof.Machine.execQueryResume fr s
  | .forgetResume fr => Sys2Proof.Machine.execForgetResume fr s
  | .hold fr => Sys2Proof.Machine.execHold fr s
  | .sleep fr => Sys2Proof.Machine.execSleep fr s
  | .takeOrder fr => Sys2Proof.Machine.execTakeOrder fr s
  | .orderDone fr => Sys2Proof.Machine.execOrderDone fr s
  | .rateOffer fr => Sys2Proof.Machine.execRateOffer fr s
  | .skipNotice fr => Sys2Proof.Machine.execSkipNotice fr s
  | .driveRestart fr => Sys2Proof.Machine.execDriveRestart fr s
  | .queryPlan fr => Sys2Proof.Machine.execQueryPlan fr s
  | .powerLost => Sys2Proof.Machine.execPowerLost s
  | .trayLineChange level => Sys2Proof.Machine.execTrayLineChange level s

end Sys2Proof.Machine
end

