-- ==== Sys2Proof/Safety.lean ====
section
/-! DEFINITION. What claims speak of: the laws that the spec sets on the state, the state in which a port takes
commands, and what the rules make of the Order Queue, the engine, a played frame and a reset. -/

namespace Sys2Proof.Machine

/-! ### The ring store -/

/-- A listed slot holds an address of P..E−1, at its index A mod L (R3, R9). -/
def inWindow (r : Ring) (x : Nat × Slot) : Bool :=
  match x.2.tag with
  | none => false
  | some a => r.p ≤ a && a < r.e && x.1 == a % r.len

/-- The slot list is canonical, P ≤ E ≤ P + L (R8), and every slot that is not EMPTY holds an address of P..E−1, so
every slot of E..P+L−1 is EMPTY (R9). -/
abbrev Ring.Law (r : Ring) : Prop :=
  slotsWf r.slots = true ∧ r.p ≤ r.e ∧ r.e ≤ r.p + r.len ∧ ∀ x ∈ r.slots, inWindow r x = true

/-- A FLAWED slot has at least one mark (R5). -/
def Slot.marksGood : Slot → Bool
  | .flawed _ m _ _ _ => 1 ≤ markCount m
  | _ => true

/-- The flaw count is at least 1 in every FLAWED slot (R5). -/
abbrev Ring.MarkLaw (r : Ring) : Prop := ∀ x ∈ r.slots, x.2.marksGood = true

/-! ### The planner and the rates -/

/-- No block address is covered by two entries, and the entries ascend (R56). -/
def disjointOrders : List Order → Bool
  | a :: b :: rest => a.first + a.count ≤ b.first && disjointOrders (b :: rest)
  | _ => true

/-- An entry by itself: 1..64 addresses, a tag of 1..255 while ISSUED (R56, R65). -/
def Order.good (o : Order) : Bool :=
  1 ≤ o.count && o.count ≤ 64 &&
    match o.issue with
    | none => true
    | some i => 1 ≤ i.tag && i.tag ≤ 255

/-- The laws of the Order Queue (R56). -/
abbrev Planner.Law (p : Planner) : Prop :=
  p.queue.length ≤ 16 ∧ disjointOrders p.queue = true ∧ (∀ o ∈ p.queue, o.good = true) ∧
    p.queue.countP Order.isIssued ≤ 1 ∧ p.tagCounter ≤ 255

/-- The laws of the rates, under a configuration (R79). -/
abbrev Rates.Law (p : Params) (r : Rates) : Prop :=
  (∀ a ∈ r.held, a.agreed ∈ a.offer.ladder ∧ a.requested ∈ a.offer.ladder ∧ a.requested.code ≤ a.agreed.code ∧
    a.agreed.code ≤ (effectiveCeiling p).code) ∧
  (r.state ≠ .limited → r.progress = 0)

/-! ### Concealment, counters, events, resume entries -/

/-- gp and gc stay within 0..4096, and each target is 0 or 4096 (R115). -/
abbrev Conceal.Law (c : Conceal) : Prop :=
  c.gp ≤ 4096 ∧ c.gc ≤ 4096 ∧ (c.gpTarget = 0 ∨ c.gpTarget = 4096) ∧ (c.gcTarget = 0 ∨ c.gcTarget = 4096)

/-- A latched set: ascending positions, each once, counts of 1..255 (R159). -/
def latchedGood {α : Type} (pos : α → Nat) : List (Latched α) → Bool
  | a :: b :: rest => 1 ≤ a.count && a.count ≤ 255 && pos a.ev < pos b.ev && latchedGood pos (b :: rest)
  | [a] => 1 ≤ a.count && a.count ≤ 255
  | [] => true

/-- Both sets are in form, and no counter is above 16,777,215 (R159, R162). -/
abbrev Events.Law (e : Events) : Prop :=
  latchedGood SEvent.pos e.sSet = true ∧ latchedGood DEvent.pos e.dSet = true ∧
    ∀ c ∈ e.counters.toList, c.value ≤ 16777215

/-- At most 6 resume entries, no two with one fingerprint (R144). -/
abbrev Session.TableLaw (x : Session) : Prop :=
  x.table.length ≤ 6 ∧ (x.table.map ResumeEntry.fingerprint).Nodup

/-- A counter at or above the alert threshold has its flag set (R163). -/
abbrev AlertLaw (s : State) : Prop := ∀ c ∈ s.events.counters.toList, s.params.alertThreshold ≤ c.value → c.alerted = true

/-! ### The configuration (R154) -/

/-- Every parameter lies in its range, for a ring of `len` slots. -/
abbrev ParamLaw (len : Nat) (p : Params) : Prop :=
  (1 ≤ p.startDepth ∧ p.startDepth ≤ len / 2) ∧ (2 ≤ p.lmax ∧ p.lmax ≤ 32) ∧ (16 ≤ p.rd ∧ p.rd ≤ 256) ∧
  (16 ≤ p.ru ∧ p.ru ≤ 1024) ∧ (64 ≤ p.rp ∧ p.rp ≤ 8192) ∧ p.holeWait ≤ 2000 ∧ p.repairThreshold ≤ 960 ∧
  p.seamThreshold ≤ 64 ∧ p.leadIn ≤ 4 ∧ (1 ≤ p.retryLimit ∧ p.retryLimit ≤ 8) ∧
  (200 ≤ p.orderTimeout ∧ p.orderTimeout ≤ 10000) ∧ (1 ≤ p.downgradeLimit ∧ p.downgradeLimit ≤ 8) ∧
  (500 ≤ p.upgradeInterval ∧ p.upgradeInterval ≤ 60000) ∧ (1 ≤ p.ceiling ∧ p.ceiling ≤ 4) ∧
  (16 ≤ p.releaseMargin ∧ p.releaseMargin ≤ len / 2) ∧ (200 ≤ p.fillStallTimeout ∧ p.fillStallTimeout ≤ 10000) ∧
  (1 ≤ p.alertThreshold ∧ p.alertThreshold ≤ 16777215)

/-! ### Modes, sessions and play states -/

/-- The play states that a session state allows (R142, R143, R112, R111). -/
def playFits : SessionState → Play → Bool
  | .noDisc, p => p == .halted
  | .identifying, p => p == .halted
  | .leaving, p => p == .rampDown .leave
  | .present, p => p != .halted && p != .rampDown .leave

/-- How the device mode, the session, the play state, an entry and a ring clear go together: outside RUNNING the session
is NO_DISC (R153, R166); the play state fits the session; a directory and its fingerprint are held in PRESENT and
LEAVING (R132); an entry waits for a leave in RUNNING (R166); a ring clear runs in UNCONFIGURED or SLEEPING only (R17). -/
abbrev State.ModeLaw (s : State) : Prop :=
  (s.power.mode ≠ .running → s.session.state = .noDisc) ∧
  playFits s.session.state s.engine.play = true ∧
  (s.session.state = .present ∨ s.session.state = .leaving →
    s.session.directory.isSome = true ∧ s.session.fingerprint.isSome = true) ∧
  (s.power.entry.isSome = true → s.power.mode = .running ∧ s.session.state = .leaving) ∧
  (s.ring.clear.isSome = true → s.power.mode = .unconfigured ∨ s.power.mode = .sleeping)

/-- No slot of P..E−1 is EMPTY outside SLEEPING, whose DRAM holds none (R9, R19); while a ring clear runs E is P (R17). -/
abbrev State.FullLaw (s : State) : Prop :=
  (s.power.mode ≠ .sleeping → ∀ a, s.ring.p ≤ a → a < s.ring.e → (s.slot a).isEmpty = false) ∧
  (s.ring.clear.isSome = true → s.ring.e = s.ring.p)

/-- The repair region holds every address of the Order Queue; outside PRESENT the queue is empty (R58, R76). -/
abbrev State.RegionLaw (s : State) : Prop :=
  (∀ o ∈ s.planner.queue, (if s.engine.slotOpen then s.ring.p + 1 else s.ring.p) ≤ o.first ∧
    o.first + o.count ≤ s.ring.e) ∧
  (s.session.state ≠ .present → s.planner.queue = [])

/-- E ≤ T with a disc in play, which owns the ring (R8, R16); what a ring kept from an earlier disc holds is within the T
that the Resume Table holds of it, as is each stored address (R143). -/
abbrev State.DiscLaw (s : State) : Prop :=
  (∀ x ∈ s.session.table, x.address ≤ x.t) ∧
  (s.session.state = .present ∨ s.session.state = .leaving →
    s.ring.e ≤ s.t ∧ s.ring.owner = s.session.fingerprint) ∧
  (s.session.state = .noDisc ∨ s.session.state = .identifying →
    ∀ x ∈ s.session.table, s.ring.owner = some x.fingerprint → s.ring.e ≤ x.t)

/-! ### When a port takes commands -/

/-- The part is powered, RESET is released, and nothing shows BUSY (R151). -/
abbrev State.Free (s : State) : Prop :=
  s.power.powered = true ∧ s.power.resetLine = false ∧ s.ring.clear = none ∧ s.power.entry = none

/-- Free, and in RUNNING (R149). -/
abbrev State.Ready (s : State) : Prop := s.Free ∧ s.power.mode = .running

/-- Ready, with the session PRESENT (R152). -/
abbrev State.InPlay (s : State) : Prop := s.Ready ∧ s.session.state = .present

/-! ### Figures -/

/-- What each counter rises by, in an event that leads from `s` to `t`: a rise stops at 16,777,215, and a counter with
no rise keeps its value (R162). -/
abbrev Counted (s t : State) (up : CounterId → Nat) : Prop :=
  ∀ c, t.counter c = if up c = 0 then s.counter c else min (s.counter c + up c) 16777215

/-- A gain after a step towards its target, at which it stops (R124). -/
def toward (gain target up down : Nat) : Nat :=
  if gain = target then gain else if gain < target then min target (gain + up) else max target (gain - down)

/-- A whole number nearest to n / d, the one further from 0 where two are as near (00 section 0.6). -/
abbrev Nearest (v n : Int) (d : Nat) : Prop :=
  (2 * (v * d - n)).natAbs ≤ d ∧ ((2 * (v * d - n)).natAbs = d → n.natAbs < (v * d).natAbs)

/-- ceil(4096 / r): the step of a ramp of length `r` (R124). -/
def stepOf (r : Nat) : Nat := (4096 + r - 1) / r

/-! ### The Order Queue after an event -/

/-- The queue `q` after a scan made in `t` (R59 to R61; ScanCoversBadSlots says what a scan does). -/
def scanned (t : State) (q : List Order) : List Order :=
  (scan { t with planner := { t.planner with queue := q } }).planner.queue

/-- Some entry of a queue covers the address (R56). -/
abbrev coveredBy (q : List Order) (a : Nat) : Prop := ∃ o ∈ q, o.first ≤ a ∧ a < o.first + o.count

/-- A bad slot of the repair region that no entry covers, for which a scan looks (R58, R59). -/
abbrev State.unplaced (s : State) (a : Nat) : Prop :=
  s.lowestPlaceable ≤ a ∧ a < s.ring.e ∧ s.badAt a = true ∧ ¬ coveredBy s.planner.queue a

/-- A maximal range of slots for which a scan looks, from its first address to its last (R59). -/
structure State.UnplacedRange (s : State) (first last : Nat) : Prop where
  ordered : first ≤ last
  inside : ∀ a, first ≤ a → a ≤ last → s.unplaced a
  below : ∀ a, a + 1 = first → ¬ s.unplaced a
  above : ¬ s.unplaced (last + 1)

/-- The first address of the range from `first` on that the QUEUED entry just below it has not come to cover in `t` (R60
step 1). -/
def restFrom (t : State) (first : Nat) : Nat :=
  match t.planner.queue.find? fun g => g.issue.isNone && decide (g.first < first ∧ first ≤ g.first + g.count) with
  | some g => g.first + g.count
  | none => first

/-- What a scan from `s` to `t` makes of the range `first`..`last`, in the order of R60: a QUEUED entry that ends just
below is extended over it, up to 64 addresses in all. Of the rest, cut at each 64 addresses from its low end, a piece
that reaches the range's end joins a QUEUED entry that begins just above when both fit into 64 addresses, and any
other piece is an entry of its own, QUEUED with 0 attempts. The scan comes to a piece when all that it looks for below
is covered; at a full queue it ends there with the piece left out (R61), and a join needs no place. An ISSUED entry is
never extended. -/
structure Shaped (s t : State) (first last : Nat) : Prop where
  below : ∀ o ∈ s.planner.queue, o.issue = none → o.first + o.count = first →
    (∀ a, s.unplaced a → a < first → coveredBy t.planner.queue a) →
    ∃ g ∈ t.planner.queue, g.issue = none ∧ g.first ≤ o.first ∧ g.first + g.count = min (last + 1) (g.first + 64)
  above : ∀ o ∈ s.planner.queue, o.issue = none → o.first = last + 1 →
    ∀ k b, b = restFrom t first + 64 * k → b ≤ last →
    (∀ a, s.unplaced a → a < b → coveredBy t.planner.queue a) → o.count + (last + 1 - b) ≤ 64 →
    ∃ g ∈ t.planner.queue, g.issue = none ∧ g.first = b ∧ o.first + o.count ≤ g.first + g.count
  fresh : ∀ k b, b = restFrom t first + 64 * k → b ≤ last →
    (∀ a, s.unplaced a → a < b → coveredBy t.planner.queue a) →
    (∀ o ∈ s.planner.queue, o.issue = none → o.first = last + 1 → 64 < o.count + (last + 1 - b)) →
    ⟨b, min 64 (last + 1 - b), 0, none⟩ ∈ t.planner.queue ∨
      t.planner.queue.length = 16 ∧ ¬ coveredBy t.planner.queue b

/-- What is left of an entry from the address `low` on (R73). -/
def Order.behind (low : Nat) (o : Order) : Option Order :=
  if o.first + o.count ≤ low then none
  else some { o with first := max o.first low, count := o.first + o.count - max o.first low }

/-- What the slots of `s` leave of an entry: its first to its last bad address (R66, R71, R74). -/
def Order.leftBad (s : State) (o : Order) : Option Order :=
  match (List.range' o.first o.count).filter s.badAt with
  | [] => none
  | a :: rest => some { o with first := a, count := rest.getLastD a + 1 - a }

/-- The tag that ORDER_WITHDRAWN carries: 0 for a QUEUED entry (R73). -/
def Order.toldTag (o : Order) : Nat := (o.issue.map Issue.tag).getD 0

/-- The queue of `s` judged entry by entry; a scan is made in `t` when an entry went, or when `due` calls for it (R59). -/
def requeued (s t : State) (judge : Order → Option Order) (due : Bool) : List Order :=
  let q := s.planner.queue.filterMap judge
  if due || s.planner.queue.any fun o => (judge o).isNone then scanned t q else q

/-- Work waits in a queue: it holds an entry and none is ISSUED (R62). -/
abbrev workIn (q : List Order) : Prop := q ≠ [] ∧ ∀ o ∈ q, o.issue = none

/-- ORDER_AVAILABLE in an event from `s` to `t`, whose scan found the queue `judged` (R62): raised when work waits at its end
and did not wait at its start or before its scan, and only then. -/
structure WorkTold (judged : List Order) (s t : State) : Prop where
  raised : workIn t.planner.queue → ¬ (workIn s.planner.queue ∧ workIn judged) →
    ∃ n, ⟨DEvent.orderAvailable, n⟩ ∈ t.events.dSet
  quiet : ¬ workIn t.planner.queue ∨ workIn s.planner.queue ∧ workIn judged →
    ∀ x ∈ t.events.dSet, x.ev.pos = DEvent.orderAvailable.pos → x ∈ s.events.dSet

/-- The D-port's set once the queue `q` has been emptied: ORDER_WITHDRAWN of its ISSUED entry, and of no other (R76). -/
def emptiedTold (q : List Order) (d : List (Latched DEvent)) : List (Latched DEvent) :=
  match q.find? fun o => o.issue.isSome with
  | some o => latch DEvent.pos (.orderWithdrawn o.toldTag o.first) d
  | none => d

/-- The D-port's set once the pause flag has gone from `old` to `new`: PAUSE_CHANGED for a change alone (R37). -/
def pauseTold (old new : Bool) (d : List (Latched DEvent)) : List (Latched DEvent) :=
  if old = new then d else latch DEvent.pos (.pauseChanged new) d

/-- PAUSE_CHANGED in an event from `s` to `t`: raised with the new value when the pause flag changes, and only then (R37). -/
structure FlagTold (s t : State) : Prop where
  raised : s.pauseFlag ≠ t.pauseFlag → ∃ n, ⟨DEvent.pauseChanged t.pauseFlag, n⟩ ∈ t.events.dSet
  quiet : s.pauseFlag = t.pauseFlag → ∀ x ∈ t.events.dSet, x.ev.pos = (DEvent.pauseChanged true).pos → x ∈ s.events.dSet

/-- The program number after an event from `s` to `t` that computes it: that of the P of `t`. PROGRAM_CHANGED is raised with
the number and P when it differs from the number held, and only then (R96). -/
structure ProgramTold (s t : State) : Prop where
  number : t.engine.program = t.programNow
  raised : t.engine.program ≠ s.engine.program →
    ∃ n, ⟨SEvent.programChanged t.engine.program t.ring.p, n⟩ ∈ t.events.sSet
  quiet : t.engine.program = s.engine.program →
    ∀ x ∈ t.events.sSet, x.ev.pos = (SEvent.programChanged 0 0).pos → x ∈ s.events.sSet

/-- RATE_CHANGED with cause RESET in an event from `s` to `t` that sets the rates to NONE: raised on both ports when a
reported rate was above 1x, and only then (R88, R89). -/
structure RatesDropTold (s t : State) : Prop where
  raised : s.rates.agreed ≠ .x1 ∨ s.rates.requested ≠ .x1 →
    (∃ n, ⟨SEvent.rateChanged .x1 .x1 .none .reset, n⟩ ∈ t.events.sSet) ∧
      ∃ n, ⟨DEvent.rateChanged .x1 .x1 .none .reset, n⟩ ∈ t.events.dSet
  quiet : s.rates.agreed = .x1 → s.rates.requested = .x1 →
    (∀ x ∈ t.events.sSet, x.ev.pos = (SEvent.rateChanged .x1 .x1 .none .reset).pos → x ∈ s.events.sSet) ∧
      ∀ x ∈ t.events.dSet, x.ev.pos = (DEvent.rateChanged .x1 .x1 .none .reset).pos → x ∈ s.events.dSet

/-- A pending load that the end of a leave turns into an identification: no entry to a low-power mode is in progress (R143
step 4, R166). -/
def State.loadWaits (s : State) : Bool := s.session.pendingLoad && s.power.entry.isNone

/-- What the end of a leave, from `s` to `t`, makes of the session unit (R143 step 4, R134) and, where an entry to HELD or
SLEEPING waits for it, of the power controller, the DRAM and the tag counter (R166, R167, R19). The Resume Table is
told beside it. -/
structure LeaveEnds (s t : State) : Prop where
  session : t.session = { s.session with
    state := if s.loadWaits then .identifying else .noDisc
    pendingLoad := false
    identify := if s.loadWaits then some ⟨s.now, false⟩ else s.session.identify
    table := t.session.table }
  stays : s.power.entry = none → t.power = s.power ∧ t.ring = s.ring
  enters : ∀ e, s.power.entry = some e →
    t.power = { s.power with
      mode := e.target.mode, entry := none, wake := none
      selfRefresh := e.target == .held || s.power.selfRefresh
      supply := e.target != .sleeping && s.power.supply } ∧
    t.ring = (if e.target = .held then s.ring else { s.ring with slots := [], asleep := some s.ring.figures }) ∧
    t.ring.figures = s.ring.figures ∧ t.planner.tagCounter = 0

/-- What the S-port's set takes at the end of a leave with the disc `fp` at `p` and `f`: HALTED and SESSION_ENDED with the entry
that is stored (R143 steps 2 and 3). -/
def endedTold (fp : BitVec 32) (p f : Nat) (intent : Intent) (set : List (Latched SEvent)) : List (Latched SEvent) :=
  latch SEvent.pos (.sessionEnded fp p f (if intent = .play then .playing else .paused))
    (latch SEvent.pos (.playStateChanged .halted intent) set)

/-- The trim for play from `s` to `t`, P at `p` and opened or not: every entry begins at P, or at P + 1 behind an open slot;
one left empty is withdrawn, with its first address as the trim found it, and a scan follows (R73, R59). The record of
ORDER_WITHDRAWN keeps the highest one's data (log 40). -/
structure Trims (p : Nat) (opens : Bool) (s t : State) : Prop where
  queue : t.planner.queue = requeued s t (Order.behind (if opens then p + 1 else p)) false
  above : ∀ o ∈ t.planner.queue, (if opens then p + 1 else p) ≤ o.first
  withdrawn : ∀ o ∈ s.planner.queue, s.ring.p ≤ o.first → o.first + o.count ≤ (if opens then p + 1 else p) →
    (∀ x ∈ s.planner.queue, x.first + x.count ≤ (if opens then p + 1 else p) → x.first ≤ o.first) →
    ∃ n, ⟨DEvent.orderWithdrawn o.toldTag (if o.first + o.count ≤ p then o.first else max o.first p), n⟩ ∈ t.events.dSet
  kept : t.planner.fails = s.planner.fails ∧ t.planner.tagCounter = s.planner.tagCounter
  work : WorkTold (s.planner.queue.filterMap (Order.behind (if opens then p + 1 else p))) s t

/-! ### The engine when slots change -/

/-- PLAYING in an opened slot P, the hole wait and the fill-stall timer dropped (R92, R100, R103). -/
def opened (e : Engine) : Engine := { e with play := .playing, slotOpen := true, holeWait := 0, stall := none }

/-- The target that R123 gives the conceal gain. -/
def concealAim (anticipate : Bool) (c : Conceal) : Nat :=
  if anticipate || c.left.inLong || c.right.inLong then 0 else 4096

/-- The gains as STARVED ends: the conceal gain comes up from 0 (R100, R125). -/
def gainsFromStarved (p : Params) (anticipate : Bool) (c : Conceal) : Conceal :=
  { c with
    gc := 0, gcTarget := concealAim anticipate c
    gcUp := if concealAim anticipate c = 4096 then stepOf p.ru else c.gcUp }

/-- The gains as PRIMING ends: the play gain turns to 4096, the conceal gain is 4096 (R103, R125, R126). -/
def gainsFromPriming (p : Params) (anticipate : Bool) (c : Conceal) : Conceal :=
  { c with
    gpTarget := 4096
    gpStep := if c.gpTarget ≠ 4096 ∧ c.gp = c.gpTarget then stepOf p.rp else c.gpStep
    gc := 4096, gcTarget := concealAim anticipate c
    gcDown := if concealAim anticipate c = 0 then stepOf p.rd else c.gcDown }

/-- STARVED ends: slot P is playable (R100). -/
def starvedEnds (s t : State) : Bool := s.engine.play == .starved && (t.slot s.ring.p).playable

/-- PRIMING ends: the start depth is reached, or the rest of the disc is held and playable (R103). -/
def primingEnds (s t : State) : Bool :=
  s.engine.play == .priming &&
    (s.params.startDepth ≤ t.ring.depth || (t.ring.e == s.t && t.ring.depth == t.ring.e - s.ring.p))

/-- Play begins or goes on by what the slots have become. -/
def playBegins (s t : State) : Bool := starvedEnds s t || primingEnds s t

/-- What the engine makes of slots that changed from `s` to `t`, P before T; `waiting` is the engine when neither STARVED nor
PRIMING ends (R100, R103). A hole made at P with the hole-wait count at its limit does not end STARVED here, which is the
model's choice (log 44). -/
structure Reacts (waiting : Engine) (s t : State) : Prop where
  engine : t.engine = if playBegins s t then opened s.engine else waiting
  conceal : t.conceal =
    if starvedEnds s t then gainsFromStarved s.params s.engine.anticipate s.conceal
    else if primingEnds s t then gainsFromPriming s.params s.engine.anticipate s.conceal else s.conceal
  told : playBegins s t = true → ∃ n, ⟨SEvent.playStateChanged .playing s.engine.intent, n⟩ ∈ t.events.sSet

/-- What a block accepted at `a` leaves of an entry: the one that covers it is judged by its slots (R71), and each is trimmed
when play begins (R73). -/
def arrived (a : Nat) (s t : State) (o : Order) : Option Order :=
  (if o.first ≤ a ∧ a < o.first + o.count then o.leftBad t else some o).bind
    fun o => if playBegins s t then o.behind (s.ring.p + 1) else some o

/-- What the other blocks make of a block accepted at `a`, from `s` to `t`: the entry that covers it is judged by its slots
(R71), the upgrade progress counts it (R85, R86), the fill-stall timer starts again (R102) and STARVED or PRIMING may
end, with the trim of R73. A scan follows new holes, a new bad slot and a removed entry (R59). PAUSE_CHANGED tells of a
fill latch that the placement sets (R36, R37). -/
structure Arrives (a : Nat) (s t : State) : Prop where
  queue : t.planner.queue = requeued s t (arrived a s t)
    (s.ring.e < a || (t.badAt a && !s.planner.queue.any fun o => o.first ≤ a && a < o.first + o.count))
  planner : t.planner = { s.planner with
    queue := t.planner.queue
    fails := if s.planner.queue.any fun o =>
        o.first ≤ a && a < o.first + o.count && o.issue.isSome && (o.leftBad t).isNone
      then 0 else s.planner.fails }
  removed : ∀ o ∈ s.planner.queue, o.first ≤ a → a < o.first + o.count → o.leftBad t = none →
    match o.issue with
    | some i => ∃ n, ⟨DEvent.orderComplete i.tag, n⟩ ∈ t.events.dSet
    | none =>
      (playBegins s t = true → ∀ x ∈ s.planner.queue, x ≠ o → s.ring.p + 1 < x.first + x.count) →
        ∃ n, ⟨DEvent.orderWithdrawn 0 o.first, n⟩ ∈ t.events.dSet
  passed : playBegins s t = true → ∀ o ∈ s.planner.queue, ¬ (o.first ≤ a ∧ a < o.first + o.count) →
    s.ring.p ≤ o.first → o.first + o.count ≤ s.ring.p + 1 →
    ∃ n, ⟨DEvent.orderWithdrawn o.toldTag o.first, n⟩ ∈ t.events.dSet
  work : WorkTold (s.planner.queue.filterMap (arrived a s t)) s t
  pause : FlagTold s t
  rates : ∀ u, exec .stepUp { s with rates := { s.rates with progress := s.rates.progress + 1 } } = .next u →
    t.rates = if s.rates.state = .limited then u.rates else s.rates
  reacts : Reacts { s.engine with stall := s.engine.stall.map fun k => ⟨s.now, s.params.fillStallTimeout, k.stalled⟩ } s t

/-! ### A frame played from slot P -/

/-- What a frame read from slot P leaves in the concealment unit, puts on the sample line and counts. -/
structure Played where
  anticipate : Bool
  conceal : Conceal
  frame : OutFrame
  shorts : Nat
  longs : Nat
  begun : Nat
  mutes : Bool
  deriving DecidableEq, Repr

/-- The frame of P and f, by the rules of its two words (ChannelWordRules): the anticipatory request (R98), the counts of
SHORT and LONG words and of LONG runs that begin (R116, R121), the mute with CONCEAL_MUTE unless a LONG run goes on
(log 18), the targets and steps (R123 to R125), the output words (R128) and SLC (R130). -/
def played (s : State) : Played :=
  let c := s.conceal
  let l := channelWord s .left c.left
  let r := channelWord s .right c.right
  let count := fun how => (if l.2.2 = how then 1 else 0) + if r.2.2 = how then 1 else 0
  let begins := fun (x : Channel) (how : Produced) => how == .long && !x.inLong
  let goes := fun (x : Channel) (how : Produced) => how == .long && x.inLong
  let begun := (if begins c.left l.2.2 then 1 else 0) + if begins c.right r.2.2 then 1 else 0
  let ant := !(s.slot (s.ring.p + 1)).playable && decide (s.frames - s.engine.f ≤ s.params.rd)
  let target := concealAim ant { c with left := l.1, right := r.1 }
  let down := if c.gcTarget ≠ target ∧ target = 0 then stepOf s.params.rd else c.gcDown
  let up := if c.gcTarget ≠ target ∧ target = 4096 then stepOf s.params.ru else c.gcUp
  let gp := toward c.gp c.gpTarget c.gpStep c.gpStep
  let gc := toward c.gc target up down
  { anticipate := ant
    conceal := ⟨l.1, r.1, gp, c.gpTarget, c.gpStep, gc, target, down, up⟩
    frame := ⟨outWord l.2.1 gp gc, outWord r.2.1 gp gc, l.2.2 != .clean || r.2.2 != .clean || gc < 4096⟩
    shorts := count .short, longs := count .long, begun := begun
    mutes := 0 < begun && !goes c.left l.2.2 && !goes c.right r.2.2 }

/-- What a frame played from `s` to `t` puts out and counts, with what else is counted in its event. -/
structure Sounds (s t : State) (also : CounterId → Nat) : Prop where
  line : t.line = ⟨(played s).frame, s.line.produced⟩
  counted : Counted s t fun c =>
    if c = .wordsInterpolated then (played s).shorts
    else if c = .wordsHeld then (played s).longs
    else if c = .concealMutes then (played s).begun
    else also c
  muted : (played s).mutes = true → ∃ n, ⟨SEvent.concealMute s.ring.p s.engine.f, n⟩ ∈ t.events.sSet
  unmuted : (played s).mutes = false → ∀ x ∈ t.events.sSet, x.ev.pos = 5 → x ∈ s.events.sSet

/-! ### What a port holds, what a reset leaves -/

/-- What a port holds once a frame has been answered, `n` bytes clocked beside its code, N and check byte: the response,
ERROR by its code, and as bytes sent the status byte and 0x00 for the n + 2 bytes after the code (R148, R150, R151;
for bytes behind the check byte log 37). -/
def answer (s : State) (port : Port) (n : Nat) (code : RespCode) (data : List Byte) : PortState :=
  ⟨some ⟨code, data⟩, code != .ok, s.statusByte port :: List.replicate (n + 2) 0⟩

/-- The sum of bytes, mod 256 (R148). -/
def byteSum (bs : List Byte) : Byte := bs.foldl (· + ·) 0

/-- The part after a reset: every block as its chapter's table gives (R19, R41, R78, R90, R114, R131, R147, R151, R154,
R165, R166), with the straps, the ring clear and the Resume Table given. The raw lines, what was sent, the timebase
and the queue are no block's state and stay. -/
def afterReset (s : State) (straps : BitVec 2) (clear : Option RingClear) (table : List ResumeEntry) : State :=
  { State.reset with
    ring := { State.reset.ring with straps := straps, clear := clear }
    session := { State.reset.session with
      trayLine := s.session.trayLine, trayChange := s.now, table := table }
    sPort := { State.reset.sPort with sent := s.sPort.sent }
    dPort := { State.reset.dPort with sent := s.dPort.sent }
    power := { State.reset.power with
      powered := s.power.powered, resetLine := s.power.resetLine, lastSlf := s.power.lastSlf }
    now := s.now
    pending := s.pending }

/-! ### The command frames of R158 -/

/-- A command frame as R149 judges it: its port, code and frame, whether N and the parameters fit the command, and
whether UNCONFIGURED takes it. -/
structure PortCommand where
  port : Port
  code : Byte
  fr : Frame
  fits : Bool
  early : Bool
  deriving DecidableEq, Repr

/-- N of the command's frame. -/
def PortCommand.n (c : PortCommand) : Nat := c.fr.params.length

/-- The length that `answer` counts: the parameter bytes and those behind the check byte (R148). -/
def PortCommand.clocked (c : PortCommand) : Nat := c.n + c.fr.behind.length

/-- All the bytes of the command's frame. -/
def PortCommand.bytes (c : PortCommand) : List Byte := c.code :: byteOf c.n :: (c.fr.params ++ [c.fr.check])

/-- The port commands among the commands, by the table of R158 and the table of R149. -/
def portCommand : Instr → Option PortCommand
  | .start fr => some ⟨.s, 0x01, fr, fr.params.length == 0, true⟩
  | .configure fr => some ⟨.s, 0x02, fr, fr.params.length % 4 == 0, true⟩
  | .softReset _ fr => some ⟨.s, 0x03, fr.frame, fr.frame.params.length == 0, true⟩
  | .queryStatus fr => some ⟨.s, 0x04, fr, fr.params.length == 0, true⟩
  | .readEvents .s fr => some ⟨.s, 0x05, fr, fr.params.length == 0, true⟩
  | .readEvents .d fr => some ⟨.d, 0x05, fr, fr.params.length == 0, false⟩
  | .readCounters fr => some ⟨.s, 0x06, fr, fr.params == [0] || fr.params == [1], false⟩
  | .queryPosition fr => some ⟨.s, 0x07, fr, fr.params.length == 0, false⟩
  | .playAt fr => some ⟨.s, 0x08, fr, fr.params.length == 5, false⟩
  | .playProgram fr => some ⟨.s, 0x09, fr, fr.params.length == 1, false⟩
  | .pause fr => some ⟨.s, 0x0A, fr, fr.params.length == 0, false⟩
  | .resume fr => some ⟨.s, 0x0B, fr, fr.params.length == 0, false⟩
  | .stop fr => some ⟨.s, 0x0C, fr, fr.params.length == 0, false⟩
  | .discLoaded fr => some ⟨.s, 0x0D, fr, fr.params.length == 0, false⟩
  | .discRelease fr => some ⟨.s, 0x0E, fr, fr.params.length == 0, false⟩
  | .queryDirectory fr => some ⟨.s, 0x0F, fr, fr.params.length == 1, false⟩
  | .queryResume fr => some ⟨.s, 0x10, fr, fr.params.length == 1, false⟩
  | .forgetResume fr => some ⟨.s, 0x11, fr, fr.params.length == 1, false⟩
  | .hold fr => some ⟨.s, 0x12, fr, fr.params.length == 0, false⟩
  | .sleep fr => some ⟨.s, 0x13, fr, fr.params.length == 0, false⟩
  | .takeOrder fr => some ⟨.d, 0x21, fr, fr.params.length == 0, false⟩
  | .orderDone fr =>
    some ⟨.d, 0x22, fr, match fr.params with | [_, o] => o == 0 || o == 1 || o == 2 | _ => false, false⟩
  | .rateOffer fr => some ⟨.d, 0x23, fr, fr.params.length == 1, false⟩
  | .skipNotice fr => some ⟨.d, 0x24, fr, fr.params.length == 3, false⟩
  | .driveRestart fr => some ⟨.d, 0x25, fr, fr.params.length == 0, false⟩
  | .queryPlan fr => some ⟨.d, 0x26, fr, fr.params.length == 0, false⟩
  | .powerOn _ | .resetLineAsserted | .resetLineReleased _ | .ringClearEnd | .streamFrame _ _ | .frameCutShort _ _
  | .stepUp | .stepDown | .frameClock | .holeWaitExpiry | .fillStalled | .orderTimeout | .identifyTimerExpiry
  | .trayDebounced | .wakeEdge | .wakeDelayEnd _ | .holdFadeWatchdog | .attentionPulseEnd _ | .poll _ _
  | .transactionCutShort _ _ | .unknownCommand _ _ _ | .lowPowerTransaction _ _ | .powerLost
  | .trayLineChange _ => none

/-! ### The parameter table of R154 -/

/-- A value that its parameter takes as it is: in its range, no mask bit that names no event (R154). -/
def paramFits (len : Nat) (pair : Nat × Nat) : Bool :=
  let within := fun lo hi : Nat => decide (lo ≤ pair.2 ∧ pair.2 ≤ hi)
  match pair.1 with
  | 1 => within 1 (len / 2)
  | 2 => within 2 32
  | 3 => within 16 256
  | 4 => within 16 1024
  | 5 => within 64 8192
  | 6 => within 0 2000
  | 7 => within 0 960
  | 8 => within 0 64
  | 9 => within 0 4
  | 10 => within 1 8
  | 11 => within 200 10000
  | 12 => within 1 8
  | 13 => within 500 60000
  | 14 => within 1 4
  | 15 => within 16 (len / 2)
  | 16 => within 200 10000
  | 17 => within 1 16777215
  | 18 => within 0 1
  | 19 => within 0 1
  | 20 => within 0 (2 ^ 15 - 1)
  | 21 => within 0 (2 ^ 8 - 1)
  | 22 => within 0 1
  | 23 => within 0 1
  | _ => true

/-- The parameters with the value of one pair stored, brought into its range for a ring of `len` slots. -/
def storeParam (len : Nat) (p : Params) (pair : Nat × Nat) : Params :=
  let v := pair.2
  match pair.1 with
  | 1 => { p with startDepth := max 1 (min v (len / 2)) }
  | 2 => { p with lmax := max 2 (min v 32) }
  | 3 => { p with rd := max 16 (min v 256) }
  | 4 => { p with ru := max 16 (min v 1024) }
  | 5 => { p with rp := max 64 (min v 8192) }
  | 6 => { p with holeWait := min v 2000 }
  | 7 => { p with repairThreshold := min v 960 }
  | 8 => { p with seamThreshold := min v 64 }
  | 9 => { p with leadIn := min v 4 }
  | 10 => { p with retryLimit := max 1 (min v 8) }
  | 11 => { p with orderTimeout := max 200 (min v 10000) }
  | 12 => { p with downgradeLimit := max 1 (min v 8) }
  | 13 => { p with upgradeInterval := max 500 (min v 60000) }
  | 14 => { p with ceiling := max 1 (min v 4) }
  | 15 => { p with releaseMargin := max 16 (min v (len / 2)) }
  | 16 => { p with fillStallTimeout := max 200 (min v 10000) }
  | 17 => { p with alertThreshold := max 1 (min v 16777215) }
  | 18 => { p with autoPlay := v != 0 }
  | 19 => { p with autoResume := v != 0 }
  | 20 => { p with sMask := BitVec.ofNat 15 v }
  | 21 => { p with dMask := BitVec.ofNat 8 v }
  | 22 => { p with sMode := if v = 0 then .level else .pulse }
  | 23 => { p with dMode := if v = 0 then .level else .pulse }
  | _ => p

end Sys2Proof.Machine
end

