-- ==== Sys2Proof/Certificates/Slice0/Obligations.lean ====
section
/-! DEFINITION. The statements for the provers: what the commands of the QB-820 do, and the laws its state keeps. -/

open Sys2Proof Sys2Proof.Machine

/-! ### The step -/

/-- The row's own rule for a block: a step takes the command at the front of the queue and runs it with the rest. With no
command waiting one microsecond of the timebase passes and nothing else happens (log 3, DESIGN CHOICE). The queue itself is
the model's (log 1, DESIGN CHOICE). -/
def Obligations.StepRunsFrontCommand : Prop :=
  (∀ (c : Instr) (rest : List Instr) (s : State), s.pending = c :: rest →
    step s = exec c { s with pending := rest }) ∧
  (∀ s : State, s.pending = [] → step s = .next { s with now := s.now + 1 })

/-! ### Supply, RESET and the mode -/

/-- POWER_ON (R153, R17, R144): every block as after a reset, the Resume Table empty, and a ring clear running under the
straps read. That a POWER_ON while RESET is held starts no ring clear before the release is the model's choice (log 10).
POWER_LOST (R18): all is as after a reset, with no resume entry left, until POWER_ON. What an unpowered part does is the
model's (log 11). The sample line silent at the reset and the timebase kept through it are the model's too (log 33,
log 3). -/
def Obligations.SupplyResets : Prop :=
  (∀ (msz : BitVec 2) (s : State),
     (s.power.resetLine = false →
       exec (.powerOn msz) s = .next { afterReset s msz (some ⟨s.now⟩) [] with
         power := { (afterReset s msz none []).power with powered := true } }) ∧
     (s.power.resetLine = true →
       exec (.powerOn msz) s = .next { afterReset s s.ring.straps none [] with
         power := { (afterReset s msz none []).power with powered := true } })) ∧
  (∀ (s : State), s.power.powered = true →
     exec .powerLost s = .next { afterReset s s.ring.straps none [] with
       power := { (afterReset s 0 none []).power with powered := false, supply := false } })

/-- RESET_LINE_ASSERTED and RESET_LINE_RELEASED (R18, R153): the reset values and the Resume Table are left; the ring clear
starts at the release, under the straps read then. That the assertion already leaves every reset value and the release
leaves them again is the model's choice (log 10), as are the silent sample line (log 33) and the timebase kept (log 3).
A release of a line that was not asserted changes nothing (log 9). -/
def Obligations.ResetLineResets : Prop :=
  ∀ (msz : BitVec 2) (s : State), s.power.powered = true →
    (∃ t, exec .resetLineAsserted s = .next t ∧
      t = { afterReset s s.ring.straps none s.session.table with
        power := { (afterReset s msz none []).power with resetLine := true } } ∧
      t.rdyB = false ∧ t.busy = true ∧ t.shownMode = .unconfigured ∧ t.attention .s = false ∧ t.attention .d = false) ∧
    (s.power.resetLine = true →
      exec (.resetLineReleased msz) s = .next { afterReset s msz (some ⟨s.now⟩) s.session.table with
        power := { (afterReset s msz none []).power with resetLine := false } }) ∧
    (s.power.resetLine = false → exec (.resetLineReleased msz) s = .next s)

/-- SOFT_RESET, taken in UNCONFIGURED and RUNNING (R155): the reset values, the Resume Table kept, a ring clear running and
the one response the reset keeps. A D-port frame in reception is dropped without an answer: of its transaction nothing
is left but the status byte and 0x00 sent (log 38). The sample line silent at the reset and the timebase kept are the
model's choices (log 33, log 3). -/
def Obligations.SoftResetResets : Prop :=
  ∀ (msz : BitVec 2) (dFrame : List Byte) (s : State), s.Free →
    (s.power.mode = .unconfigured ∨ s.power.mode = .running) →
    exec (.softReset msz ⟨goodFrame 0x03 [], dFrame⟩) s = .next { afterReset s msz (some ⟨s.now⟩) s.session.table with
      sPort := answer s .s 0 .ok [0]
      dPort := ⟨none, false,
        if dFrame = [] then s.dPort.sent else s.statusByte .d :: List.replicate (dFrame.length - 1) 0⟩ }

/-- START (R153): in UNCONFIGURED with the ring clear ended the mode becomes RUNNING and a CLOSED tray starts an
identification; in RUNNING it is WRONG_STATE. -/
def Obligations.StartBeginsRunning : Prop :=
  ∀ (s : State), s.Free → s.planner.scanDue = false →
    (s.power.mode = .unconfigured → s.session.state = .noDisc →
      exec (.start (goodFrame 0x01 [])) s = .next { s with
        power := { s.power with mode := .running }
        session := if s.session.tray = some .closed
          then { s.session with state := .identifying, identify := some ⟨s.now, false⟩ } else s.session
        sPort := answer s .s 0 .ok [0] }) ∧
    (s.power.mode = .running →
      exec (.start (goodFrame 0x01 [])) s = .next { s with sPort := answer s .s 0 .wrongState [0] })

/-- RING_CLEAR_END (R17, R170, R36, R41): BUSY ends and the fill latch is cleared, with PAUSE_CHANGED on the D-port when the
pause flag changes by it (R37; that it is cleared here and not at the start of the clear is log 24). After a wake from
SLEEPING the mode becomes RUNNING, WOKE carries the source and a CLOSED tray starts an identification (R169, R133). The
timebase moves to the clear's end, or stays when that is past, and with no clear running nothing happens (log 4). -/
def Obligations.RingClearEnds : Prop :=
  ∀ (s : State),
    (s.ring.clear = none → exec .ringClearEnd s = .next s) ∧
    (∀ c : RingClear, s.ring.clear = some c → s.planner.scanDue = false →
      let now' := max s.now (c.since + 2 * s.ring.len)
      let ended := fun (t : State) => t.intake = { s.intake with latch := false } ∧
        t.events.dSet = (if s.intake.latch = true ∧ s.engine.play ≠ .stopped
          then latch DEvent.pos (.pauseChanged false) s.events.dSet else s.events.dSet) ∧
        t.events.counters = s.events.counters ∧
        (s.power.powered = true → s.power.resetLine = false → s.power.entry = none → t.busy = false)
      (s.power.mode = .unconfigured ∨ s.power.wake = none →
        ∃ t, exec .ringClearEnd s = .next t ∧ ended t ∧ t.events.sSet = s.events.sSet ∧
          t = { s with
            ring := { s.ring with clear := none }, intake := t.intake, events := t.events, now := now' }) ∧
      (∀ w, s.power.mode = .sleeping → s.power.wake = some w → s.session.state = .noDisc →
        ∃ t, exec .ringClearEnd s = .next t ∧ ended t ∧
          t.events.sSet = latch SEvent.pos (.woke w) s.events.sSet ∧
          t = { s with
            ring := { s.ring with clear := none }
            intake := t.intake
            power := { s.power with mode := .running, wake := none }
            session := if s.session.tray = some .closed
              then { s.session with state := .identifying, identify := some ⟨now', false⟩ } else s.session
            events := t.events, now := now' } ∧
          (s.power.powered = true → s.power.resetLine = false → t.rdyB = true)))

/-! ### Tray, wakes and timers -/

/-- TRAY_LINE_CHANGE (R133): the raw line takes the new level and the 20 ms start again; nothing else moves. That a change to
the level the line has is none is the model's choice (log 12).
TRAY_DEBOUNCED (R133, R169): the level held for 20 ms is the tray state; the timebase moves to the end of the 20 ms, or
stays when that is past (log 4).
In UNCONFIGURED nothing else happens. In RUNNING a tray that opens does all that DISC_RELEASE does and one that closes
all that DISC_LOADED does, but for the response: with NO_DISC a CLOSED tray starts an identification; in LEAVING,
also while an entry to HELD or SLEEPING waits for the fade (R166), an OPEN tray clears the pending load and a CLOSED
one sets it (R134, R135). The first state after a reset brings the load when it is CLOSED and nothing when it is OPEN.
In HELD or SLEEPING a change is a wake source, unless a wake has been latched; that the first state after a reset is
no change there, and so no wake, is the model's reading (log 29, DEDUCED). -/
def Obligations.TrayLineDebounces : Prop :=
  (∀ (level : Tray) (s : State),
     (level ≠ s.session.trayLine → exec (.trayLineChange level) s = .next { s with
       session := { s.session with trayLine := level, trayChange := s.now } }) ∧
     (level = s.session.trayLine → exec (.trayLineChange level) s = .next s)) ∧
  (∀ (s : State), s.power.powered = true → s.planner.scanDue = false → s.session.tray ≠ some s.session.trayLine →
     let now' := max s.now (s.session.trayChange + 20000)
     (s.power.mode = .unconfigured →
       exec .trayDebounced s = .next { s with
         session := { s.session with tray := some s.session.trayLine }, now := now' }) ∧
     (s.power.mode = .running → s.session.state = .noDisc → s.session.trayLine = .closed →
       exec .trayDebounced s = .next { s with
         session := { s.session with tray := some .closed, state := .identifying, identify := some ⟨now', false⟩ }
         now := now' }) ∧
     (s.power.mode = .held ∨ s.power.mode = .sleeping → s.session.tray ≠ none → s.power.wake = none →
       exec .trayDebounced s = .next { s with
         session := { s.session with tray := some s.session.trayLine }
         power := { s.power with wake := some .tray, wakeStart := now', selfRefresh := false, supply := true }
         now := now' }) ∧
     (s.power.mode = .held ∨ s.power.mode = .sleeping → s.session.tray = none ∨ s.power.wake ≠ none →
       exec .trayDebounced s = .next { s with
         session := { s.session with tray := some s.session.trayLine }, now := now' }) ∧
     (s.power.mode = .running → s.session.tray = none → s.session.trayLine = .opened →
       exec .trayDebounced s = .next { s with session := { s.session with tray := some .opened }, now := now' }) ∧
     (s.power.mode = .running → s.session.state = .leaving → s.session.tray ≠ none ∨ s.session.trayLine = .closed →
       exec .trayDebounced s = .next { s with
         session := { s.session with
           tray := some s.session.trayLine, pendingLoad := s.session.trayLine == .closed }
         now := now' }) ∧
     (s.Free → s.power.mode = .running → s.session.tray ≠ none ∨ s.session.trayLine = .closed →
       let seen := { s with session := { s.session with tray := some s.session.trayLine }, now := now' }
       let c := if s.session.trayLine = .opened then Instr.discRelease (goodFrame 0x0E [])
         else .discLoaded (goodFrame 0x0D [])
       ∃ u, exec c seen = .next u ∧ exec .trayDebounced s = .next { u with sPort := s.sPort }))

/-- WAKE_EDGE (R169): with the wake latch empty in HELD or SLEEPING the wake begins; a later source changes nothing, nor does
an edge in the other modes, which no rule gives an effect (log 9).
WAKE_DELAY_END (R170), the timebase at the end of the 3 ms or where it stood when that is past (log 4): from HELD the mode
becomes RUNNING with WOKE raised and the ring as it was; from SLEEPING a ring clear begins: the straps read, every slot
EMPTY, P kept, E = P, no owner, the figures that SLEEPING kept set to 0 (R19), and BUSY shown. That the clean values
and flaw runs are dropped at the start of this clear is the model's choice (log 42). -/
def Obligations.WakeBeginsAndEnds : Prop :=
  (∀ (s : State), s.power.powered = true →
     (s.power.mode = .held ∨ s.power.mode = .sleeping →
       (s.power.wake = none → exec .wakeEdge s = .next { s with
         power := { s.power with wake := some .wake, wakeStart := s.now, selfRefresh := false, supply := true } }) ∧
       (s.power.wake ≠ none → exec .wakeEdge s = .next s)) ∧
     (s.power.mode = .running ∨ s.power.mode = .unconfigured → exec .wakeEdge s = .next s)) ∧
  (∀ (msz : BitVec 2) (s : State) (w : WakeSource), s.power.wake = some w → s.ring.clear = none →
     s.session.state = .noDisc → s.planner.scanDue = false →
     let now' := max s.now (s.power.wakeStart + 3000)
     (s.power.mode = .held →
       ∃ t, exec (.wakeDelayEnd msz) s = .next t ∧
         t = { s with
           power := { s.power with mode := .running, wake := none }
           session := if s.session.tray = some .closed
             then { s.session with state := .identifying, identify := some ⟨now', false⟩ } else s.session
           events := t.events, now := now' } ∧
         t.events.sSet = latch SEvent.pos (.woke w) s.events.sSet ∧ t.events.dSet = s.events.dSet ∧
         t.events.counters = s.events.counters) ∧
     (s.power.mode = .sleeping →
       ∃ t, exec (.wakeDelayEnd msz) s = .next t ∧
         t = { s with
           ring := ⟨msz, [], s.ring.p, s.ring.p, none, some ⟨now'⟩, none⟩
           intake := { s.intake with run := none }
           engine := { s.engine with slotOpen := false }
           conceal := { s.conceal with left := ⟨0, none⟩, right := ⟨0, none⟩ }
           params := { s.params with
             startDepth := max 1 (min s.params.startDepth (t.ring.len / 2))
             releaseMargin := max 16 (min s.params.releaseMargin (t.ring.len / 2)) }
           now := now' } ∧
         t.ring.figures = ⟨0, 0, 0, 0⟩ ∧ t.busy = true))

/-- HOLD_FADE_WATCHDOG (R166): the fade of an entry ends at once. The resume entry of the disc is stored at rank 1 from the
position as it stands, the play gain is 0, the engine is HALTED, the session NO_DISC and the mode the entry's. SLEEPING
loses the slots and keeps the depth and the tallies as figures (R19). The 10 ms run from the later of the entry and the
last edge of SLF (log 26), and the timebase moves to their end or stays when that is past (log 4).
PLAY_STATE_CHANGED and SESSION_ENDED with the stored entry are raised, and SESSION_CHANGED (R143); no other event. -/
def Obligations.WatchdogEndsFade : Prop :=
  ∀ (s : State) (e : Entry) (d : Directory) (fp : BitVec 32), s.power.entry = some e →
    s.engine.play = .rampDown .leave → s.session.state = .leaving → s.session.directory = some d →
    s.session.fingerprint = some fp →
    ∃ t, exec .holdFadeWatchdog s = .next t ∧
      t.now = max s.now (max e.since s.power.lastSlf + 10000) ∧
      t.conceal = { s.conceal with gp := 0, gpTarget := 0 } ∧
      t.session.table.head? = some ⟨fp, d.starts.length, d.t, s.ring.p, s.engine.f,
        if s.engine.intent = .play then .playing else .paused,
        if s.rates.state = .limited then some s.rates.requested else none⟩ ∧
      t.session.state = .noDisc ∧ t.session.pendingLoad = false ∧ t.session.directory = some d ∧
      t.session.fingerprint = some fp ∧
      t.engine.play = .halted ∧ t.engine.f = s.engine.f ∧ t.engine.slotOpen = s.engine.slotOpen ∧
      t.engine.intent = s.engine.intent ∧ t.engine.program = s.engine.program ∧
      t.power = { s.power with
        mode := e.target.mode, entry := none, wake := none
        selfRefresh := e.target == .held || s.power.selfRefresh
        supply := e.target != .sleeping && s.power.supply } ∧
      t.ring = (if e.target = .held then s.ring else { s.ring with slots := [], asleep := some s.ring.figures }) ∧
      t.ring.figures = s.ring.figures ∧ t.planner.tagCounter = 0 ∧
      t.events.sSet = endedTold fp s.ring.p s.engine.f s.engine.intent s.events.sSet ∧
      t.events.dSet = latch DEvent.pos .sessionChanged s.events.dSet ∧ t.events.counters = s.events.counters ∧
      t.rates = s.rates ∧ t.line = s.line ∧ t.intake = s.intake ∧ t.params = s.params ∧
      t.sPort = s.sPort ∧ t.dPort = s.dPort

/-- FILL_STALLED (R102): raised with the play state, P, E and depth, and the stalled flag set; not again while the flag
is set.
IDENTIFY_TIMER_EXPIRY (R136): 10 s after its start NO_DIRECTORY is raised and the state stays IDENTIFYING; once for each
start.
ATTENTION_PULSE_END (R160): 2 µs after it began the pulse ends, on its own port alone.
In all three the timebase moves to the due moment, or stays when that is past (log 4).
An event raised (R159, R160): it is latched; a masked one leaves the line; an unmasked one asserts a LEVEL line, and in
PULSE mode starts a pulse at that moment when its flag was clear, while a repeat starts none. A LEVEL line is asserted
exactly while an unmasked event is latched. The lines are looked at on a powered part with RESET released. -/
def Obligations.TimersFireOnce : Prop :=
  (∀ (s : State) (k : StallTimer), s.engine.stall = some k →
     (k.stalled = false →
       ∃ t, exec .fillStalled s = .next t ∧
         t = { s with
           engine := { s.engine with stall := some { k with stalled := true } }
           events := t.events, now := max s.now (k.since + 1000 * k.timeout) } ∧
         t.events.sSet =
           latch SEvent.pos (.fillStalled s.engine.play s.ring.p s.ring.e s.ring.depth) s.events.sSet ∧
         t.events.dSet = s.events.dSet ∧ t.events.counters = s.events.counters) ∧
     (k.stalled = true → exec .fillStalled s = .next s)) ∧
  (∀ (s : State) (k : IdentifyTimer), s.session.identify = some k →
     (k.expired = false →
       ∃ t, exec .identifyTimerExpiry s = .next t ∧
         t = { s with
           session := { s.session with identify := some { k with expired := true } }
           events := t.events, now := max s.now (k.since + 10000000) } ∧
         t.events.sSet = latch SEvent.pos .noDirectory s.events.sSet ∧ t.events.dSet = s.events.dSet ∧
         t.events.counters = s.events.counters) ∧
     (k.expired = true → exec .identifyTimerExpiry s = .next s)) ∧
  (∀ (s : State) (since : Nat),
     (s.events.sPulse = some since → exec (.attentionPulseEnd .s) s = .next { s with
       events := { s.events with sPulse := none }, now := max s.now (since + 2) }) ∧
     (s.events.dPulse = some since → exec (.attentionPulseEnd .d) s = .next { s with
       events := { s.events with dPulse := none }, now := max s.now (since + 2) })) ∧
  (∀ (s : State), s.power.powered = true → s.power.resetLine = false →
     (∀ e : SEvent,
       let t := raiseS e s
       let repeats := ∃ x ∈ s.events.sSet, x.ev.pos = e.pos
       t = { s with events := t.events } ∧ t.events.sSet = latch SEvent.pos e s.events.sSet ∧
       t.events.dSet = s.events.dSet ∧ t.events.dPulse = s.events.dPulse ∧ t.events.counters = s.events.counters ∧
       (∃ n, ⟨e, n⟩ ∈ t.events.sSet) ∧
       (s.params.sMask.getLsbD e.pos = true ∨ s.params.sMode = .level ∨ repeats →
         t.events.sPulse = s.events.sPulse) ∧
       (s.params.sMask.getLsbD e.pos = false → s.params.sMode = .pulse → ¬ repeats →
         t.events.sPulse = some s.now ∧ t.attention .s = true) ∧
       (s.params.sMask.getLsbD e.pos = false → s.params.sMode = .level → t.attention .s = true)) ∧
     (∀ e : DEvent,
       let t := raiseD e s
       let repeats := ∃ x ∈ s.events.dSet, x.ev.pos = e.pos
       t = { s with events := t.events } ∧ t.events.dSet = latch DEvent.pos e s.events.dSet ∧
       t.events.sSet = s.events.sSet ∧ t.events.sPulse = s.events.sPulse ∧ t.events.counters = s.events.counters ∧
       (∃ n, ⟨e, n⟩ ∈ t.events.dSet) ∧
       (s.params.dMask.getLsbD e.pos = true ∨ s.params.dMode = .level ∨ repeats →
         t.events.dPulse = s.events.dPulse) ∧
       (s.params.dMask.getLsbD e.pos = false → s.params.dMode = .pulse → ¬ repeats →
         t.events.dPulse = some s.now ∧ t.attention .d = true) ∧
       (s.params.dMask.getLsbD e.pos = false → s.params.dMode = .level → t.attention .d = true)) ∧
     (s.params.sMode = .level →
       (s.attention .s = true ↔ ∃ x ∈ s.events.sSet, s.params.sMask.getLsbD x.ev.pos = false)) ∧
     (s.params.dMode = .level →
       (s.attention .d = true ↔ ∃ x ∈ s.events.dSet, s.params.dMask.getLsbD x.ev.pos = false)) ∧
     (s.params.sMode = .pulse → (s.attention .s = true ↔ s.events.sPulse ≠ none)) ∧
     (s.params.dMode = .pulse → (s.attention .d = true ↔ s.events.dPulse ≠ none)))

/-! ### Transactions and the judgement of a frame -/

/-- How every port command is judged (R149), on a powered part with RESET released outside HELD and SLEEPING: N above 32 or
bytes that do not sum to 0 are BAD_FRAME; then BUSY; then an N or a parameter that does not fit is BAD_FRAME; then
UNCONFIGURED is NOT_STARTED. Each such answer is all that the frame does. Bytes behind the check byte are ignored (R148):
the command does all the same, in whatever state, and only the record of what was sent is longer (0x00 beside them is the
model's choice, log 37). -/
def Obligations.EveryPortCommandIsJudged : Prop :=
  ∀ (i : Instr) (c : PortCommand) (s : State), portCommand i = some c → s.power.powered = true →
    let told := fun code =>
      (.next (setPort c.port (answer s c.port c.clocked code [0]) s) : Host.Outcome State Fault Refusal)
    (s.power.resetLine = false → (s.power.mode = .unconfigured ∨ s.power.mode = .running) →
      (32 < c.n ∨ byteSum c.bytes ≠ 0 → exec i s = told .badFrame) ∧
      (c.n ≤ 32 → byteSum c.bytes = 0 →
        (s.busy = true → exec i s = told .busy) ∧
        (s.busy = false → c.fits = false → exec i s = told .badFrame) ∧
        (s.busy = false → c.fits = true → s.power.mode = .unconfigured → c.early = false →
          exec i s = told .notStarted))) ∧
    (∀ (i' : Instr) (behind : List Byte), portCommand i' = some { c with fr := { c.fr with behind := behind } } →
      (∀ msz fr, i = .softReset msz fr → ∃ frame, i' = .softReset msz { fr with frame := frame }) →
      ∃ t, exec i s = .next t ∧ exec i' s = .next (setPort c.port
        { t.port c.port with
          sent := s.statusByte c.port :: List.replicate (c.n + behind.length + 2) 0 } t))

/-- POLL (R150): a waiting response follows the status byte: its code, its length, its data and a check byte that brings the
sum to 0; it is consumed with that byte. A poll cut shorter leaves it waiting; with none waiting 0x00 follows. ERROR
stays as it is. The 0x00 sent when a poll is clocked past the check byte is the model's choice (log 35). -/
def Obligations.PollSendsResponse : Prop :=
  ∀ (port : Port) (clocked : Nat) (s : State), s.power.powered = true → s.power.resetLine = false →
    s.power.mode.isLow = false → 1 ≤ clocked →
    (∀ r, (s.port port).response = some r →
      ∃ check : Byte,
        let bytes := s.statusByte port :: byteOf r.code.code :: byteOf r.data.length :: (r.data ++ [check])
        byteSum bytes = 0 ∧
        (r.data.length + 4 ≤ clocked → exec (.poll port clocked) s = .next (setPort port
          { s.port port with
            response := none, sent := bytes ++ List.replicate (clocked - (r.data.length + 4)) 0 } s)) ∧
        (clocked < r.data.length + 4 → exec (.poll port clocked) s = .next (setPort port
          { s.port port with sent := bytes.take clocked } s))) ∧
    ((s.port port).response = none → exec (.poll port clocked) s = .next (setPort port
      { s.port port with sent := s.statusByte port :: List.replicate (clocked - 1) 0 } s))

/-- TRANSACTION_CUT_SHORT (R148): the frame is answered BAD_FRAME, BUSY or not, and reaches no block.
UNKNOWN_COMMAND (R149): a good frame on a port that is not BUSY is answered UNKNOWN_COMMAND; a bad one BAD_FRAME, and
before that step BUSY comes first. The row is taken at its word that the code is unknown, whatever the code (log 27).
The record of what is sent beside bytes behind the check byte is the model's (log 37). -/
def Obligations.SpoiltFramesAnswered : Prop :=
  (∀ (port : Port) (bytes : List Byte) (s : State), s.power.powered = true → s.power.resetLine = false →
     s.power.mode.isLow = false →
     exec (.transactionCutShort port bytes) s = .next (setPort port
       ⟨some ⟨.badFrame, [0]⟩, true, s.statusByte port :: List.replicate (bytes.length - 1) 0⟩ s)) ∧
  (∀ (port : Port) (code : Byte) (fr : Frame) (s : State), s.power.powered = true → s.power.resetLine = false →
     s.power.mode.isLow = false →
     let n := fr.params.length
     let bytes := code :: byteOf n :: (fr.params ++ [fr.check])
     let told := fun c => (.next (setPort port (answer s port (n + fr.behind.length) c [0]) s) : Host.Outcome State Fault Refusal)
     (32 < n ∨ byteSum bytes ≠ 0 → exec (.unknownCommand port code fr) s = told .badFrame) ∧
     (n ≤ 32 → byteSum bytes = 0 →
       (s.busy = true → exec (.unknownCommand port code fr) s = told .busy) ∧
       (s.busy = false → exec (.unknownCommand port code fr) s = told .unknownCommand)))

/-- LOW_POWER_TRANSACTION (R168, R169): the status byte and 0x00 after it, no response and no ERROR; on the S-port the wake
begins when the wake latch is empty, the DRAM leaving self-refresh and its supply coming on (R170).
In HELD and SLEEPING (R168, R169) no port command is judged: the status byte and 0x00 after it are sent, and on the
S-port the selection is a wake source, taken when the wake latch is empty. While RESET is held the status byte is sent
(R18) and nothing else happens. That the D-port sends 0x00 behind its status byte in these modes is the model's choice
(log 36). -/
def Obligations.LowPowerTransactions : Prop :=
  (∀ (port : Port) (clocked : Nat) (s : State), s.power.powered = true → s.power.resetLine = false →
     (s.power.mode = .held ∨ s.power.mode = .sleeping) →
     let after := setPort port { s.port port with sent := s.statusByte port :: List.replicate (clocked - 1) 0 } s
     (port = .d ∨ s.power.wake ≠ none → exec (.lowPowerTransaction port clocked) s = .next after) ∧
     (port = .s → s.power.wake = none → exec (.lowPowerTransaction port clocked) s = .next { after with
       power := { s.power with wake := some .sPort, wakeStart := s.now, selfRefresh := false, supply := true } })) ∧
  (∀ (i : Instr) (c : PortCommand) (s : State), portCommand i = some c → s.power.powered = true →
     let sent := s.statusByte c.port :: List.replicate (c.clocked + 2) 0
     let after := setPort c.port { s.port c.port with sent := sent } s
     (s.power.resetLine = true → exec i s = .next after) ∧
     (s.power.resetLine = false → (s.power.mode = .held ∨ s.power.mode = .sleeping) →
       (c.port = .d ∨ s.power.wake ≠ none → exec i s = .next after) ∧
       (c.port = .s → s.power.wake = none → exec i s = .next { after with
         power := { s.power with wake := some .sPort, wakeStart := s.now, selfRefresh := false, supply := true } })))

/-! ### Configuration and reports -/

/-- CONFIGURE (R154): up to 8 pairs with known ids are stored in frame order, each value in its range; the response gives
their number, with CLAMPED exactly when some value did not fit. An unknown id leaves everything as it was. The lines, the
session, the device mode, the L in force and the D-port are no configuration and stay.
A frame of one pair, and what the new value does at once: a start depth in PRIMING (R103), a hole wait in STARVED (R101),
the alert threshold (R163), masks and attention modes (R160), the fill latch under a new margin (R36), the repair
threshold (R74), the retry limit and the downgrade limit (R75), the upgrade interval (R87), the ceiling (R83). The
other parameters do nothing at once.
Choices of the model: which of several entries withdrawn or given up at once stays in its record (log 40); that an
entry with no bad slot left, given up under a lower retry limit, raises no SLOT_ABANDONED, so that the record keeps the
highest entry that had one (log 34, DESIGN CHOICE: R69 and R75 do not say what it would carry); that a repair
threshold of the value in force is judged too (log 41); that ids 12, 13 and 14 act on rates kept outside PRESENT too
(log 45). ORDER_AVAILABLE tells of work that comes to wait (R62, log 15).
PRIMING at P = T is left out of ids 1 and 10 alone: there PRIMING has ended at once, with the end of the disc (R103). -/
def Obligations.ConfigureStoresPairs : Prop :=
  (∀ (pairs : List (BitVec 8 × BitVec 24)) (s : State), s.Free →
    (s.power.mode = .unconfigured ∨ s.power.mode = .running) → pairs.length ≤ 8 →
    let bytes := pairs.flatMap fun x => x.1 :: le24 x.2.toNat
    let values := pairs.map fun x => (x.1.toNat, x.2.toNat)
    ((∀ x ∈ values, 1 ≤ x.1 ∧ x.1 ≤ 23) →
      ∃ t, exec (.configure (goodFrame 0x02 bytes)) s = .next t ∧
        t.params = values.foldl (storeParam s.ring.len) s.params ∧
        t.sPort = answer s .s bytes.length .ok
          [if values.all (paramFits s.ring.len) then 0 else 1, byteOf pairs.length] ∧
        t.session = s.session ∧ t.power = s.power ∧ t.line = s.line ∧ t.dPort = s.dPort ∧ t.now = s.now ∧
        t.ring.straps = s.ring.straps) ∧
    ((∃ x ∈ values, x.1 = 0 ∨ 23 < x.1) →
      exec (.configure (goodFrame 0x02 bytes)) s = .next { s with
        sPort := answer s .s bytes.length .unknownCommand [0] })) ∧
  (∀ (id : BitVec 8) (value : BitVec 24) (s : State), s.Free →
    (s.power.mode = .unconfigured ∨ s.power.mode = .running) → s.planner.scanDue = false → s.planner.Law →
    let beforeT := s.engine.play = .priming → s.ring.p ≠ s.t
    let pair := (id.toNat, value.toNat)
    let c := Instr.configure (goodFrame 0x02 (id :: le24 value.toNat))
    let reply := answer s .s 4 .ok [if paramFits s.ring.len pair then 0 else 1, 1]
    let new := { s with params := storeParam s.ring.len s.params pair }
    let only := fun (t : State) => t = { new with
      engine := t.engine, conceal := t.conceal, planner := { s.planner with queue := t.planner.queue }
      events := t.events, sPort := reply }
    (pair.1 ∈ [2, 3, 4, 5, 8, 9, 11, 16, 18, 19] → exec c s = .next { new with sPort := reply }) ∧
    (pair.1 = 1 → beforeT → ∃ t, exec c s = .next t ∧ only t ∧ Reacts s.engine new t ∧
      (let judge := fun (o : Order) => if playBegins new t then o.behind (s.ring.p + 1) else some o;
        t.planner.queue = requeued s t judge false ∧ WorkTold (s.planner.queue.filterMap judge) s t) ∧
      t.events.counters = s.events.counters) ∧
    (pair.1 = 6 → ∃ u, exec .holeWaitExpiry new = .next u ∧ exec c s = .next { u with sPort := reply }) ∧
    (pair.1 = 7 → ∃ t, exec c s = .next t ∧ only t ∧ t.engine = s.engine ∧ t.conceal = s.conceal ∧
      (let judge := fun (o : Order) => if o.issue = none then o.leftBad new else some o;
        t.planner.queue = requeued s t judge true ∧ WorkTold (s.planner.queue.filterMap judge) s t) ∧
      (∀ o ∈ s.planner.queue, o.issue = none → o.leftBad new = none →
        (∀ x ∈ s.planner.queue, x.issue = none → x.leftBad new = none → x.first ≤ o.first) →
        ∃ n, ⟨DEvent.orderWithdrawn 0 o.first, n⟩ ∈ t.events.dSet) ∧
      t.events.counters = s.events.counters ∧ t.events.sSet = s.events.sSet) ∧
    (pair.1 = 10 →
      (s.params.retryLimit ≤ new.params.retryLimit → exec c s = .next { new with sPort := reply }) ∧
      (new.params.retryLimit < s.params.retryLimit → s.ring.Law → s.RegionLaw → beforeT →
        let gone := fun (o : Order) => o.issue.isNone && decide (new.params.retryLimit ≤ o.attempts)
        let bad := fun (o : Order) => (List.range' o.first o.count).filter s.badAt
        ∃ t, exec c s = .next t ∧
          t = { new with
            ring := { s.ring with slots := t.ring.slots }
            engine := t.engine, conceal := t.conceal, planner := { s.planner with queue := t.planner.queue }
            events := t.events, sPort := reply } ∧
          (∀ a, s.ring.p ≤ a → a < s.ring.p + s.ring.len →
            t.slot a = if s.badAt a = true ∧ ∃ o ∈ s.planner.queue, gone o = true ∧ o.first ≤ a ∧ a < o.first + o.count
              then match s.slot a with
                | .missing tag => .void tag
                | .flawed tag map words source _ => .flawed tag map words source true
                | v => v
              else s.slot a) ∧
          (let judge := fun (o : Order) => (if gone o then none
              else some { o with
                attempts := if o.issue = none then o.attempts else min o.attempts new.params.retryLimit }).bind
              fun o => if playBegins new t then o.behind (s.ring.p + 1) else some o;
            t.planner.queue = requeued s t judge false ∧ WorkTold (s.planner.queue.filterMap judge) s t) ∧
          (∀ o ∈ s.planner.queue, gone o = true → ∀ lo rest, bad o = lo :: rest →
            (∀ x ∈ s.planner.queue, gone x = true → bad x ≠ [] → x.first ≤ o.first) →
            ∃ n, ⟨SEvent.slotAbandoned lo (rest.getLastD lo), n⟩ ∈ t.events.sSet) ∧
          (Counted s t fun x =>
            if x = .slotsAbandoned then ((s.planner.queue.filter gone).flatMap bad).length else 0) ∧
          Reacts s.engine new t)) ∧
    (pair.1 = 12 → ∃ u, exec .stepDown new = .next u ∧ exec c s = .next { u with sPort := reply }) ∧
    (pair.1 = 13 → ∃ u, exec .stepUp new = .next u ∧ exec c s = .next { u with sPort := reply }) ∧
    (pair.1 = 14 →
      (s.rates.held = none → exec c s = .next { new with sPort := reply }) ∧
      (∀ x, s.rates.held = some x →
        ∃ t agreed, exec c s = .next t ∧
          agreed ∈ x.offer.ladder ∧ agreed.code ≤ max 1 (min value.toNat 4) ∧
          (∀ y ∈ x.offer.ladder, y.code ≤ max 1 (min value.toNat 4) → y.code ≤ agreed.code) ∧
          let requested := if agreed.code < x.requested.code then agreed else x.requested
          let state := if requested = agreed then RateState.agreed else RateState.limited
          let changed := agreed ≠ x.agreed ∨ requested ≠ x.requested
          t = { new with
            rates := ⟨some ⟨x.offer, agreed, requested⟩,
              if x.requested ≠ x.agreed ∧ requested ≠ agreed then s.rates.progress else 0, s.rates.cap⟩
            events := t.events, sPort := reply } ∧
          t.events.counters = s.events.counters ∧
          t.events.sSet = (if changed then latch SEvent.pos (.rateChanged agreed requested state .ceiling) s.events.sSet
            else s.events.sSet) ∧
          t.events.dSet = (if changed then latch DEvent.pos (.rateChanged agreed requested state .ceiling) s.events.dSet
            else s.events.dSet))) ∧
    (pair.1 = 15 →
      let cleared := s.intake.latch = true ∧ s.ring.e - s.ring.p ≤ s.ring.len - new.params.releaseMargin
      ∃ t, exec c s = .next t ∧
        t = { new with
          intake := { s.intake with latch := if cleared then false else s.intake.latch }
          events := t.events, sPort := reply } ∧
        t.events.sSet = s.events.sSet ∧ t.events.counters = s.events.counters ∧
        t.events.dSet = if cleared ∧ s.engine.play ≠ .stopped
          then latch DEvent.pos (.pauseChanged false) s.events.dSet else s.events.dSet) ∧
    (pair.1 = 17 →
      let alerts := fun (x : Counter) => !x.alerted && decide (new.params.alertThreshold ≤ x.value)
      let counters := s.events.counters.map fun x => ⟨x.value, x.alerted || alerts x⟩
      ∃ t, exec c s = .next t ∧ t = { new with events := t.events, sPort := reply } ∧
        t.events.counters = counters ∧ t.events.dSet = s.events.dSet ∧
        t.events.sSet = if s.events.counters.toList.any alerts
          then latch SEvent.pos (.counterAlert (counters.toList.map Counter.alerted)) s.events.sSet
          else s.events.sSet) ∧
    (pair.1 = 20 → exec c s = .next { new with
      events := { s.events with
        sPulse := if s.params.sMode = .pulse ∧ ∃ x ∈ s.events.sSet,
            s.params.sMask.getLsbD x.ev.pos = true ∧ new.params.sMask.getLsbD x.ev.pos = false
          then some s.now else s.events.sPulse }
      sPort := reply }) ∧
    (pair.1 = 21 → exec c s = .next { new with
      events := { s.events with
        dPulse := if s.params.dMode = .pulse ∧ ∃ x ∈ s.events.dSet,
            s.params.dMask.getLsbD x.ev.pos = true ∧ new.params.dMask.getLsbD x.ev.pos = false
          then some s.now else s.events.dPulse }
      sPort := reply }) ∧
    (pair.1 = 22 → exec c s = .next { new with
      events := { s.events with sPulse := if new.params.sMode = s.params.sMode then s.events.sPulse else none }
      sPort := reply }) ∧
    (pair.1 = 23 → exec c s = .next { new with
      events := { s.events with dPulse := if new.params.dMode = s.params.dMode then s.events.dPulse else none }
      sPort := reply }))

/-- QUERY_STATUS (R156), byte for byte by R158's table, in UNCONFIGURED and RUNNING; nothing else changes. -/
def Obligations.QueryStatusReports : Prop :=
  ∀ (s : State), s.Free → (s.power.mode = .unconfigured ∨ s.power.mode = .running) →
    exec (.queryStatus (goodFrame 0x04 [])) s = .next { s with
      sPort := answer s .s 0 .ok
        ([0, byteOf s.power.mode.code, byteOf s.ring.straps.toNat, byteOf s.session.state.code,
          byteOf s.engine.play.code, byteOf s.engine.play.destCode, byteOf s.engine.intent.code] ++
        le16 s.ring.depth ++ le16 (s.ring.e - s.ring.p) ++
        le16 (s.ring.tally Slot.isMissing) ++ le16 (s.ring.tally Slot.isFlawed) ++ le16 (s.ring.tally Slot.isVoid) ++
        [byteOf s.planner.queue.length, byteOf s.rates.agreed.code, byteOf s.rates.requested.code,
          byteOf s.rates.state.code, if s.intake.latch = true ∨ s.engine.play = .stopped then 1 else 0]) }

/-- QUERY_PLAN (R157), byte for byte by R158's table; nothing else changes. -/
def Obligations.QueryPlanReports : Prop :=
  ∀ (s : State), s.Ready →
    exec (.queryPlan (goodFrame 0x26 [])) s = .next { s with
      dPort := answer s .d 0 .ok
        (([0] : List Byte) ++ le24 s.ring.p ++ le24 s.ring.e ++
        [if s.intake.latch = true ∨ s.engine.play = .stopped then 1 else 0, byteOf s.rates.requested.code,
          byteOf s.planner.queue.length,
          byteOf (((s.planner.queue.findSome? Order.issue).map Issue.tag).getD 0)]) }

/-- QUERY_POSITION (R113), byte for byte by R158's table; nothing else changes. -/
def Obligations.QueryPositionReports : Prop :=
  ∀ (s : State), s.Ready →
    exec (.queryPosition (goodFrame 0x07 [])) s = .next { s with
      sPort := answer s .s 0 .ok
        (([0] : List Byte) ++ le24 s.ring.p ++ le16 s.engine.f ++ [byteOf s.engine.program] ++
        le24 (match s.session.directory with
          | none => s.ring.p
          | some d => if s.engine.program = 0 then s.ring.p else s.ring.p - d.starts.getD (s.engine.program - 1) 0) ++
        [byteOf s.engine.play.code, byteOf s.engine.play.destCode, byteOf s.engine.intent.code] ++
        le16 s.ring.depth) }

/-- READ_EVENTS on the D-port (R161): whatever is latched, the response carries the bitmap and every record in ascending
position, and the whole set is cleared. -/
def Obligations.ReadEventsClearsDriveSet : Prop :=
  ∀ (s : State), s.Ready → s.events.Law →
    ∃ bitmap : List Byte, bitmap.length = 3 ∧
      (∀ i, i < 24 → (bitmap.getD (i / 8) 0).getLsbD (i % 8) = s.events.dSet.any fun x => x.ev.pos == i) ∧
      exec (.readEvents .d (goodFrame 0x05 [])) s = .next { s with
        events := { s.events with dSet := [] }
        dPort := answer s .d 0 .ok (0 :: (bitmap ++ s.events.dSet.flatMap fun x =>
          byteOf x.ev.pos :: byteOf x.count :: x.ev.data)) }

/-- READ_EVENTS on the S-port (R161): the bitmap shows every latched event; the records carried are the lowest ones, as many
as fit whole in 60 bytes, and they alone are cleared. That the first record which does not fit ends the carrying, with
none behind it carried in its place, is how the model reads 'in ascending position' (log 14, DEDUCED). -/
def Obligations.ReadEventsCarriesWhatFits : Prop :=
  ∀ (s : State), s.Free → (s.power.mode = .unconfigured ∨ s.power.mode = .running) →
    ∃ (bitmap : List Byte) (carried left : List (Latched SEvent)), bitmap.length = 3 ∧
      (∀ i, i < 24 → (bitmap.getD (i / 8) 0).getLsbD (i % 8) = s.events.sSet.any fun x => x.ev.pos == i) ∧
      s.events.sSet = carried ++ left ∧
      ((carried.flatMap fun x => byteOf x.ev.pos :: byteOf x.count :: x.ev.data).length ≤ 60) ∧
      (∀ x rest, left = x :: rest →
        60 < ((carried ++ [x]).flatMap fun x => byteOf x.ev.pos :: byteOf x.count :: x.ev.data).length) ∧
      exec (.readEvents .s (goodFrame 0x05 [])) s = .next { s with
        events := { s.events with sSet := left }
        sPort := answer s .s 0 .ok (0 :: (bitmap ++ carried.flatMap fun x =>
          byteOf x.ev.pos :: byteOf x.count :: x.ev.data)) }

/-- READ_COUNTERS (R164): the fifteen counters, three bytes each, and the alerted flags, index i at bit i − 1; option 1
clears them after the read; the event sets stay. Any other option is BAD_FRAME. -/
def Obligations.ReadCountersReports : Prop :=
  ∀ (option : Byte) (s : State), s.Ready →
    (option ≠ 0 → option ≠ 1 →
      exec (.readCounters (goodFrame 0x06 [option])) s = .next { s with sPort := answer s .s 1 .badFrame [0] }) ∧
    ((option = 0 ∨ option = 1) → ∃ a b : Byte,
      (∀ i, i < 15 → (if i < 8 then a.getLsbD i else b.getLsbD (i - 8)) =
        (s.events.counters.toList.getD i ⟨0, false⟩).alerted) ∧ b.getLsbD 7 = false ∧
      exec (.readCounters (goodFrame 0x06 [option])) s = .next { s with
        events := { s.events with counters := if option = 1 then Vector.replicate 15 ⟨0, false⟩ else s.events.counters }
        sPort := answer s .s 1 .ok
          (0 :: ((s.events.counters.toList.flatMap fun c => le24 c.value) ++ [a, b])) })

/-! ### Play commands -/

/-- PAUSE (R107) by the play state, with the session PRESENT. -/
def Obligations.PauseByPlayState : Prop :=
  ∀ (s : State), s.InPlay → s.planner.scanDue = false →
    (s.engine.play = .playing →
      ∃ t, exec (.pause (goodFrame 0x0A [])) s = .next t ∧
        t = { s with
          engine := { s.engine with play := .rampDown .paused, intent := .pause }
          conceal := { s.conceal with
            gpTarget := 0
            gpStep := if s.conceal.gpTarget ≠ 0 ∧ s.conceal.gp = s.conceal.gpTarget
              then (4096 + s.params.rp - 1) / s.params.rp else s.conceal.gpStep }
          events := t.events, sPort := answer s .s 0 .ok [0] } ∧
        t.events.sSet = latch SEvent.pos (.playStateChanged (.rampDown .paused) .pause) s.events.sSet ∧
        t.events.dSet = s.events.dSet ∧ t.events.counters = s.events.counters) ∧
    (s.engine.play = .priming ∨ s.engine.play = .starved →
      ∃ t, exec (.pause (goodFrame 0x0A [])) s = .next t ∧
        t = { s with
          engine := { s.engine with
            play := .paused, intent := .pause, holeWait := 0, stall := none, anticipate := false }
          conceal := { s.conceal with gp := 0, gpTarget := 0 }
          events := t.events, sPort := answer s .s 0 .ok [0] } ∧
        t.events.sSet = latch SEvent.pos (.playStateChanged .paused .pause) s.events.sSet ∧
        t.events.dSet = s.events.dSet ∧ t.events.counters = s.events.counters) ∧
    (s.engine.play = .paused ∨ s.engine.play = .rampDown .paused →
      exec (.pause (goodFrame 0x0A [])) s = .next { s with
        engine := { s.engine with intent := .pause }, sPort := answer s .s 0 .ok [0] }) ∧
    (s.engine.play = .rampDown .stopped ∨ s.engine.play = .stopped →
      exec (.pause (goodFrame 0x0A [])) s = .next { s with sPort := answer s .s 0 .wrongState [0] })

/-- RESUME (R108): from PAUSED at a playable slot P play goes on, the slot opening and the orders that cover P trimmed
to begin behind it, one left empty withdrawn (R92, R73); with no playable slot P it is STARVED at full play gain
(R99), and with a hole wait of 0 at a MISSING slot P the hole is given up at once and play goes on through it
(R101); at P = T the disc ends (R95), the queue emptied with ORDER_WITHDRAWN of an ISSUED entry (R76) and the
program number computed by the flush (R96); a pause
ramp turns round at the step it has; any other state is WRONG_STATE. Which of several entries withdrawn at once
stays in the record of ORDER_WITHDRAWN is log 40's choice; ORDER_AVAILABLE tells of work that comes to wait (R62,
log 15). -/
def Obligations.ResumeByPlayState : Prop :=
  ∀ (s : State), s.InPlay → s.planner.scanDue = false → s.planner.Law →
    let others := fun (t : State) => t.intake = s.intake ∧ t.rates = s.rates ∧ t.session = s.session ∧
      t.power = s.power ∧ t.params = s.params ∧ t.line = s.line ∧ t.dPort = s.dPort ∧ t.now = s.now ∧
      t.sPort = answer s .s 0 .ok [0]
    (s.engine.play = .paused → s.ring.p ≠ s.t → (s.slot s.ring.p).playable = true →
      ∃ t, exec (.resume (goodFrame 0x0B [])) s = .next t ∧ others t ∧
        t.engine = { opened s.engine with intent := .play } ∧
        t.conceal = { s.conceal with
          gpTarget := 4096
          gpStep := if s.conceal.gpTarget ≠ 4096 ∧ s.conceal.gp = s.conceal.gpTarget
            then stepOf s.params.rp else s.conceal.gpStep } ∧
        (∃ n, ⟨SEvent.playStateChanged .playing .play, n⟩ ∈ t.events.sSet) ∧ t.events.counters = s.events.counters ∧
        t.ring = s.ring ∧ Trims s.ring.p true s t) ∧
    (s.engine.play = .paused → s.ring.p ≠ s.t → (s.slot s.ring.p).playable = false →
      (0 < s.holeWaitLimit ∨ (s.slot s.ring.p).isMissing = false) →
      ∃ t, exec (.resume (goodFrame 0x0B [])) s = .next t ∧ others t ∧
        t.engine.play = .starved ∧ t.engine.intent = .play ∧ t.engine.slotOpen = s.engine.slotOpen ∧
        t.engine.f = s.engine.f ∧ t.engine.holeWait = 0 ∧
        (∃ k, t.engine.stall = some k ∧ k.since = s.now ∧ k.timeout = s.params.fillStallTimeout) ∧
        t.conceal = { s.conceal with gp := 4096, gpTarget := 4096 } ∧
        (Counted s t fun c => if c = .starveEpisodes then 1 else 0) ∧
        (∃ n, ⟨SEvent.starved s.ring.p, n⟩ ∈ t.events.sSet) ∧
        t.ring = s.ring ∧ t.planner = s.planner) ∧
    (s.engine.play = .paused → s.ring.p ≠ s.t → (s.slot s.ring.p).isMissing = true → s.holeWaitLimit = 0 →
      s.ring.Law →
      ∃ t, exec (.resume (goodFrame 0x0B [])) s = .next t ∧ others t ∧
        t.slot s.ring.p = .void s.ring.p ∧
        (∀ a, s.ring.p < a → a < s.ring.p + s.ring.len → t.slot a = s.slot a) ∧
        t.ring = { s.ring with slots := t.ring.slots } ∧
        t.engine.play = .playing ∧ t.engine.slotOpen = true ∧ t.engine.intent = .play ∧ t.engine.f = s.engine.f ∧
        t.engine.holeWait = 0 ∧ t.engine.stall = none ∧
        t.conceal = gainsFromStarved s.params false { s.conceal with gp := 4096, gpTarget := 4096 } ∧
        (Counted s t fun c => if c = .starveEpisodes ∨ c = .slotsAbandoned then 1 else 0) ∧
        (∃ n, ⟨SEvent.starved s.ring.p, n⟩ ∈ t.events.sSet) ∧
        (∃ n, ⟨SEvent.slotAbandoned s.ring.p s.ring.p, n⟩ ∈ t.events.sSet) ∧ Trims s.ring.p true s t) ∧
    (s.engine.play = .paused → s.ring.p = s.t →
      ∃ t, exec (.resume (goodFrame 0x0B [])) s = .next t ∧
        t.engine.play = .stopped ∧ t.engine.intent = .stop ∧ t.engine.f = 0 ∧ t.engine.slotOpen = false ∧
        t.ring = { s.ring with slots := [], e := s.ring.p, owner := s.session.fingerprint } ∧
        t.planner.queue = [] ∧
        t.events.dSet = pauseTold s.pauseFlag true (emptiedTold s.planner.queue s.events.dSet) ∧
        (∃ n, ⟨SEvent.playStateChanged .stopped .stop, n⟩ ∈ t.events.sSet) ∧
        (∃ n, ⟨SEvent.endOfDisc s.t, n⟩ ∈ t.events.sSet) ∧ ProgramTold s t ∧
        t.session = s.session ∧ t.rates = s.rates ∧ t.power = s.power ∧ t.params = s.params ∧ t.dPort = s.dPort ∧ t.sPort = answer s .s 0 .ok [0]) ∧
    (s.engine.play = .rampDown .paused →
      ∃ t, exec (.resume (goodFrame 0x0B [])) s = .next t ∧
        t = { s with
          engine := { s.engine with play := .playing, intent := .play }
          conceal := { s.conceal with
            gpTarget := 4096
            gpStep := if s.conceal.gpTarget ≠ 4096 ∧ s.conceal.gp = s.conceal.gpTarget
              then (4096 + s.params.rp - 1) / s.params.rp else s.conceal.gpStep }
          events := t.events, sPort := answer s .s 0 .ok [0] } ∧
        t.events.sSet = latch SEvent.pos (.playStateChanged .playing .play) s.events.sSet ∧
        t.events.dSet = s.events.dSet ∧ t.events.counters = s.events.counters) ∧
    (s.engine.play ≠ .paused → s.engine.play ≠ .rampDown .paused →
      exec (.resume (goodFrame 0x0B [])) s = .next { s with sPort := answer s .s 0 .wrongState [0] })

/-- STOP (R109): in PLAYING a ramp to STOPPED begins; a ramp to PAUSED takes STOPPED as its destination and goes on;
from PRIMING, PAUSED or STARVED the engine is STOPPED at once, the ring flushed to the present P for the disc in
play (R15, R16), f = 0, slot P unopened, the play gain 0 and the pause flag asserted (R36), the queue emptied with
ORDER_WITHDRAWN of an ISSUED entry and of no other (R76), PAUSE_CHANGED for a change of the flag (R37) and the program
number computed by the flush (R96). -/
def Obligations.StopByPlayState : Prop :=
  ∀ (s : State), s.InPlay → s.planner.scanDue = false →
    (s.engine.play = .playing →
      ∃ t, exec (.stop (goodFrame 0x0C [])) s = .next t ∧
        t = { s with
          engine := { s.engine with play := .rampDown .stopped, intent := .stop }
          conceal := { s.conceal with
            gpTarget := 0
            gpStep := if s.conceal.gpTarget ≠ 0 ∧ s.conceal.gp = s.conceal.gpTarget
              then (4096 + s.params.rp - 1) / s.params.rp else s.conceal.gpStep }
          events := t.events, sPort := answer s .s 0 .ok [0] } ∧
        t.events.sSet = latch SEvent.pos (.playStateChanged (.rampDown .stopped) .stop) s.events.sSet ∧
        t.events.dSet = s.events.dSet ∧ t.events.counters = s.events.counters) ∧
    (s.engine.play = .priming ∨ s.engine.play = .paused ∨ s.engine.play = .starved →
      ∃ t, exec (.stop (goodFrame 0x0C [])) s = .next t ∧
        t.ring = { s.ring with slots := [], e := s.ring.p, owner := s.session.fingerprint } ∧
        t.engine.play = .stopped ∧ t.engine.intent = .stop ∧ t.engine.f = 0 ∧ t.engine.slotOpen = false ∧
        t.engine.holeWait = 0 ∧ t.engine.stall = none ∧ t.engine.anticipate = false ∧
        t.conceal = { s.conceal with gp := 0, gpTarget := 0, left := ⟨0, none⟩, right := ⟨0, none⟩ } ∧
        t.planner.queue = [] ∧ t.planner.tagCounter = 0 ∧ t.planner.fails = s.planner.fails ∧
        t.intake.run = none ∧ t.pauseFlag = true ∧ t.rates = s.rates ∧ t.session = s.session ∧
        t.events.dSet = pauseTold s.pauseFlag true (emptiedTold s.planner.queue s.events.dSet) ∧
        (∃ n, ⟨SEvent.playStateChanged .stopped .stop, n⟩ ∈ t.events.sSet) ∧ ProgramTold s t ∧
        t.power = s.power ∧ t.params = s.params ∧ t.line = s.line ∧ t.dPort = s.dPort ∧
        t.sPort = answer s .s 0 .ok [0]) ∧
    (s.engine.play = .rampDown .paused →
      ∃ t, exec (.stop (goodFrame 0x0C [])) s = .next t ∧
        t = { s with
          engine := { s.engine with play := .rampDown .stopped, intent := .stop }
          events := t.events, sPort := answer s .s 0 .ok [0] } ∧
        t.events.sSet = latch SEvent.pos (.playStateChanged (.rampDown .stopped) .stop) s.events.sSet ∧
        t.events.dSet = s.events.dSet ∧ t.events.counters = s.events.counters) ∧
    (s.engine.play = .rampDown .stopped ∨ s.engine.play = .stopped →
      exec (.stop (goodFrame 0x0C [])) s = .next { s with
        engine := { s.engine with intent := .stop }, sPort := answer s .s 0 .ok [0] })

/-- PLAY_AT at a held address (R104, R105): P moves to A and the slots below it are EMPTY; those from A to E − 1, E,
the run and the owner stay. A playable slot A opens in PLAYING; a hole is STARVED, and with a hole wait of 0 it is
given up at once and played through (R101). The orders are trimmed to begin at A, or behind it once slot A is open
(R73). The play gain is 4096, the conceal gain 0 and the last clean values 0. The fill latch is cleared at L − margin or
below (R36), with PAUSE_CHANGED for a change of the flag (R37), and PROGRAM_CHANGED tells of a new program number
(R96). The response carries the clamped position and the play state. Which of several entries withdrawn at once stays in
the record of ORDER_WITHDRAWN is log 40's choice; ORDER_AVAILABLE tells of work that comes to wait (R62, log 15). -/
def Obligations.PlayAtJumps : Prop :=
  ∀ (a : BitVec 24) (f : BitVec 16) (s : State), s.InPlay → s.ring.Law → s.planner.Law →
    s.planner.scanDue = false → 0 < s.t →
    let a' := min a.toNat (s.t - 1)
    let f' := min f.toNat (s.frames - 1)
    let through := (s.slot a').isMissing = true ∧ s.holeWaitLimit = 0
    let goes := (s.slot a').playable || decide through
    s.ring.p ≤ a' → a' < s.ring.e →
    ∃ t, exec (.playAt (goodFrame 0x08 (le24 a.toNat ++ le16 f.toNat))) s = .next t ∧
      t.ring.p = a' ∧ t.ring.e = s.ring.e ∧ t.ring.owner = s.ring.owner ∧ t.ring.straps = s.ring.straps ∧
      t.slot a' = (if through then .void a' else s.slot a') ∧
      (∀ x, a' < x → x < s.ring.e → t.slot x = s.slot x) ∧
      (∀ x, s.ring.p ≤ x → x < a' → t.slot x = .empty) ∧
      t.engine.f = f' ∧ t.engine.intent = .play ∧
      (goes = true → t.engine.play = .playing ∧ t.engine.slotOpen = true) ∧
      (goes = false → t.engine.play = .starved ∧ t.engine.slotOpen = false) ∧
      Trims a' goes s t ∧
      (Counted s t fun c => if c = .starveEpisodes ∧ (s.slot a').playable = false then 1
        else if c = .slotsAbandoned ∧ through then 1 else 0) ∧
      t.conceal.gp = 4096 ∧ t.conceal.gpTarget = 4096 ∧ t.conceal.gc = 0 ∧ t.conceal.gcTarget = 4096 ∧
      t.conceal.left = ⟨0, none⟩ ∧ t.conceal.right = ⟨0, none⟩ ∧
      t.intake = { s.intake with
        latch := s.intake.latch && decide (s.ring.len - s.params.releaseMargin < s.ring.e - a') } ∧
      FlagTold s t ∧ ProgramTold s t ∧ t.rates = s.rates ∧ t.session = s.session ∧ t.power = s.power ∧
      t.params = s.params ∧ t.line = s.line ∧ t.dPort = s.dPort ∧
      t.sPort = answer s .s 5 .ok (([if a' = a.toNat ∧ f' = f.toNat then 0 else 1] : List Byte) ++ le24 a' ++ le16 f' ++
        [byteOf t.engine.play.code])

/-- PLAY_AT outside P..E − 1 (R104, R106, R103): the ring is flushed to A for the disc in play, P = E = A with every slot
EMPTY, and play is PRIMING at (A, f) with the play gain 0 and the fill-stall timer running; SEEK_REQUESTED carries A,
ORDER_WITHDRAWN tells of an ISSUED entry in the queue that is emptied (R76), PAUSE_CHANGED of a flag released (R37) and
PROGRAM_CHANGED of a new program number (R96). -/
def Obligations.PlayAtSeeks : Prop :=
  ∀ (a : BitVec 24) (f : BitVec 16) (s : State), s.InPlay → s.planner.scanDue = false → 0 < s.t →
    1 ≤ s.params.startDepth →
    let a' := min a.toNat (s.t - 1)
    let f' := min f.toNat (s.frames - 1)
    ¬ (s.ring.p ≤ a' ∧ a' < s.ring.e) →
    ∃ t, exec (.playAt (goodFrame 0x08 (le24 a.toNat ++ le16 f.toNat))) s = .next t ∧
      t.ring = { s.ring with slots := [], p := a', e := a', owner := s.session.fingerprint } ∧
      t.engine.f = f' ∧ t.engine.intent = .play ∧ t.engine.play = .priming ∧ t.engine.slotOpen = false ∧
      (∃ k, t.engine.stall = some k ∧ k.since = s.now ∧ k.timeout = s.params.fillStallTimeout) ∧
      t.conceal.gp = 0 ∧ t.conceal.gpTarget = 0 ∧ t.conceal.left = ⟨0, none⟩ ∧ t.conceal.right = ⟨0, none⟩ ∧
      t.intake.run = none ∧ t.planner.queue = [] ∧ t.planner.tagCounter = 0 ∧
      t.events.dSet = pauseTold s.pauseFlag false
        (latch DEvent.pos (.seekRequested a') (emptiedTold s.planner.queue s.events.dSet)) ∧
      ProgramTold s t ∧
      (s.engine.play ≠ .priming → ∃ n, ⟨SEvent.playStateChanged .priming .play, n⟩ ∈ t.events.sSet) ∧
      t.rates = s.rates ∧ t.session = s.session ∧ t.power = s.power ∧
      t.params = s.params ∧ t.line = s.line ∧ t.dPort = s.dPort ∧
      t.sPort = answer s .s 5 .ok (([if a' = a.toNat ∧ f' = f.toNat then 0 else 1] : List Byte) ++ le24 a' ++ le16 f' ++ [1])

/-- PLAY_PROGRAM (R104): k is clamped to 1..n and acts as PLAY_AT at that program's start, frame 0: at a held start an
in-window jump, elsewhere a flush into PRIMING. CLAMPED shows a changed k. -/
def Obligations.PlayProgramActsAsPlayAt : Prop :=
  ∀ (k : Byte) (d : Directory) (s : State), s.InPlay → s.session.directory = some d → 1 ≤ d.starts.length →
    (∀ x ∈ d.starts, x < d.t) → d.t ≤ 1048576 →
    let k' := max 1 (min k.toNat d.starts.length)
    let a := d.starts.getD (k' - 1) 0
    ∃ t u, exec (.playProgram (goodFrame 0x09 [k])) s = .next t ∧
      exec (.playAt (goodFrame 0x08 (le24 a ++ [0, 0]))) s = .next u ∧
      t = { u with sPort := t.sPort } ∧
      t.sPort = answer s .s 1 .ok (([if k' = k.toNat then 0 else 1] : List Byte) ++ le24 a ++ [0, 0, byteOf t.engine.play.code]) ∧
      t.ring.p = a ∧ t.engine.f = 0 ∧ t.engine.intent = .play

/-- Without the session PRESENT the play commands and QUERY_DIRECTORY are answered NO_DISC and nothing else happens
(R104, R107, R108, R109, R145). -/
def Obligations.NoDiscOutsidePresent : Prop :=
  ∀ (s : State) (params : List Byte), s.Ready → s.session.state ≠ .present →
    (params.length = 5 → exec (.playAt (goodFrame 0x08 params)) s = .next { s with sPort := answer s .s 5 .noDisc [0] }) ∧
    (params.length = 1 →
      exec (.playProgram (goodFrame 0x09 params)) s = .next { s with sPort := answer s .s 1 .noDisc [0] } ∧
      exec (.queryDirectory (goodFrame 0x0F params)) s = .next { s with sPort := answer s .s 1 .noDisc [0] }) ∧
    exec (.pause (goodFrame 0x0A [])) s = .next { s with sPort := answer s .s 0 .noDisc [0] } ∧
    exec (.resume (goodFrame 0x0B [])) s = .next { s with sPort := answer s .s 0 .noDisc [0] } ∧
    exec (.stop (goodFrame 0x0C [])) s = .next { s with sPort := answer s .s 0 .noDisc [0] }

/-! ### Discs and the Resume Table -/

/-- DISC_LOADED (R134) by the session state. -/
def Obligations.DiscLoadedBySessionState : Prop :=
  ∀ (s : State), s.Ready → s.planner.scanDue = false →
    (s.session.state = .noDisc ∨ s.session.state = .identifying →
      exec (.discLoaded (goodFrame 0x0D [])) s = .next { s with
        session := { s.session with state := .identifying, identify := some ⟨s.now, false⟩ }
        sPort := answer s .s 0 .ok [0, 1] }) ∧
    (s.session.state = .leaving →
      exec (.discLoaded (goodFrame 0x0D [])) s = .next { s with
        session := { s.session with pendingLoad := true }, sPort := answer s .s 0 .ok [0, 3] }) ∧
    (s.session.state = .present →
      exec (.discLoaded (goodFrame 0x0D [])) s = .next { s with sPort := answer s .s 0 .wrongState [0, 2] })

/-- DISC_RELEASE (R135, R142, R143, R111): outside PRESENT the session unit alone changes; in PLAYING the leave fade
begins with the queue, the run and a pending cap gone, and a ramp under way takes the leave as its destination;
from a silent play state the leave ends at once, the resume entry stored at rank 1 and the engine HALTED. The ring
is kept.
ORDER_WITHDRAWN tells of an ISSUED entry in the queue that is emptied (R76); at the end of the leave HALTED and
SESSION_ENDED with the stored entry are raised, and SESSION_CHANGED (R143), and PAUSE_CHANGED when STOPPED had held
the flag (R36, R37). A pending load makes the session IDENTIFYING there, the identify timer started (R143 step 4,
R134). The response carries the session state after the command (R133). -/
def Obligations.DiscReleaseBySessionState : Prop :=
  ∀ (s : State), s.Ready → s.planner.scanDue = false →
    (s.session.state = .noDisc →
      exec (.discRelease (goodFrame 0x0E [])) s = .next { s with sPort := answer s .s 0 .ok [0, 0] }) ∧
    (s.session.state = .identifying →
      exec (.discRelease (goodFrame 0x0E [])) s = .next { s with
        session := { s.session with state := .noDisc, identify := none }, sPort := answer s .s 0 .ok [0, 0] }) ∧
    (s.session.state = .leaving →
      exec (.discRelease (goodFrame 0x0E [])) s = .next { s with
        session := { s.session with pendingLoad := false }, sPort := answer s .s 0 .ok [0, 3] }) ∧
    (s.session.state = .present → s.engine.play = .playing →
      ∃ t, exec (.discRelease (goodFrame 0x0E [])) s = .next t ∧
        t = { s with
          planner := { s.planner with queue := [], tagCounter := 0 }
          intake := { s.intake with run := none }
          rates := { s.rates with cap := none }
          session := { s.session with state := .leaving }
          engine := { s.engine with play := .rampDown .leave }
          conceal := { s.conceal with
            gpTarget := 0
            gpStep := if s.conceal.gpTarget ≠ 0 ∧ s.conceal.gp = s.conceal.gpTarget
              then (4096 + s.params.rp - 1) / s.params.rp else s.conceal.gpStep }
          events := t.events, sPort := answer s .s 0 .ok [0, 3] } ∧
        t.events.sSet = latch SEvent.pos (.playStateChanged (.rampDown .leave) s.engine.intent) s.events.sSet ∧
        t.events.dSet = emptiedTold s.planner.queue s.events.dSet ∧ t.events.counters = s.events.counters) ∧
    (s.session.state = .present → (s.engine.play = .rampDown .paused ∨ s.engine.play = .rampDown .stopped) →
      ∃ t, exec (.discRelease (goodFrame 0x0E [])) s = .next t ∧
        t = { s with
          planner := { s.planner with queue := [], tagCounter := 0 }
          intake := { s.intake with run := none }
          rates := { s.rates with cap := none }
          session := { s.session with state := .leaving }
          engine := { s.engine with play := .rampDown .leave }
          events := t.events, sPort := answer s .s 0 .ok [0, 3] } ∧
        t.events.sSet = latch SEvent.pos (.playStateChanged (.rampDown .leave) s.engine.intent) s.events.sSet ∧
        t.events.dSet = emptiedTold s.planner.queue s.events.dSet ∧ t.events.counters = s.events.counters) ∧
    (∀ d fp, s.session.state = .present → s.session.directory = some d → s.session.fingerprint = some fp →
      s.engine.play = .priming ∨ s.engine.play = .paused ∨ s.engine.play = .starved ∨ s.engine.play = .stopped →
      ∃ t, exec (.discRelease (goodFrame 0x0E [])) s = .next t ∧
        t.session.table = (⟨fp, d.starts.length, d.t, s.ring.p, s.engine.f,
          if s.engine.intent = .play then .playing else .paused,
          if s.rates.state = .limited then some s.rates.requested else none⟩ ::
            s.session.table.filter fun x => x.fingerprint != fp).take 6 ∧
        t.session.directory = some d ∧ t.session.fingerprint = some fp ∧ LeaveEnds s t ∧
        t.sPort = answer s .s 0 .ok [0, if s.session.pendingLoad then 1 else 0] ∧ t.engine.play = .halted ∧
        t.engine.f = s.engine.f ∧ t.engine.intent = s.engine.intent ∧ t.engine.slotOpen = s.engine.slotOpen ∧
        t.ring = s.ring ∧ t.planner.queue = [] ∧ t.planner.tagCounter = 0 ∧ t.intake.run = none ∧
        t.events.sSet = endedTold fp s.ring.p s.engine.f s.engine.intent s.events.sSet ∧
        t.events.dSet = pauseTold s.pauseFlag s.intake.latch
          (latch DEvent.pos .sessionChanged (emptiedTold s.planner.queue s.events.dSet)) ∧
        t.conceal = s.conceal ∧ t.events.counters = s.events.counters ∧ t.power = s.power ∧ t.params = s.params)

/-- QUERY_DIRECTORY (R145): the rate code, n, T, the index clamped to 1..n with CLAMPED when changed, and from there up to
16 start addresses; nothing else changes.
QUERY_RESUME (R145): the entry at a held rank with the number of entries; NO_ENTRY with the number otherwise. -/
def Obligations.SessionReports : Prop :=
  (∀ (i : Byte) (d : Directory) (s : State), s.InPlay → s.session.directory = some d →
     let i' := max 1 (min i.toNat d.starts.length)
     exec (.queryDirectory (goodFrame 0x0F [i])) s = .next { s with
       sPort := answer s .s 1 .ok (([if i' = i.toNat then 0 else 1, byteOf d.rate.code, byteOf d.starts.length] : List Byte) ++
         le24 d.t ++ [byteOf i'] ++ ((d.starts.drop (i' - 1)).take 16).flatMap le24) }) ∧
  (∀ (rank : Byte) (s : State), s.Ready →
     (∀ e, 1 ≤ rank.toNat → s.session.table[rank.toNat - 1]? = some e →
       exec (.queryResume (goodFrame 0x10 [rank])) s = .next { s with
         sPort := answer s .s 1 .ok ([0, byteOf s.session.table.length] ++ le32 e.fingerprint.toNat ++
           [byteOf e.programs] ++ le24 e.t ++ le24 e.address ++ le16 e.frame ++
           [if e.intent = .playing then 0 else 1, match e.cap with | none => 0 | some r => byteOf r.code]) }) ∧
     (rank.toNat = 0 ∨ s.session.table.length < rank.toNat →
       exec (.queryResume (goodFrame 0x10 [rank])) s = .next { s with
         sPort := answer s .s 1 .noEntry [0, byteOf s.session.table.length] }))

/-- FORGET_RESUME (R146): a held rank is removed and those below it move up; 0xFF removes all; a rank that no entry holds is
NO_ENTRY. Nothing but the table and the response changes. -/
def Obligations.ForgetResumeRemoves : Prop :=
  ∀ (rank : Byte) (s : State), s.Ready →
    (1 ≤ rank.toNat → rank.toNat ≤ s.session.table.length → rank ≠ 0xFF →
      exec (.forgetResume (goodFrame 0x11 [rank])) s = .next { s with
        session := { s.session with
          table := s.session.table.take (rank.toNat - 1) ++ s.session.table.drop rank.toNat }
        sPort := answer s .s 1 .ok [0, byteOf (s.session.table.length - 1)] }) ∧
    (rank = 0xFF →
      exec (.forgetResume (goodFrame 0x11 [rank])) s = .next { s with
        session := { s.session with table := [] }, sPort := answer s .s 1 .ok [0, 0] }) ∧
    (rank ≠ 0xFF → rank.toNat = 0 ∨ s.session.table.length < rank.toNat →
      exec (.forgetResume (goodFrame 0x11 [rank])) s = .next { s with
        sPort := answer s .s 1 .noEntry [0, byteOf s.session.table.length] })

/-! ### Hold and sleep -/

/-- HOLD and SLEEP with no disc in play (R166, R167): the mode is reached in the same event, the response carrying the
session state found; HELD keeps the slots under self-refresh, SLEEPING loses them with the supply and keeps the
depth and the tallies as figures (R19).
HOLD and SLEEP with play on (R166, R142, R111): the entry is in progress with BUSY shown, the leave fade runs, or a
ramp under way takes the leave as its destination, and RDY_B stays high. From a silent play state the leave ends at
once and the mode is reached. In LEAVING the entry waits for the leave under way.
ORDER_WITHDRAWN tells of an ISSUED entry in the queue that is emptied (R76), SESSION_ENDED and SESSION_CHANGED of the
end of the leave (R143). That the pause flag of STOPPED is released there, with PAUSE_CHANGED, is the model's choice
(log 39). -/
def Obligations.HoldAndSleepEnter : Prop :=
  (∀ (s : State), s.Ready → s.planner.scanDue = false → s.planner.queue = [] →
     (s.session.state = .noDisc ∨ s.session.state = .identifying) →
     let session' := { s.session with
       state := .noDisc, identify := if s.session.state = .identifying then none else s.session.identify }
     (exec (.hold (goodFrame 0x12 [])) s = .next { s with
       planner := { s.planner with tagCounter := 0 }
       session := session'
       power := { s.power with mode := .held, entry := none, wake := none, selfRefresh := true }
       sPort := answer s .s 0 .ok [0, byteOf s.session.state.code] }) ∧
     (exec (.sleep (goodFrame 0x13 [])) s = .next { s with
       ring := { s.ring with slots := [], asleep := some s.ring.figures }
       planner := { s.planner with tagCounter := 0 }
       session := session'
       power := { s.power with mode := .sleeping, entry := none, wake := none, supply := false }
       sPort := answer s .s 0 .ok [0, byteOf s.session.state.code] })) ∧
  (∀ (s : State), s.InPlay → s.planner.scanDue = false → s.engine.play = .playing →
     ∀ (target : LowMode) (i : Instr),
       (target = .held ∧ i = .hold (goodFrame 0x12 []) ∨ target = .sleeping ∧ i = .sleep (goodFrame 0x13 [])) →
       ∃ t, exec i s = .next t ∧
         t = { s with
           planner := { s.planner with queue := [], tagCounter := 0 }
           intake := { s.intake with run := none }
           rates := { s.rates with cap := none }
           session := { s.session with state := .leaving }
           engine := { s.engine with play := .rampDown .leave }
           conceal := { s.conceal with
             gpTarget := 0
             gpStep := if s.conceal.gpTarget ≠ 0 ∧ s.conceal.gp = s.conceal.gpTarget
               then (4096 + s.params.rp - 1) / s.params.rp else s.conceal.gpStep }
           power := { s.power with entry := some ⟨target, s.now⟩ }
           events := t.events, sPort := answer s .s 0 .ok [0, 2] } ∧
         t.events.sSet = latch SEvent.pos (.playStateChanged (.rampDown .leave) s.engine.intent) s.events.sSet ∧
         t.events.dSet = emptiedTold s.planner.queue s.events.dSet ∧
         t.busy = true ∧ t.rdyB = true ∧ t.events.counters = s.events.counters) ∧
  (∀ (s : State), s.Ready → s.planner.scanDue = false →
     ∀ (target : LowMode) (i : Instr),
       (target = .held ∧ i = .hold (goodFrame 0x12 []) ∨ target = .sleeping ∧ i = .sleep (goodFrame 0x13 [])) →
       (s.session.state = .leaving → exec i s = .next { s with
         power := { s.power with entry := some ⟨target, s.now⟩ }, sPort := answer s .s 0 .ok [0, 3] }) ∧
       (s.session.state = .present → (s.engine.play = .rampDown .paused ∨ s.engine.play = .rampDown .stopped) →
         ∃ t, exec i s = .next t ∧
           t = { s with
             planner := { s.planner with queue := [], tagCounter := 0 }
             intake := { s.intake with run := none }
             rates := { s.rates with cap := none }
             session := { s.session with state := .leaving }
             engine := { s.engine with play := .rampDown .leave }
             power := { s.power with entry := some ⟨target, s.now⟩ }
             events := t.events, sPort := answer s .s 0 .ok [0, 2] } ∧
           t.events.sSet = latch SEvent.pos (.playStateChanged (.rampDown .leave) s.engine.intent) s.events.sSet ∧
           t.events.dSet = emptiedTold s.planner.queue s.events.dSet ∧
           t.busy = true ∧ t.rdyB = true ∧ t.events.counters = s.events.counters) ∧
       (∀ d fp, s.session.state = .present → s.session.directory = some d → s.session.fingerprint = some fp →
         (s.engine.play = .priming ∨ s.engine.play = .paused ∨ s.engine.play = .starved ∨ s.engine.play = .stopped) →
         ∃ t, exec i s = .next t ∧
           t.power = { s.power with
             mode := target.mode, entry := none, wake := none
             selfRefresh := target == .held || s.power.selfRefresh
             supply := target != .sleeping && s.power.supply } ∧
           t.ring = (if target = .held then s.ring
             else { s.ring with slots := [], asleep := some s.ring.figures }) ∧
           t.ring.figures = s.ring.figures ∧
           t.session.state = .noDisc ∧ t.session.pendingLoad = false ∧ t.engine.play = .halted ∧
           (t.session.table.map ResumeEntry.fingerprint).head? = some fp ∧
           (t.session.table.map ResumeEntry.address).head? = some s.ring.p ∧
           t.planner.queue = [] ∧ t.planner.tagCounter = 0 ∧ t.intake.run = none ∧
           t.events.sSet = endedTold fp s.ring.p s.engine.f s.engine.intent s.events.sSet ∧
           t.events.dSet = pauseTold s.pauseFlag s.intake.latch
             (latch DEvent.pos .sessionChanged (emptiedTold s.planner.queue s.events.dSet)) ∧
           t.events.counters = s.events.counters ∧
           t.sPort = answer s .s 0 .ok [0, 2]))


/-! ### Repair orders -/

/-- TAKE_ORDER (R63, R64, R65): with no entry ISSUED the lowest one is issued, with the next tag, one more attempt, a
read-from address within the placeable window and its timeout running; the ISSUED entry is given again with nothing
counted and its read-from address raised; an empty queue answers tag 0 with the requested rate. -/
def Obligations.TakeOrderGivesLowest : Prop :=
  ∀ (s : State), s.Ready → s.planner.Law →
    let low := if s.engine.slotOpen then s.ring.p + 1 else s.ring.p
    let told := fun (o : Order) (tag readFrom : Nat) => answer s .d 0 .ok
      (([0, byteOf tag] : List Byte) ++ le24 readFrom ++ le24 o.first ++ [byteOf o.count,
        if (List.range' o.first o.count).any (fun a => (s.slot a).isMissing) then 0 else 1,
        byteOf s.rates.requested.code])
    (s.planner.queue = [] →
      exec (.takeOrder (goodFrame 0x21 [])) s = .next { s with
        dPort := answer s .d 0 .ok (List.replicate 10 0 ++ [byteOf s.rates.requested.code]) }) ∧
    (∀ o rest, s.planner.queue = o :: rest → (∀ x ∈ s.planner.queue, x.issue = none) →
      let tag := if s.planner.tagCounter = 255 then 1 else s.planner.tagCounter + 1
      let readFrom := max (o.first - s.params.leadIn) low
      ∃ t, exec (.takeOrder (goodFrame 0x21 [])) s = .next t ∧
        t = { s with
          planner := { s.planner with
            queue := { o with
              attempts := o.attempts + 1
              issue := some ⟨tag, readFrom, s.now, s.now + 1000 * s.params.orderTimeout⟩ } :: rest
            tagCounter := tag }
          events := t.events, dPort := told o tag readFrom } ∧
        t.events.dSet = s.events.dSet ∧ Counted s t fun c => if c = .ordersIssued then 1 else 0) ∧
    (∀ l o r i, s.planner.queue = l ++ o :: r → o.issue = some i →
      let readFrom := max i.readFrom low
      exec (.takeOrder (goodFrame 0x21 [])) s = .next { s with
        planner := { s.planner with queue := l ++ { o with issue := some { i with readFrom := readFrom } } :: r }
        dPort := told o i.tag readFrom })

/-- ORDER_DONE (R66, R67) where no failure is counted, and ORDER_TIMEOUT with no bad slot left (R70). A tag that is not
the ISSUED entry's is STALE and changes nothing. With no bad slot left the entry is removed and the failure count is 0.
INTERRUPTED with bad slots left trims the entry to them and requeues it, its attempt refunded. A timeout with none left
withdraws it, the timebase moving to the deadline or staying when that is past (log 4). Except for a STALE answer a scan
follows, and ORDER_AVAILABLE when work comes to wait (R59, R62). -/
def Obligations.OrderDoneCloses : Prop :=
  ∀ (s : State), s.Ready → s.planner.Law →
    (∀ (tag out : Byte), (out = 0 ∨ out = 1 ∨ out = 2) →
      (∀ o ∈ s.planner.queue, ∀ i, o.issue = some i → i.tag ≠ tag.toNat) →
      exec (.orderDone (goodFrame 0x22 [tag, out])) s = .next { s with dPort := answer s .d 2 .ok [2, tag, 3] }) ∧
    (∀ l o r i, s.planner.queue = l ++ o :: r → o.issue = some i →
      let told := fun (disp : Byte) => answer s .d 2 .ok [0, byteOf i.tag, disp]
      let available := fun (t : State) (d : List (Latched DEvent)) =>
        t.events.dSet = if t.planner.queue = [] then d else latch DEvent.pos .orderAvailable d
      ((∀ a, o.first ≤ a → a < o.first + o.count → s.badAt a = false) →
        (∀ out : Byte, (out = 0 ∨ out = 1 ∨ out = 2) →
          ∃ t, exec (.orderDone (goodFrame 0x22 [byteOf i.tag, out])) s = .next t ∧
            t = { s with
              planner := { s.planner with queue := t.planner.queue, fails := 0, scanDue := false }
              events := t.events, dPort := told 0 } ∧
            t.planner.queue = (scan { s with planner := { s.planner with queue := l ++ r } }).planner.queue ∧
            t.events.sSet = s.events.sSet ∧ t.events.counters = s.events.counters ∧ available t s.events.dSet) ∧
        (∃ t, exec .orderTimeout s = .next t ∧
          t = { s with
            planner := { s.planner with queue := t.planner.queue, scanDue := false }
            events := t.events, now := max s.now i.deadline } ∧
          t.planner.queue = (scan { s with planner := { s.planner with queue := l ++ r } }).planner.queue ∧
          t.events.sSet = s.events.sSet ∧ t.events.counters = s.events.counters ∧
          available t (latch DEvent.pos (.orderWithdrawn i.tag o.first) s.events.dSet))) ∧
      (∀ lo hi, o.first ≤ lo → lo ≤ hi → hi < o.first + o.count → s.badAt lo = true → s.badAt hi = true →
        (∀ a, o.first ≤ a → a < o.first + o.count → s.badAt a = true → lo ≤ a ∧ a ≤ hi) →
        ∃ t, exec (.orderDone (goodFrame 0x22 [byteOf i.tag, 2])) s = .next t ∧
          t = { s with
            planner := { s.planner with queue := t.planner.queue, scanDue := false }
            events := t.events, dPort := told 1 } ∧
          t.planner.queue = (scan { s with planner := { s.planner with
            queue := l ++ ⟨lo, hi + 1 - lo, o.attempts - 1, none⟩ :: r } }).planner.queue ∧
          t.events.sSet = s.events.sSet ∧ t.events.counters = s.events.counters ∧ available t s.events.dSet))

/-- A counted failure (R68, R69, R70, R72), by ORDER_DONE of READ or UNREADABLE or by ORDER_TIMEOUT, with bad slots
lo..hi left: attempts failed rises, the failure count rises and at the downgrade limit steps the rate down, the
upgrade progress is 0. Below the retry limit the entry is trimmed and requeued with its attempts kept; at it the
bad slots are given up, a hole VOID and a FLAWED slot settled, and the entry is removed. A scan follows. Slots
given up may end STARVED, slot P being playable now (R100), or PRIMING (R103): play opens slot P and the orders
are trimmed behind it (R73). At ORDER_TIMEOUT the timebase moves to the deadline, or stays when that is past (log
4). ORDER_AVAILABLE tells of work that comes to wait (R62, log 15). -/
def Obligations.FailedAttemptCounts : Prop :=
  ∀ (s : State) (l r : List Order) (o : Order) (i : Issue) (lo hi : Nat) (c : Instr) (out : Byte),
    s.Ready → s.ring.p ≠ s.t → s.planner.Law → s.ring.Law → s.planner.queue = l ++ o :: r → o.issue = some i →
    s.ring.p ≤ o.first → o.first + o.count ≤ s.ring.e →
    o.first ≤ lo → lo ≤ hi → hi < o.first + o.count → s.badAt lo = true → s.badAt hi = true →
    (∀ a, o.first ≤ a → a < o.first + o.count → s.badAt a = true → lo ≤ a ∧ a ≤ hi) →
    (c = .orderTimeout ∨ c = .orderDone (goodFrame 0x22 [byteOf i.tag, out]) ∧ (out = 0 ∨ out = 1)) →
    let steps := s.params.downgradeLimit ≤ s.planner.fails + 1
    let given := s.params.retryLimit ≤ o.attempts
    ∃ t, exec c s = .next t ∧
      t.planner.fails = (if steps then 0 else s.planner.fails + 1) ∧ t.planner.tagCounter = s.planner.tagCounter ∧
      t.rates = { (if steps then (rateStepDown s).rates else s.rates) with progress := 0 } ∧
      (let judged := (l ++ (if given then [] else [Order.mk lo (hi + 1 - lo) o.attempts none]) ++ r).filterMap
          fun o : Order => if playBegins s t then o.behind (s.ring.p + 1) else some o;
        t.planner.queue = scanned t judged ∧ WorkTold judged s t) ∧
      (¬ given → t.ring = s.ring) ∧
      (given → t.ring.p = s.ring.p ∧ t.ring.e = s.ring.e ∧ t.ring.owner = s.ring.owner ∧
        t.ring.straps = s.ring.straps ∧
        (∀ a, s.ring.p ≤ a → a < s.ring.p + s.ring.len →
          t.slot a = if lo ≤ a ∧ a ≤ hi ∧ s.badAt a = true
            then match s.slot a with
              | .missing tag => .void tag
              | .flawed tag map words source _ => .flawed tag map words source true
              | v => v
            else s.slot a) ∧
        ∃ n, ⟨SEvent.slotAbandoned lo hi, n⟩ ∈ t.events.sSet) ∧
      (Counted s t fun x =>
        if x = .attemptsFailed then 1
        else if x = .slotsAbandoned ∧ given then ((List.range' lo (hi + 1 - lo)).filter s.badAt).length
        else if x = .rateDowngrades ∧ steps ∧ (rateStepDown s).rates.requested ≠ s.rates.requested then 1 else 0) ∧
      Reacts s.engine s t ∧ t.line = s.line ∧ t.intake = s.intake ∧
      t.session = s.session ∧ t.power = s.power ∧ t.params = s.params ∧ t.sPort = s.sPort ∧
      (c = .orderTimeout → t.now = max s.now i.deadline ∧ t.dPort = s.dPort) ∧
      (c ≠ .orderTimeout → t.now = s.now ∧
        t.dPort = answer s .d 2 .ok [0, byteOf i.tag, if given then 2 else 1])

/-- DRIVE_RESTART (R40, R77, R88, R62): the run ends, the ISSUED entry returns to QUEUED with its attempt refunded, the
failure count is 0, the rates are NONE with the pending cap kept, a scan follows, and ORDER_AVAILABLE is raised
whenever work then waits. That rates kept outside PRESENT are dropped too is the model's choice (log 45). -/
def Obligations.DriveRestartRequeues : Prop :=
  ∀ (s : State), s.Ready →
    let queue := s.planner.queue.map fun o =>
      if o.issue = none then o else { o with attempts := o.attempts - 1, issue := none }
    let changed := s.rates.agreed ≠ .x1 ∨ s.rates.requested ≠ .x1
    let state := RateState.none
    ∃ t, exec (.driveRestart (goodFrame 0x25 [])) s = .next t ∧
      t = { s with
        intake := { s.intake with run := none }
        planner := { s.planner with queue := t.planner.queue, fails := 0, scanDue := false }
        rates := ⟨none, 0, s.rates.cap⟩
        events := t.events, dPort := answer s .d 0 .ok [0] } ∧
      t.planner.queue = (scan { s with planner := { s.planner with queue := queue } }).planner.queue ∧
      t.events.counters = s.events.counters ∧
      t.events.sSet = (if changed then latch SEvent.pos (.rateChanged .x1 .x1 state .reset) s.events.sSet
        else s.events.sSet) ∧
      let dSet := if changed then latch DEvent.pos (.rateChanged .x1 .x1 state .reset) s.events.dSet else s.events.dSet
      t.events.dSet = if t.planner.queue = [] then dSet else latch DEvent.pos .orderAvailable dSet

/-- The scan (R59, R60, R61), made with the session PRESENT: each bad slot of the repair region is then covered, unless the
queue is full; nothing else comes to be covered, and what was covered stays so. Entries that were there keep their order,
their attempts and their addresses, and only a QUEUED one is extended; a new entry is QUEUED with 0 attempts and covers
nothing that was covered before. The lowest bad slots come first: where the full queue leaves one out, none above it has
come to be covered.
Each maximal range of bad slots that no entry covered is placed in R60's order, as Shaped says: it joins the QUEUED entry
just below, up to 64 addresses; what is left joins the QUEUED entry just above where both fit into 64; new entries of
up to 64 addresses hold the rest. Planner.Law of the outcome keeps each entry at 64 addresses or fewer and the queue
ascending. -/
def Obligations.ScanCoversBadSlots : Prop :=
  ∀ (s : State), s.planner.Law → s.power.mode = .running → s.session.state = .present →
    let low := if s.engine.slotOpen then s.ring.p + 1 else s.ring.p
    let t := scan s
    let covered := fun (u : State) => coveredBy u.planner.queue
    t.planner.Law ∧
    (∀ a, low ≤ a → a < s.ring.e → s.badAt a = true → covered t a ∨ t.planner.queue.length = 16) ∧
    (∀ a, covered s a → covered t a) ∧
    (∀ a, covered t a → covered s a ∨ low ≤ a ∧ a < s.ring.e ∧ s.badAt a = true) ∧
    (∃ grown : List Order, grown.Sublist t.planner.queue ∧ grown.length = s.planner.queue.length ∧
      (∀ (k : Nat) (o g : Order), s.planner.queue[k]? = some o → grown[k]? = some g →
        g.attempts = o.attempts ∧ g.issue = o.issue ∧ g.first ≤ o.first ∧ o.first + o.count ≤ g.first + g.count ∧
        (o.issue ≠ none → g = o)) ∧
      (∀ g ∈ t.planner.queue, g ∈ grown ∨
        g.attempts = 0 ∧ g.issue = none ∧ ∀ a, g.first ≤ a → a < g.first + g.count → ¬ covered s a)) ∧
    (∀ a b, low ≤ a → a < s.ring.e → s.badAt a = true → ¬ covered t a → covered t b → covered s b ∨ b < a) ∧
    (∀ first last, s.UnplacedRange first last → Shaped s t first last) ∧
    t = { s with planner := { s.planner with queue := t.planner.queue } }

/-! ### Rates, and the drive's notices -/

/-- RATE_OFFER (R79, R80, R81, R89): WRONG_STATE outside PRESENT. In PRESENT the offer with 1x replaces the one held; the
agreed rate is the highest offered at or below the ceiling; the requested rate is the same, or under a pending cap the
highest offered at or below that cap and the agreed rate; the cap is used up and the progress is 0. RATE_CHANGED goes
to both ports when a reported rate changes. -/
def Obligations.RateOfferAgrees : Prop :=
  ∀ (b : Byte) (s : State), s.Ready → 1 ≤ s.params.ceiling →
    (s.session.state ≠ .present →
      exec (.rateOffer (goodFrame 0x23 [b])) s = .next { s with dPort := answer s .d 1 .wrongState [0] }) ∧
    (s.session.state = .present →
      let offered := fun (x : Rate) => x = .x1 ∨ x = .x2 ∧ b.getLsbD 1 = true ∨ x = .x4 ∧ b.getLsbD 2 = true
      let highest := fun (x : Rate) (bound : Nat) =>
        offered x ∧ x.code ≤ bound ∧ ∀ y, offered y → y.code ≤ bound → y.code ≤ x.code
      ∃ t agreed requested, exec (.rateOffer (goodFrame 0x23 [b])) s = .next t ∧
        highest agreed s.params.ceiling ∧
        (s.rates.cap = none → requested = agreed) ∧
        (∀ cap, s.rates.cap = some cap → highest requested (min cap.code agreed.code)) ∧
        let state := if requested = agreed then RateState.agreed else RateState.limited
        let changed := s.rates.agreed ≠ agreed ∨ s.rates.requested ≠ requested
        t = { s with
          rates := ⟨some ⟨⟨b.getLsbD 1, b.getLsbD 2⟩, agreed, requested⟩, 0, none⟩
          events := t.events
          dPort := answer s .d 1 .ok [0, byteOf agreed.code, byteOf requested.code, byteOf state.code] } ∧
        t.events.counters = s.events.counters ∧
        t.events.sSet = (if changed then latch SEvent.pos (.rateChanged agreed requested state .offer) s.events.sSet
          else s.events.sSet) ∧
        t.events.dSet = (if changed then latch DEvent.pos (.rateChanged agreed requested state .offer) s.events.dSet
          else s.events.dSet))

/-- STEP_UP and STEP_DOWN (R80, R84, R86, R72, R89). Up, in LIMITED with the progress at the interval: the next higher offered
rate at or below the agreed one. Down, with the failure count at the limit: the next lower offered rate, if there is
one, and the count returns to 0; in NONE and at the lowest rate it alone changes. Both steps set the progress to 0 and
tell both ports. Without their condition nothing happens (log 5). That they act on rates kept outside PRESENT too is
the model's choice (log 45, DESIGN CHOICE). -/
def Obligations.RateStepsByOneRung : Prop :=
  ∀ (s : State), s.rates.Law s.params →
    (∀ a, s.rates.held = some a → a.requested ≠ a.agreed → s.params.upgradeInterval ≤ s.rates.progress →
      ∃ t higher, exec .stepUp s = .next t ∧
        higher ∈ a.offer.ladder ∧ a.requested.code < higher.code ∧ higher.code ≤ a.agreed.code ∧
        (∀ x ∈ a.offer.ladder, a.requested.code < x.code → higher.code ≤ x.code) ∧
        let state := if higher = a.agreed then RateState.agreed else RateState.limited
        t = { s with rates := ⟨some { a with requested := higher }, 0, s.rates.cap⟩, events := t.events } ∧
        t.events.counters = s.events.counters ∧
        t.events.sSet = latch SEvent.pos (.rateChanged a.agreed higher state .upgrade) s.events.sSet ∧
        t.events.dSet = latch DEvent.pos (.rateChanged a.agreed higher state .upgrade) s.events.dSet) ∧
    (s.rates.state ≠ .limited ∨ s.rates.progress < s.params.upgradeInterval → exec .stepUp s = .next s) ∧
    (∀ a, s.rates.held = some a → s.params.downgradeLimit ≤ s.planner.fails →
      (a.requested ≠ .x1 →
        ∃ t lower, exec .stepDown s = .next t ∧
          lower ∈ a.offer.ladder ∧ lower.code < a.requested.code ∧
          (∀ x ∈ a.offer.ladder, x.code < a.requested.code → x.code ≤ lower.code) ∧
          t = { s with
            rates := ⟨some { a with requested := lower }, 0, s.rates.cap⟩
            planner := { s.planner with fails := 0 }
            events := t.events } ∧
          (Counted s t fun c => if c = .rateDowngrades then 1 else 0) ∧
          (∃ n, ⟨SEvent.rateChanged a.agreed lower .limited .downgrade, n⟩ ∈ t.events.sSet) ∧
          t.events.dSet = latch DEvent.pos (.rateChanged a.agreed lower .limited .downgrade) s.events.dSet) ∧
      (a.requested = .x1 → exec .stepDown s = .next { s with planner := { s.planner with fails := 0 } })) ∧
    (s.rates.held = none → s.params.downgradeLimit ≤ s.planner.fails →
      exec .stepDown s = .next { s with planner := { s.planner with fails := 0 } }) ∧
    (s.planner.fails < s.params.downgradeLimit → exec .stepDown s = .next s)

/-- SKIP_NOTICE (R39), in RUNNING in any session and play state: the run ends, skip notices rises by one, and the response
carries E with the last address of the run that ended, or no run. The part does not act on g; the window, the slots and
the fill pause are left as they stand. The rise stops at 16,777,215 (R162), and COUNTER_ALERT is raised, with all fifteen
flags as they then stand, when it brings the counter to or above the alert threshold with its flag clear (R163). -/
def Obligations.SkipNoticeEndsRun : Prop :=
  ∀ (g : BitVec 24) (s : State), s.Ready →
    let before := s.events.counters[(13 : Fin 15)]
    let value := min (before.value + 1) 16777215
    let alerts := before.alerted = false ∧ s.params.alertThreshold ≤ value
    ∃ t, exec (.skipNotice (goodFrame 0x24 (le24 g.toNat))) s = .next t ∧
      t = { s with
        intake := { s.intake with run := none }
        events := t.events
        dPort := answer s .d 3 .ok (0 :: (le24 s.ring.e ++
          match s.intake.run with
          | none => [0, 0, 0, 0]
          | some r => 1 :: le24 r.last)) } ∧
      t.events.dSet = s.events.dSet ∧ (Counted s t fun c => if c = .skipNotices then 1 else 0) ∧
      t.events.counters =
        s.events.counters.set 13 ⟨value, before.alerted || decide (s.params.alertThreshold ≤ value)⟩ ∧
      t.events.sSet = if alerts
        then latch SEvent.pos (.counterAlert (t.events.counters.toList.map Counter.alerted)) s.events.sSet
        else s.events.sSet


/-! ### The frame clock -/

/-- HOLE_WAIT_EXPIRY (R101, R100): in STARVED at a MISSING slot P with the count at the limit, slot P becomes VOID and
is opened, play is PLAYING, the count and the fill-stall timer are dropped and the conceal gain starts from 0. The
other slots stay. The orders that cover P are trimmed to begin behind it, so that none begins at or below P; one
left empty is withdrawn and a scan follows (R73, R59). Without that condition nothing happens (log 5). Which of
several entries withdrawn at once stays in the record of ORDER_WITHDRAWN is log 40's choice; ORDER_AVAILABLE tells
of work that comes to wait (R62, log 15). -/
def Obligations.HoleWaitExpires : Prop :=
  ∀ (s : State), s.ring.Law → s.planner.Law → s.planner.scanDue = false →
    let stands := s.engine.play = .starved ∧ (s.slot s.ring.p).isMissing = true ∧
      s.params.holeWait * s.rate.hz / 1000 ≤ s.engine.holeWait
    (stands →
      ∃ t, exec .holeWaitExpiry s = .next t ∧
        t.slot s.ring.p = .void s.ring.p ∧
        (∀ a, s.ring.p < a → a < s.ring.p + s.ring.len → t.slot a = s.slot a) ∧
        t.ring = { s.ring with slots := t.ring.slots } ∧
        t.engine = opened s.engine ∧ t.conceal = gainsFromStarved s.params s.engine.anticipate s.conceal ∧
        (∃ n, ⟨SEvent.slotAbandoned s.ring.p s.ring.p, n⟩ ∈ t.events.sSet) ∧
        (∃ n, ⟨SEvent.playStateChanged .playing s.engine.intent, n⟩ ∈ t.events.sSet) ∧
        (Counted s t fun c => if c = .slotsAbandoned then 1 else 0) ∧
        Trims s.ring.p true s t ∧ (∀ o ∈ t.planner.queue, s.ring.p < o.first) ∧
        t.intake = s.intake ∧ t.rates = s.rates ∧ t.line = s.line ∧ t.session = s.session ∧ t.power = s.power ∧
        t.params = s.params ∧ t.sPort = s.sPort ∧ t.dPort = s.dPort ∧ t.now = s.now) ∧
    (¬ stands → exec .holeWaitExpiry s = .next s)

/-- FRAME_CLOCK in a silent state (R93, R101, R123, R124, R127, R130): both words are 0, the gains step, SLC is low
exactly when the conceal gain is at unity outside STARVED, the frame produced before is shifted out, and in
STARVED a MISSING slot P counts towards the hole wait. While RESET is held each clock is answered with a silent frame
with SLC low, whatever the gain (R18); that the gains and the sample line go on being clocked there is the model's
choice (log 10, DESIGN CHOICE). P, f and the slots stay, unless that count brings the hole
wait to its end: then slot P is VOID and play goes on through it, the orders trimmed behind it (R73); that so
ends, too, a wait whose count stood at the limit before slot P became a hole is log 44's choice (DESIGN CHOICE). SLD carries
the frame being shifted out, the left word while SLF is high and the right word while it is low, most significant
bit first and 0 behind its 16 bits (R129). Which of several entries withdrawn at once stays in the record of
ORDER_WITHDRAWN is log 40's choice; ORDER_AVAILABLE tells of work that comes to wait (R62, log 15). -/
def Obligations.SilentFrameClock : Prop :=
  ∀ (s : State), s.power.powered = true → s.planner.scanDue = false →
    (s.engine.play = .stopped ∨ s.engine.play = .priming ∨ s.engine.play = .paused ∨ s.engine.play = .starved ∨
      s.engine.play = .halted) →
    let waits := s.engine.play = .starved ∧ (s.slot s.ring.p).isMissing = true
    let c := s.conceal
    let target := if c.left.inLong || c.right.inLong then 0 else 4096
    let down := if c.gcTarget ≠ target ∧ target = 0 then (4096 + s.params.rd - 1) / s.params.rd else c.gcDown
    let up := if c.gcTarget ≠ target ∧ target = 4096 then (4096 + s.params.ru - 1) / s.params.ru else c.gcUp
    let gc := toward c.gc target up down
    let limit := s.params.holeWait * s.rate.hz / 1000
    let released := !s.power.resetLine
    ((waits → s.engine.holeWait + 1 < limit) → exec .frameClock s = .next { s with
      engine := { s.engine with
        anticipate := false, holeWait := if waits then s.engine.holeWait + 1 else s.engine.holeWait }
      conceal := { c with
        gp := toward c.gp c.gpTarget c.gpStep c.gpStep, gc := gc, gcTarget := target, gcDown := down, gcUp := up }
      line := ⟨⟨0, 0, released && (gc < 4096 || s.engine.play == .starved)⟩, s.line.produced⟩
      power := { s.power with lastSlf := s.now } }) ∧
    (waits → limit ≤ s.engine.holeWait + 1 → s.ring.Law →
      ∃ t, exec .frameClock s = .next t ∧
        t.slot s.ring.p = .void s.ring.p ∧ t.engine.play = .playing ∧ t.engine.slotOpen = true ∧
        t.engine.f = s.engine.f ∧ t.engine.holeWait = 0 ∧ t.engine.stall = none ∧ t.conceal.gc = 0 ∧
        t.ring = { s.ring with slots := t.ring.slots } ∧
        (Counted s t fun c => if c = .slotsAbandoned then 1 else 0) ∧
        (∃ n, ⟨SEvent.slotAbandoned s.ring.p s.ring.p, n⟩ ∈ t.events.sSet) ∧
        (s.planner.Law → Trims s.ring.p true s t) ∧
        t.line = ⟨⟨0, 0, released⟩, s.line.produced⟩) ∧
    (s.power.resetLine = true →
      ∃ t, exec .frameClock s = .next t ∧ t.line = ⟨⟨0, 0, false⟩, s.line.produced⟩) ∧
    (∀ (t : State) (n k : Nat), exec .frameClock s = .next t → k < n →
      (t.sld true n)[k]? = some (decide (k < 16) && s.line.produced.left.getMsbD k) ∧
      (t.sld false n)[k]? = some (decide (k < 16) && s.line.produced.right.getMsbD k))

/-- FRAME_CLOCK inside a block, on clean words and flawed ones (R93, R98, R116 to R128, R130), the two words as
ChannelWordRules gives them: the conceal request is judged before the frame, the words of SHORT and LONG runs and the
LONG runs that begin are counted, CONCEAL_MUTE tells of a mute that begins (log 18 where one channel's LONG run
ends as the other's begins), a LONG run or the request sets the conceal target to 0, both gains step, the words go out
under them with SLC high for a concealed frame, and f rises. A ramp whose gain has come to 0 ends with this frame (R110):
in PAUSED, in STOPPED with the ring flushed and an ISSUED entry withdrawn (R76), or in HALTED with the resume entry stored
at the frame behind, SESSION_ENDED carrying it, and SESSION_CHANGED (R143); a pending load then makes the session
IDENTIFYING (R134), and an entry to HELD or SLEEPING that waited completes in the same event (R167). -/
def Obligations.PlayedFrameClock : Prop :=
  ∀ (s : State), s.power.powered = true → s.planner.scanDue = false → s.engine.f + 1 < s.frames →
    let x := played s
    let after : State := { s with
      engine := { s.engine with f := s.engine.f + 1, anticipate := x.anticipate }
      conceal := x.conceal
      line := ⟨x.frame, s.line.produced⟩
      power := { s.power with lastSlf := s.now } }
    let goesOn := ∃ t, exec .frameClock s = .next t ∧ t = { after with events := t.events } ∧
      (Sounds s t fun _ => 0) ∧ t.events.dSet = s.events.dSet ∧
      ∀ y ∈ t.events.sSet, y.ev.pos ≠ 5 → y.ev.pos ≠ 13 → y ∈ s.events.sSet
    (s.engine.play = .playing → goesOn) ∧
    (∀ dest, s.engine.play = .rampDown dest → x.conceal.gp ≠ 0 → goesOn) ∧
    (s.engine.play = .rampDown .paused → x.conceal.gp = 0 →
      ∃ t, exec .frameClock s = .next t ∧ (Sounds s t fun _ => 0) ∧
        t = { after with
          engine := { after.engine with play := .paused, anticipate := false }, events := t.events } ∧
        (∃ n, ⟨SEvent.playStateChanged .paused s.engine.intent, n⟩ ∈ t.events.sSet) ∧
        t.events.dSet = s.events.dSet) ∧
    (s.engine.play = .rampDown .stopped → x.conceal.gp = 0 →
      ∃ t, exec .frameClock s = .next t ∧ (Sounds s t fun _ => 0) ∧ t.engine.play = .stopped ∧ t.engine.f = 0 ∧
        t.engine.slotOpen = false ∧ t.conceal.gp = 0 ∧ t.conceal.gpTarget = 0 ∧
        t.ring = { s.ring with slots := [], e := s.ring.p, owner := s.session.fingerprint } ∧ t.planner.queue = [] ∧
        t.events.dSet = pauseTold s.pauseFlag true (emptiedTold s.planner.queue s.events.dSet) ∧
        (∃ n, ⟨SEvent.playStateChanged .stopped s.engine.intent, n⟩ ∈ t.events.sSet) ∧
        t.engine.intent = s.engine.intent ∧ t.session = s.session ∧ t.pauseFlag = true ∧ ProgramTold s t) ∧
    (∀ d fp, s.engine.play = .rampDown .leave → x.conceal.gp = 0 → s.session.directory = some d →
      s.session.fingerprint = some fp →
      ∃ t, exec .frameClock s = .next t ∧ (Sounds s t fun _ => 0) ∧ t.engine.play = .halted ∧
        t.engine.f = s.engine.f + 1 ∧ t.conceal = x.conceal ∧
        (t.session.table.map fun e => (e.fingerprint, e.address, e.frame)).head? =
          some (fp, s.ring.p, s.engine.f + 1) ∧
        (∃ n, ⟨SEvent.playStateChanged .halted s.engine.intent, n⟩ ∈ t.events.sSet) ∧
        (∃ n, ⟨SEvent.sessionEnded fp s.ring.p (s.engine.f + 1)
          (if s.engine.intent = .play then .playing else .paused), n⟩ ∈ t.events.sSet) ∧
        t.events.dSet = latch DEvent.pos .sessionChanged s.events.dSet ∧ LeaveEnds after t)

/-- FRAME_CLOCK on the last frame of slot P (R94, R13): the frame goes out as PlayedFrameClock has it; then slot P
becomes EMPTY, P rises, f is 0 and the orders are trimmed (R73).
In PLAYING (R95, R96, R99, R36) a playable slot behind it opens and play goes on; with none play is STARVED with its
fill-stall timer running, and with a hole wait of 0 a hole is given up at once and played through (R101). In RAMP_DOWN
(R94 steps 3 and 5, R110) the ramp goes on into a playable slot while its gain is above 0; otherwise it ends, the play
gain 0 (R126), in PAUSED, in STOPPED with the ring flushed to the new P, or in HALTED with the resume entry at (P, 0).
At T (R95) the disc ends: STOPPED with intent STOP and the ring flushed to T, or for a leave the resume entry at (T,
0) with no flush, the play gain 0 (R126) and the intent kept (log 19).
PAUSE_CHANGED tells of a flag that the lower fullness or STOPPED changes (R37), PROGRAM_CHANGED of a new program number,
which is not computed at T for a leave (R94).
SESSION_ENDED carries the entry that is stored, with SESSION_CHANGED (R143); a pending load then makes the session
IDENTIFYING (R134), and an entry that waited completes (R167). A flush withdraws an ISSUED entry that
the trim has left (R76). Which of several entries withdrawn at once stays in the record of ORDER_WITHDRAWN is log 40's
choice; ORDER_AVAILABLE tells of work that comes to wait (R62, log 15). -/
def Obligations.BlockBoundary : Prop :=
  ∀ (s : State), s.power.powered = true → s.planner.scanDue = false → s.ring.Law → s.planner.Law →
    s.engine.play.producing = true → s.engine.f + 1 = s.frames → (s.slot s.ring.p).playable = true →
    let x := played s
    let p := s.ring.p + 1
    let through := s.engine.play = .playing ∧ p ≠ s.t ∧ (s.slot p).isMissing = true ∧
      s.params.holeWait * s.rate.hz / 1000 = 0
    let goes := (s.slot p).playable || decide through
    let starves := s.engine.play = .playing ∧ p ≠ s.t ∧ (s.slot p).playable = false
    let silent := { x.conceal with gp := 0, gpTarget := if x.conceal.gp = 0 ∧ p ≠ s.t then x.conceal.gpTarget else 0 }
    ∃ t, exec .frameClock s = .next t ∧
      (Sounds s t fun c => if c = .starveEpisodes ∧ starves then 1
        else if c = .slotsAbandoned ∧ through then 1 else 0) ∧
      t.rates = s.rates ∧ t.params = s.params ∧ t.sPort = s.sPort ∧ t.dPort = s.dPort ∧
      t.now = s.now ∧ t.engine.f = 0 ∧ t.ring.p = p ∧ t.ring.straps = s.ring.straps ∧ t.planner.fails = s.planner.fails ∧
      (s.engine.play ≠ .rampDown .leave → t.session = s.session ∧ t.power = { s.power with lastSlf := s.now }) ∧
      FlagTold s t ∧ (p ≠ s.t ∨ s.engine.play ≠ .rampDown .leave → ProgramTold s t) ∧
      -- the window goes on: no flush
      ((s.engine.play = .playing → p ≠ s.t →
          t.conceal = (if through then gainsFromStarved s.params false x.conceal else x.conceal) ∧
          t.engine.intent = s.engine.intent ∧ Trims p goes s t ∧
          ((s.slot p).playable = true → t.engine.play = .playing ∧ t.engine.slotOpen = true ∧
            t.engine.holeWait = s.engine.holeWait ∧ t.engine.stall = s.engine.stall) ∧
          (through → t.engine.play = .playing ∧ t.engine.slotOpen = true ∧ t.engine.holeWait = 0 ∧
            t.engine.stall = none ∧ ∃ n, ⟨SEvent.slotAbandoned p p, n⟩ ∈ t.events.sSet) ∧
          (goes = false → t.engine.play = .starved ∧ t.engine.slotOpen = false ∧ t.engine.holeWait = 0 ∧
            ∃ k, t.engine.stall = some k ∧ k.since = s.now ∧ k.timeout = s.params.fillStallTimeout) ∧
          (starves → ∃ n, ⟨SEvent.starved p, n⟩ ∈ t.events.sSet)) ∧
       (s.engine.play ≠ .playing → x.conceal.gp ≠ 0 → (s.slot p).playable = true → p ≠ s.t →
          t.conceal = x.conceal ∧ t.engine.play = s.engine.play ∧ t.engine.intent = s.engine.intent ∧
          t.engine.slotOpen = true ∧ Trims p true s t) ∧
       (s.engine.play = .rampDown .paused → (x.conceal.gp = 0 ∨ (s.slot p).playable = false) → p ≠ s.t →
          t.conceal = silent ∧ t.engine.play = .paused ∧ t.engine.intent = s.engine.intent ∧
          t.engine.slotOpen = false ∧ Trims p false s t ∧
          ∃ n, ⟨SEvent.playStateChanged .paused s.engine.intent, n⟩ ∈ t.events.sSet)) ∧
      (p ≠ s.t → t.engine.play ≠ .stopped → t.engine.play ≠ .halted →
        t.ring.e = s.ring.e ∧ t.ring.owner = s.ring.owner ∧ t.slot s.ring.p = .empty ∧
        t.slot p = (if through then .void p else s.slot p) ∧
        (∀ a, p < a → a < s.ring.e → t.slot a = s.slot a) ∧
        t.engine.anticipate = false ∧
        t.intake = { s.intake with
          latch := s.intake.latch && decide (s.ring.len - s.params.releaseMargin < s.ring.e - p) }) ∧
      -- STOPPED: at T, or at the end of a ramp to it
      (s.engine.play ≠ .rampDown .leave → p = s.t ∨ s.engine.play = .rampDown .stopped ∧
          (x.conceal.gp = 0 ∨ (s.slot p).playable = false) →
        t.ring = { s.ring with slots := [], p := p, e := p, owner := s.session.fingerprint } ∧
        t.engine.play = .stopped ∧ t.engine.intent = (if p = s.t then .stop else s.engine.intent) ∧
        t.engine.slotOpen = false ∧ t.engine.stall = none ∧ t.engine.holeWait = 0 ∧
        t.conceal.gp = 0 ∧ t.conceal.gpTarget = 0 ∧ t.conceal.gc = x.conceal.gc ∧
        t.conceal.left = ⟨0, none⟩ ∧ t.conceal.right = ⟨0, none⟩ ∧
        t.intake.run = none ∧ t.planner.queue = [] ∧ t.planner.tagCounter = 0 ∧ t.pauseFlag = true ∧
        (s.pauseFlag = false → ∃ n, ⟨DEvent.pauseChanged true, n⟩ ∈ t.events.dSet) ∧
        (∀ o ∈ s.planner.queue, ∀ i g, o.issue = some i → o.behind p = some g →
          ∃ n, ⟨DEvent.orderWithdrawn i.tag g.first, n⟩ ∈ t.events.dSet) ∧
        (∃ n, ⟨SEvent.playStateChanged .stopped t.engine.intent, n⟩ ∈ t.events.sSet) ∧
        (p = s.t → ∃ n, ⟨SEvent.endOfDisc s.t, n⟩ ∈ t.events.sSet)) ∧
      -- the end of a leave
      (∀ d fp, s.engine.play = .rampDown .leave → p = s.t ∨ x.conceal.gp = 0 ∨ (s.slot p).playable = false →
        s.session.directory = some d → s.session.fingerprint = some fp →
        t.engine.play = .halted ∧ t.engine.intent = s.engine.intent ∧ t.engine.slotOpen = false ∧
        t.conceal = silent ∧ t.ring.e = s.ring.e ∧ t.ring.owner = s.ring.owner ∧
        LeaveEnds { s with
          ring := { s.ring with p := p, slots := s.ring.slots.filter fun y => y.1 != s.ring.p % s.ring.len }
          power := { s.power with lastSlf := s.now } } t ∧
        (t.session.table.map fun e => (e.fingerprint, e.address, e.frame, e.intent)).head? =
          some (fp, p, 0, if s.engine.intent = .play then .playing else .paused) ∧
        (∃ n, ⟨SEvent.playStateChanged .halted s.engine.intent, n⟩ ∈ t.events.sSet) ∧
        (∃ n, ⟨SEvent.sessionEnded fp p 0 (if s.engine.intent = .play then .playing else .paused), n⟩ ∈ t.events.sSet) ∧
        (∃ n, ⟨DEvent.sessionChanged, n⟩ ∈ t.events.dSet))

/-! ### Concealment -/

/-- One channel word (R116, R117, R119, R120, R122): a clean word plays as it is and is the new last clean value; a LONG run
holds the last clean value as long as words are flawed; a SHORT run steps from it to the clean word that ends it; a
flawed word with no run begins a SHORT run when the next clean word of the lookahead makes it at most Lmax long, and a
LONG one otherwise. -/
def Obligations.ChannelWordRules : Prop :=
  ∀ (s : State) (side : Side) (c : Channel),
    let x := (s.slot s.ring.p).wordAt (side.index s.engine.f)
    let shorts := fun (v b : Int) (n k : Nat) =>
      Nearest (v - c.a.toInt) ((b - c.a.toInt) * k) (n + 1) ∧ min c.a.toInt b ≤ v ∧ v ≤ max c.a.toInt b
    ((∀ n k b, c.run ≠ some (.short n k b)) → x.1 = false →
      channelWord s side c = (⟨x.2, none⟩, x.2.toInt, .clean)) ∧
    (∀ k, c.run = some (.long k) → x.1 = true →
      channelWord s side c = (⟨c.a, some (.long (k + 1))⟩, c.a.toInt, .long)) ∧
    (∀ n k b, c.run = some (.short n k b) → k < n →
      ∃ v, shorts v b.toInt n (k + 1) ∧
        channelWord s side c = (⟨c.a, if k + 1 = n then none else some (.short n (k + 1) b)⟩, v, .short)) ∧
    (c.run = none → x.1 = true → s.params.lmax ≤ 32 → s.engine.f < s.frames →
      let rest := s.frames - (s.engine.f + 1)
      let ahead := fun j => if j < rest then (s.slot s.ring.p).wordAt (side.index (s.engine.f + 1 + j))
        else (s.slot (s.ring.p + 1)).wordAt (side.index (j - rest))
      let reach := if (s.slot (s.ring.p + 1)).playable then rest + s.frames else rest
      (∀ n b, 1 ≤ n → n ≤ s.params.lmax → n ≤ reach → ahead (n - 1) = (false, b) →
        (∀ j, j < n - 1 → (ahead j).1 = true) →
        ∃ v, shorts v b.toInt n 1 ∧
          channelWord s side c = (⟨c.a, if n = 1 then none else some (.short n 1 b)⟩, v, .short)) ∧
      ((∀ j, j < s.params.lmax → j < reach → (ahead j).1 = true) →
        channelWord s side c = (⟨c.a, some (.long 1)⟩, c.a.toInt, .long)))

/-- The output word (R128): the sample times both gains over 2^24, rounded once to the nearest whole number with ties away
from zero. The product fits in 40 bits and the word is never out of range; at unity gains it is the sample, at a gain of
0 it is 0. -/
def Obligations.OutputWordRounds : Prop :=
  ∀ (sample : Int) (gp gc : Nat), -32768 ≤ sample → sample ≤ 32767 → gp ≤ 4096 → gc ≤ 4096 →
    let out := (outWord sample gp gc).toInt
    Nearest out (sample * gp * gc) 16777216 ∧ (sample * gp * gc).natAbs < 2 ^ 40 ∧
    (gp = 4096 → gc = 4096 → out = sample) ∧ (gp = 0 ∨ gc = 0 → out = 0)

/-! ### The stream -/

/-- A merge into a FLAWED slot (R52, R53, R55), position by position by R52's table; the flaw count falls by the positions
gained; no other slot and no bound of the ring moves; the slot is CLEAN once no mark is left, keeps its settled flag
otherwise, and is from REPAIR once a word was gained. Two copies leave the same map in either order, with the same word
at each position that exactly one of them holds clean. -/
def Obligations.MergeByTable : Prop :=
  ∀ (s : State) (a tag : Nat) (map : List Bool) (words : List Word) (source : Source) (settled : Bool) (b : Block),
    s.ring.Law → a < s.ring.e → s.ring.p ≤ a → s.slot a = .flawed tag map words source settled →
    words.length = map.length → b.words.length = map.length → b.marks.length = map.length →
    let t := writeBlock a b s
    let gained := ((List.range map.length).filter fun i => map.getD i false && !b.marks.getD i false).length
    (∀ i, i < map.length → (t.slot a).wordAt i =
      if map.getD i false = true ∧ b.marks.getD i false = false then (false, b.words.getD i 0)
      else (map.getD i false, words.getD i 0)) ∧
    (t.slot a).flawCount map.length + gained = markCount map ∧
    (t.slot a).tag = some tag ∧
    (gained = markCount map → ∃ w, t.slot a = .clean tag w (if 0 < gained then .repair else source)) ∧
    (gained < markCount map → ∃ m w, t.slot a = .flawed tag m w (if 0 < gained then .repair else source) settled) ∧
    (∀ x, s.ring.p ≤ x → x < s.ring.p + s.ring.len → x ≠ a → t.slot x = s.slot x) ∧
    t = { s with ring := { s.ring with slots := t.ring.slots } } ∧
    (∀ b' : Block, b'.words.length = map.length → b'.marks.length = map.length →
      let u := writeBlock a b' (writeBlock a b s)
      let v := writeBlock a b (writeBlock a b' s)
      (u.slot a).map map.length = (v.slot a).map map.length ∧
      ∀ i, i < map.length → (b.marks.getD i false ≠ b'.marks.getD i false ∨ map.getD i false = false) →
        (u.slot a).wordAt i = (v.slot a).wordAt i)

/-- STREAM_FRAME with a block that is accepted (R22, R29, R30, R33, R34, R35, R36, R43, R49, R51): a frame that
continues the run, its address its own or inferred from the run, or one that begins a run on a slot that holds no
block, where the run is UNVERIFIED and counted. The receiver holds no frame, or byte 0 of this one; another one ends
first as DiscardedFramesCount says (R20). At or beyond E the block is placed, the addresses passed over
become MISSING and E follows it; below E a MISSING or VOID slot takes it, as from REPAIR. What the planner, the
rate agreement unit and the engine make of it is said by `Arrives` (R71, R85, R100, R103), with PAUSE_CHANGED for a
latch that it sets (R37). Which of several entries withdrawn at once stays in the record of ORDER_WITHDRAWN is log 40's choice; ORDER_AVAILABLE tells of work
that comes to wait (R62, log 15). That a block which makes slot P a hole in STARVED, the hole-wait count already at its
limit, leaves the expiry to the next frame clock is log 44's choice. -/
def Obligations.AcceptedBlockIsWritten : Prop :=
  ∀ (bytes : List Byte) (s : State) (begins : Bool), s.InPlay → s.engine.play ≠ .stopped → s.ring.Law →
    s.planner.Law → s.planner.scanDue = false →
    (s.intake.rx.inFrame = true → s.intake.rx = ⟨.header, bytes.take 1, true⟩) →
    let h := readHeader bytes
    let a := if begins then h.address else (s.intake.run.map Run.last).getD 0 + 1
    let b := readBlock s.w ((bytes.drop 10).take h.length)
    h.crcGood = true → h.kind = 1 → h.length = s.rate.payloadBytes → bytes.length = 10 + h.length →
    (if begins then h.addressGood = true ∧
        (s.intake.run = none ∨ h.runStart = true ∨ ∃ r, s.intake.run = some r ∧ a ≠ r.last + 1)
      else h.runStart = false ∧ (h.addressGood = true → h.address = a) ∧
        ∃ r, s.intake.run = some r ∧ r.state ≠ .rejected) →
    s.ring.p ≤ a → (a = s.ring.p → s.engine.slotOpen = false) → a < s.ring.p + s.ring.len → a < s.t →
    (s.ring.e ≤ a ∨ (s.slot a).isMissing = true ∨ (s.slot a).isVoid = true) →
    let source := if s.ring.e ≤ a then Source.stream else .repair
    ∃ t, exec (.streamFrame true bytes) s = .next t ∧
      t.ring.p = s.ring.p ∧ t.ring.e = max s.ring.e (a + 1) ∧ t.ring.owner = s.ring.owner ∧
      t.ring.straps = s.ring.straps ∧
      t.slot a = (if markCount b.marks = 0 then .clean a b.words source
        else .flawed a b.marks b.words source false) ∧
      (∀ x, s.ring.p ≤ x → x < s.ring.e → x ≠ a → t.slot x = s.slot x) ∧
      (∀ x, s.ring.e ≤ x → x < a → t.slot x = .missing x) ∧
      t.intake.rx = ⟨.hunt, [], true⟩ ∧
      (if begins then t.intake.run = some ⟨.unverified, a, h.tag⟩
        else ∃ r, s.intake.run = some r ∧ t.intake.run = some { r with last := a }) ∧
      t.intake.latch = (s.intake.latch || decide (s.ring.e ≤ a ∧ s.ring.len - 8 ≤ a + 1 - s.ring.p)) ∧
      (Counted s t fun c =>
        if c = .blocksAccepted then 1
        else if c = .flawedWordsReceived then markCount b.marks
        else if c = .blocksImproved ∧ a < s.ring.e then 1
        else if c = .unverifiedRuns ∧ begins = true then 1 else 0) ∧
      Arrives a s t ∧
      t.line = s.line ∧ t.session = s.session ∧ t.power = s.power ∧ t.params = s.params ∧
      t.sPort = s.sPort ∧ t.dPort = s.dPort ∧ t.now = s.now

/-- Frames that leave no block (R20 to R24, R27 to R32, R43, R44, R46, R50). FRAME_CUT_SHORT concludes the frame in reception,
whatever the receiver holds of it, ends the run and begins a new frame with the marked byte; that it concludes one even
with no frame held is the model's choice (log 7). A STREAM_FRAME that finds another frame in reception first does what a
FRAME_CUT_SHORT with its byte 0 does; byte 0 alone in reception is its own, which a cut has left (log 7). Then: a header
whose check, kind or length is bad ends the run with its tenth byte and the rest, as much as there is, is skipped; RDY_B low at its SYN_B or now, and a directory whose length is not 5 + 3n, end the run;
AUDIO outside PRESENT and in STOPPED leaves the run. An address that cannot be known ends the run when run-start is set
and leaves NO_RUN otherwise; a frame that continues a REJECTED run, or one that is LATE or BEYOND, leaves the run with its
last address; a first frame that is LATE or BEYOND leaves NO_RUN, and one whose seam differs by more than the threshold
leaves a REJECTED run with SEAM_REJECT. Each counts one block discarded and the ring stays. A frame that is not
concluded stays in reception (log 7). -/
def Obligations.DiscardedFramesCount : Prop :=
  ∀ (s : State), s.power.powered = true → s.planner.scanDue = false →
    let left := fun (t : State) (rx : Receiver) (run : Option Run) =>
      t = { s with intake := { s.intake with rx := rx, run := run }, events := t.events }
    let discarded := fun (t : State) (rx : Receiver) (run : Option Run) => left t rx run ∧
      t.events.dSet = s.events.dSet ∧ Counted s t fun c => if c = .blocksDiscarded then 1 else 0
    let late := fun (a : Nat) => a < s.ring.p ∨ a = s.ring.p ∧ s.engine.slotOpen = true
    let beyond := fun (a : Nat) => s.ring.p + s.ring.len ≤ a ∨ s.t ≤ a
    (∀ (readyAtSyn : Bool) (byte : Byte), ∃ t, exec (.frameCutShort readyAtSyn byte) s = .next t ∧
      discarded t ⟨.header, [byte], readyAtSyn && s.rdyB⟩ none) ∧
    (∀ (readyAtSyn : Bool) (bytes : List Byte),
      let c := Instr.streamFrame readyAtSyn bytes
      let h := readHeader bytes
      let ready := readyAtSyn && s.rdyB && !(s.intake.rx.inFrame && !s.intake.rx.synReady)
      let hunt : Receiver := ⟨.hunt, [], true⟩
      let other := s.intake.rx.inFrame = true ∧ ¬ (s.intake.rx.stage = .header ∧ s.intake.rx.bytes = bytes.take 1)
      let good := h.crcGood = true ∧
        (h.kind = 1 ∧ (if s.session.state = .present then h.length = s.rate.payloadBytes
            else h.length = 1875 ∨ h.length = 2040) ∨
          h.kind = 2 ∧ 5 ≤ h.length ∧ h.length ≤ 770)
      (∀ byte0 rest, bytes = byte0 :: rest → other →
        ∃ u, exec (.frameCutShort readyAtSyn byte0) s = .next u ∧ exec c s = exec c u) ∧
      (¬ other →
        (bytes.length < 10 → exec c s = .next { s with intake := { s.intake with rx := ⟨.header, bytes, ready⟩ } }) ∧
        (10 ≤ bytes.length → ¬ good → ∃ t, exec c s = .next t ∧ discarded t ⟨.skip, [], true⟩ none) ∧
        (10 ≤ bytes.length → good → bytes.length < 10 + h.length →
          exec c s = .next { s with intake := { s.intake with rx := ⟨.payload, bytes, ready⟩ } }) ∧
        (10 + h.length ≤ bytes.length → good →
          (ready = false → ∃ t, exec c s = .next t ∧ discarded t hunt none) ∧
          (ready = true → h.kind = 2 → h.length ≠ 5 + 3 * (bytes.getD 11 0).toNat →
            ∃ t, exec c s = .next t ∧ discarded t hunt none) ∧
          (ready = true → h.kind = 1 → (s.session.state ≠ .present ∨ s.engine.play = .stopped) →
            ∃ t, exec c s = .next t ∧ discarded t hunt s.intake.run) ∧
          (ready = true → h.kind = 1 → s.session.state = .present → s.engine.play ≠ .stopped →
            (h.addressGood = false → (h.runStart = true ∨ s.intake.run = none) →
              ∃ t, exec c s = .next t ∧ discarded t hunt none) ∧
            (∀ r, s.intake.run = some r → h.runStart = false → (h.addressGood = true → h.address = r.last + 1) →
              (r.state = .rejected ∨ late (r.last + 1) ∨ beyond (r.last + 1)) →
              ∃ t, exec c s = .next t ∧ discarded t hunt (some { r with last := r.last + 1 })) ∧
            (h.addressGood = true →
              (s.intake.run = none ∨ h.runStart = true ∨ ∃ r, s.intake.run = some r ∧ h.address ≠ r.last + 1) →
              (late h.address ∨ beyond h.address → ∃ t, exec c s = .next t ∧ discarded t hunt none) ∧
              (¬ late h.address → ¬ beyond h.address → ∀ marks words,
                ((∃ tag source, s.slot h.address = .clean tag words source ∧ marks = List.replicate s.w false) ∨
                  ∃ tag source settled, s.slot h.address = .flawed tag marks words source settled) →
                words.length = s.w → marks.length = s.w →
                let b := readBlock s.w ((bytes.drop 10).take h.length)
                let d := ((List.range s.w).filter fun i => !marks.getD i false && !b.marks.getD i false &&
                  words.getD i 0 != b.words.getD i 0).length
                s.params.seamThreshold < d →
                ∃ t, exec c s = .next t ∧ left t hunt (some ⟨.rejected, h.address, h.tag⟩) ∧
                  t.events.dSet = latch DEvent.pos (.seamReject h.address h.tag d) s.events.dSet ∧
                  Counted s t fun c => if c = .blocksDiscarded ∨ c = .seamRejects then 1 else 0))))))

/-- A block that is accepted onto a held one (R30, R43, R44, R45, R49, R51, R52, R54). A run that begins there and
differs from the slot in no more than the threshold of positions where both are clean is VERIFIED and the block is
accepted; a frame that continues a run, its address its own or inferred, is accepted with no seam check and the
run keeps its state. The receiver holds no frame, or byte 0 of this one (DiscardedFramesCount else). A
CLEAN slot stays as it is, a FLAWED one is merged (MergeByTable). What the planner, the rate agreement unit and the
engine make of it is said by `Arrives`. Which of several entries withdrawn at once stays in the record of
ORDER_WITHDRAWN is log 40's choice; ORDER_AVAILABLE tells of work that comes to wait (R62, log 15). -/
def Obligations.SeamVerifiesRun : Prop :=
  ∀ (bytes : List Byte) (s : State) (begins : Bool), s.InPlay → s.engine.play ≠ .stopped → s.ring.Law →
    s.planner.Law → s.planner.scanDue = false →
    (s.intake.rx.inFrame = true → s.intake.rx = ⟨.header, bytes.take 1, true⟩) →
    let h := readHeader bytes
    let a := if begins then h.address else (s.intake.run.map Run.last).getD 0 + 1
    let b := readBlock s.w ((bytes.drop 10).take h.length)
    h.crcGood = true → h.kind = 1 → h.length = s.rate.payloadBytes → bytes.length = 10 + h.length →
    (if begins then h.addressGood = true ∧
        (s.intake.run = none ∨ h.runStart = true ∨ ∃ r, s.intake.run = some r ∧ a ≠ r.last + 1)
      else h.runStart = false ∧ (h.addressGood = true → h.address = a) ∧
        ∃ r, s.intake.run = some r ∧ r.state ≠ .rejected) →
    s.ring.p ≤ a → (a = s.ring.p → s.engine.slotOpen = false) → a < s.ring.p + s.ring.len → a < s.t →
    ∀ marks words,
      ((∃ source, s.slot a = .clean a words source ∧ marks = List.replicate s.w false) ∨
        ∃ source settled, s.slot a = .flawed a marks words source settled) →
      words.length = s.w → marks.length = s.w →
      (begins = true → ((List.range s.w).filter fun i => !marks.getD i false && !b.marks.getD i false &&
        words.getD i 0 != b.words.getD i 0).length ≤ s.params.seamThreshold) →
      ∃ t, exec (.streamFrame true bytes) s = .next t ∧
        (∀ source, s.slot a = .clean a words source → t.slot a = s.slot a) ∧
        t.ring = (writeBlock a b s).ring ∧ t.ring = { s.ring with slots := t.ring.slots } ∧
        (∃ run, t.intake = { s.intake with rx := ⟨.hunt, [], true⟩, run := some run } ∧
          if begins then run = ⟨.verified, a, h.tag⟩
          else ∃ r, s.intake.run = some r ∧ run = { r with last := a }) ∧
        (Counted s t fun c =>
          if c = .blocksAccepted then 1
          else if c = .flawedWordsReceived then markCount b.marks
          else if c = .blocksImproved ∧ (t.slot a).fromRepair = true ∧ (s.slot a).fromRepair = false then 1 else 0) ∧
        Arrives a s t ∧
        t.line = s.line ∧ t.session = s.session ∧ t.power = s.power ∧ t.params = s.params ∧
        t.sPort = s.sPort ∧ t.dPort = s.dPort ∧ t.now = s.now

/-- A disc directory (R26, R137 to R141, R112, R103, R95), the receiver holding no frame or byte 0 of this one
(DiscardedFramesCount else). Outside IDENTIFYING it changes nothing but the receiver. In
IDENTIFYING one that is not valid raises DIRECTORY_BAD with the first check of R137 that fails, and nothing else. A
valid one makes the session PRESENT under the directory and the CRC-32 of its payload; counters, failure count and
rates start afresh and SEEK_REQUESTED carries E. With no resume entry that matches (R141) the ring is flushed to the
first program's start: PRIMING with intent PLAY under auto-play, STOPPED without. With a match (R138, R140)
DISC_MATCHED carries the entry and its rank, and its learned cap is pending. WARM_START, when the ring is the disc's
own and stands at the entry's address: the ring is kept; PLAYING from a play gain of 0, or STARVED, or the end of the
disc at T, when play is intended under auto-resume; PAUSED otherwise. COLD_START: the ring is flushed to the address;
PRIMING, or PAUSED. ORDER_AVAILABLE tells of holes that a warm start finds (R62), PROGRAM_CHANGED of a new program
number (R96), PAUSE_CHANGED of a flag that the start changes (R37), and RATE_CHANGED with cause RESET, on both ports, of
rates reported above 1x (R88, R89). -/
def Obligations.DirectoryStartsSession : Prop :=
  ∀ (rate flags tag : Byte) (length : BitVec 24) (addresses : List (BitVec 24)) (address : List Byte) (s : State),
    let n := addresses.length
    let starts := addresses.map BitVec.toNat
    let payload := rate :: byteOf n :: (le24 length.toNat ++ starts.flatMap le24)
    let head := ([0x02, flags, tag] : List Byte) ++ address ++ le16 (5 + 3 * n)
    let bytes := head ++ [(crc16 head).extractLsb' 8 8, (crc16 head).extractLsb' 0 8] ++ payload
    let c := Instr.streamFrame true bytes
    let d : Directory := ⟨if rate = 0 then .r44100 else .r48000, length.toNat, starts⟩
    let fp := crc32 payload
    let hunt : Receiver := ⟨.hunt, [], true⟩
    let flaw : Option DirectoryFlaw :=
      if 1 < rate.toNat then some .rateCode
      else if n = 0 ∨ 99 < n then some .programCount
      else if d.t = 0 ∨ 1048576 < d.t then some .length
      else if ¬ starts.Pairwise (· < ·) then some .order
      else if ∃ x ∈ starts, d.t ≤ x then some .startRange
      else none
    address.length = 3 → n ≤ 255 → s.Ready → s.planner.scanDue = false →
    (s.intake.rx.inFrame = true → s.intake.rx = ⟨.header, bytes.take 1, true⟩) →
    (s.session.state ≠ .identifying → exec c s = .next { s with intake := { s.intake with rx := hunt } }) ∧
    (∀ reason, s.session.state = .identifying → flaw = some reason →
      ∃ t, exec c s = .next t ∧
        t = { s with intake := { s.intake with rx := hunt }, events := t.events } ∧
        t.events.sSet = latch SEvent.pos (.directoryBad reason) s.events.sSet ∧
        t.events.dSet = s.events.dSet ∧ t.events.counters = s.events.counters) ∧
    (s.session.state = .identifying → flaw = none → s.engine.play = .halted → 1 ≤ s.params.startDepth →
      s.session.TableLaw → s.planner.queue = [] →
      let raised := fun (t : State) (e : SEvent) => ∃ n, ⟨e, n⟩ ∈ t.events.sSet
      let begun := fun (t : State) (cap : Option Rate) =>
        t.session = { s.session with
          state := .present, directory := some d, fingerprint := some fp, identify := none } ∧
        t.rates = ⟨none, 0, cap⟩ ∧ t.planner.fails = 0 ∧ t.planner.scanDue = false ∧
        t.engine.anticipate = false ∧ t.conceal.left = ⟨0, none⟩ ∧ t.conceal.right = ⟨0, none⟩ ∧
        t.conceal.gcTarget = 4096 ∧ ProgramTold s t ∧ FlagTold s t ∧ RatesDropTold s t ∧
        (∃ n, ⟨DEvent.seekRequested t.ring.e, n⟩ ∈ t.events.dSet) ∧
        t.line = s.line ∧ t.power = s.power ∧ t.params = s.params ∧ t.sPort = s.sPort ∧ t.dPort = s.dPort ∧
        t.now = s.now
      let zeroed := fun (t : State) => t.events.counters = Vector.replicate 15 ⟨0, false⟩
      let flushed := fun (t : State) (a : Nat) =>
        t.ring = { s.ring with slots := [], p := a, e := a, owner := some fp } ∧
        t.planner.queue = [] ∧ t.planner.tagCounter = 0 ∧ t.intake = ⟨hunt, none, false⟩ ∧
        t.engine.slotOpen = false ∧ zeroed t
      let plays := fun (t : State) (play : Play) (intent : Intent) (f gp target : Nat) =>
        t.engine.play = play ∧ t.engine.intent = intent ∧ t.engine.f = f ∧
        t.conceal.gp = gp ∧ t.conceal.gpTarget = target ∧ raised t (.playStateChanged play intent)
      let waits := fun (t : State) =>
        ∃ k, t.engine.stall = some k ∧ k.since = s.now ∧ k.timeout = s.params.fillStallTimeout
      ((∀ e ∈ s.session.table, ¬ (e.fingerprint = fp ∧ e.programs = n ∧ e.t = d.t)) →
        ∃ t, exec c s = .next t ∧ begun t none ∧ flushed t (starts.headD 0) ∧ t.conceal.gc = 4096 ∧
          raised t (.discIdentified fp d.rate n d.t) ∧
          (s.params.autoPlay = true → plays t .priming .play 0 0 0 ∧ t.engine.program = 1 ∧ waits t) ∧
          (s.params.autoPlay = false → plays t .stopped .stop 0 0 0 ∧ t.engine.program = 1 ∧ t.pauseFlag = true)) ∧
      (∀ k e, s.session.table[k]? = some e → e.fingerprint = fp → e.programs = n → e.t = d.t →
        let p := s.ring.p
        let warm := s.ring.owner = some fp ∧ p = e.address
        let asked := s.params.autoResume = true ∧ e.intent = .playing
        let limit := s.params.holeWait * d.rate.hz / 1000
        let kept := fun (t : State) => t.ring = { s.ring with slots := t.ring.slots } ∧
          t.planner = { s.planner with queue := scanned t [], fails := 0 } ∧ WorkTold [] s t ∧
          t.intake = { s.intake with rx := hunt }
        ∃ t, exec c s = .next t ∧ begun t e.cap ∧ raised t (.discMatched (k + 1) e.address e.frame e.intent) ∧
          (warm → ¬ asked → kept t ∧ t.ring = s.ring ∧ plays t .paused .pause e.frame 0 0 ∧ t.conceal.gc = 4096 ∧
            zeroed t) ∧
          (warm → asked → p ≠ d.t → (s.slot p).playable = true →
            kept t ∧ t.ring = s.ring ∧ plays t .playing .play e.frame 0 4096 ∧ t.engine.slotOpen = true ∧
            t.conceal.gpStep = stepOf s.params.rp ∧ t.conceal.gc = 4096 ∧ zeroed t) ∧
          (warm → asked → p ≠ d.t → (s.slot p).playable = false → (0 < limit ∨ (s.slot p).isMissing = false) →
            kept t ∧ t.ring = s.ring ∧ plays t .starved .play e.frame 4096 4096 ∧ waits t ∧
            t.engine.slotOpen = s.engine.slotOpen ∧ t.engine.holeWait = 0 ∧ t.conceal.gc = 4096 ∧
            t.counter .starveEpisodes = 1 ∧ raised t (.starved p)) ∧
          (warm → asked → p ≠ d.t → (s.slot p).isMissing = true → limit = 0 → s.ring.Law →
            kept t ∧ t.slot p = .void p ∧ (∀ x, p < x → x < p + s.ring.len → t.slot x = s.slot x) ∧
            plays t .playing .play e.frame 4096 4096 ∧ t.engine.slotOpen = true ∧ t.conceal.gc = 0 ∧
            t.counter .starveEpisodes = 1 ∧ t.counter .slotsAbandoned = 1 ∧ raised t (.slotAbandoned p p)) ∧
          ((¬ warm → ¬ asked → flushed t e.address ∧ plays t .paused .pause e.frame 0 0 ∧ t.conceal.gc = 4096)) ∧
          (¬ warm → asked → e.address ≠ d.t →
            flushed t e.address ∧ plays t .priming .play e.frame 0 0 ∧ waits t ∧ t.conceal.gc = 4096) ∧
          (asked → e.address = d.t →
            flushed t d.t ∧ plays t .stopped .stop 0 0 0 ∧ raised t (.endOfDisc d.t))))

/-! ### Laws that every step keeps -/

/-- The laws of Safety.lean hold right after reset. -/
def Obligations.ResetKeepsLaws : Prop :=
  let s := State.reset
  s.ring.Law ∧ s.ring.MarkLaw ∧ s.planner.Law ∧ s.rates.Law s.params ∧ s.conceal.Law ∧ s.events.Law ∧
    s.session.TableLaw ∧ ParamLaw s.ring.len s.params ∧ s.ModeLaw ∧ s.planner.scanDue = false ∧
    s.FullLaw ∧ s.RegionLaw ∧ s.DiscLaw ∧ AlertLaw s

/-- The ring's laws (R3, R8, R9, R10): P ≤ E ≤ P + L, each slot holds an address of P..E−1 at its index, and E..P+L−1 is
EMPTY; with them every FLAWED slot has a mark (R5). No slot of P..E−1 is EMPTY outside SLEEPING (R9, R19), by the
law of the mode that every step keeps (StepKeepsModeLaw). E ≤ T while a
disc is in play, whose fingerprint then owns the ring (R8, R16), with what that needs of the Resume Table (DiscLaw). -/
def Obligations.StepKeepsRingLaw : Prop :=
  ∀ (s t : State), step s = .next t → s.ring.Law → t.ring.Law ∧ (s.ring.MarkLaw → t.ring.MarkLaw) ∧
    (s.ModeLaw → s.FullLaw → t.FullLaw) ∧ (s.ModeLaw → s.FullLaw → s.DiscLaw → t.DiscLaw)

/-- The Order Queue's laws (R56, R60, R65): at most 16 entries of 1 to 64 addresses, ascending and disjoint, at most one
ISSUED, its tag in 1..255; and no scan is left over from a step (R59). Every address of an entry lies in the repair
region, from the lowest placeable address to E − 1, and the queue is empty outside PRESENT (R58, R76). -/
def Obligations.StepKeepsPlannerLaw : Prop :=
  ∀ (s t : State), step s = .next t → s.planner.scanDue = false → s.planner.Law →
    t.planner.Law ∧ t.planner.scanDue = false ∧ (s.ModeLaw → s.ring.Law → s.RegionLaw → t.RegionLaw)

/-- The rates' laws (R79, R80, R83): both rates are of the offer, the requested one at or below the agreed one, that one at
or below the ceiling in force; outside LIMITED the progress is 0. -/
def Obligations.StepKeepsRatesLaw : Prop :=
  ∀ (s t : State), step s = .next t → s.rates.Law s.params → t.rates.Law t.params

/-- Every parameter stays in its range, for the L in force (R2, R154). -/
def Obligations.StepKeepsParamLaw : Prop :=
  ∀ (s t : State), step s = .next t → ParamLaw s.ring.len s.params → ParamLaw t.ring.len t.params

/-- The mode, the session, the play state, an entry and a ring clear stay together as R17, R111, R112, R132, R142, R153 and
R166 have them. -/
def Obligations.StepKeepsModeLaw : Prop :=
  ∀ (s t : State), step s = .next t → s.ModeLaw → t.ModeLaw

/-- Bounds that every step keeps: gains of 0..4096 with targets at an end (R115), event sets in position order with counts of
1..255 and counters of at most 16,777,215 (R159, R162), at most 6 resume entries, no two of one disc (R144), and no
counter at or above the alert threshold without its alerted flag (R163). -/
def Obligations.StepKeepsBounds : Prop :=
  ∀ (s t : State), step s = .next t →
    (s.conceal.Law → t.conceal.Law) ∧ (s.events.Law → t.events.Law) ∧ (s.session.TableLaw → t.session.TableLaw) ∧
    (1 ≤ s.params.alertThreshold → AlertLaw s → AlertLaw t)

/-- L is the straps' value as the last ring clear read it (R1, R17): a step that changes it starts a ring clear, with every
slot EMPTY, E = P, no owner and BUSY shown. Of the queue of commands, which is the model's own (log 1), a step takes the
front one and leaves the rest as it is. -/
def Obligations.StrapsReadAtClearOnly : Prop :=
  ∀ (s t : State), step s = .next t →
    (t.ring.straps ≠ s.ring.straps →
      t.ring.clear = some ⟨t.now⟩ ∧ t.ring.slots = [] ∧ t.ring.e = t.ring.p ∧ t.ring.owner = none ∧ t.busy = true) ∧
    t.pending = s.pending.tail
end

