-- ==== Sys2Proof/Laws/State.lean ====
section
/-! SUPPORT. What the small operations leave alone, field by field, as simp lemmas. -/

namespace Sys2Proof.Machine

/-! ### The timebase, events, counters (Ops.lean) -/

@[simp] theorem elapseTo_frame (t : Nat) (s : State) :
    (elapseTo t s).ring = s.ring ∧ (elapseTo t s).intake = s.intake ∧ (elapseTo t s).planner = s.planner ∧
    (elapseTo t s).rates = s.rates ∧ (elapseTo t s).engine = s.engine ∧ (elapseTo t s).conceal = s.conceal ∧
    (elapseTo t s).line = s.line ∧ (elapseTo t s).session = s.session ∧ (elapseTo t s).sPort = s.sPort ∧
    (elapseTo t s).dPort = s.dPort ∧ (elapseTo t s).events = s.events ∧ (elapseTo t s).power = s.power ∧
    (elapseTo t s).params = s.params ∧ (elapseTo t s).pending = s.pending :=
  ⟨rfl, rfl, rfl, rfl, rfl, rfl, rfl, rfl, rfl, rfl, rfl, rfl, rfl, rfl⟩

@[simp] theorem raiseS_frame (e : SEvent) (s : State) :
    (raiseS e s).ring = s.ring ∧ (raiseS e s).intake = s.intake ∧ (raiseS e s).planner = s.planner ∧
    (raiseS e s).rates = s.rates ∧ (raiseS e s).engine = s.engine ∧ (raiseS e s).conceal = s.conceal ∧
    (raiseS e s).line = s.line ∧ (raiseS e s).session = s.session ∧ (raiseS e s).sPort = s.sPort ∧
    (raiseS e s).dPort = s.dPort ∧ (raiseS e s).power = s.power ∧ (raiseS e s).params = s.params ∧
    (raiseS e s).now = s.now ∧ (raiseS e s).pending = s.pending :=
  ⟨rfl, rfl, rfl, rfl, rfl, rfl, rfl, rfl, rfl, rfl, rfl, rfl, rfl, rfl⟩

@[simp] theorem raiseD_frame (e : DEvent) (s : State) :
    (raiseD e s).ring = s.ring ∧ (raiseD e s).intake = s.intake ∧ (raiseD e s).planner = s.planner ∧
    (raiseD e s).rates = s.rates ∧ (raiseD e s).engine = s.engine ∧ (raiseD e s).conceal = s.conceal ∧
    (raiseD e s).line = s.line ∧ (raiseD e s).session = s.session ∧ (raiseD e s).sPort = s.sPort ∧
    (raiseD e s).dPort = s.dPort ∧ (raiseD e s).power = s.power ∧ (raiseD e s).params = s.params ∧
    (raiseD e s).now = s.now ∧ (raiseD e s).pending = s.pending :=
  ⟨rfl, rfl, rfl, rfl, rfl, rfl, rfl, rfl, rfl, rfl, rfl, rfl, rfl, rfl⟩

@[simp] theorem clearCounters_frame (s : State) :
    (clearCounters s).ring = s.ring ∧ (clearCounters s).intake = s.intake ∧
    (clearCounters s).planner = s.planner ∧ (clearCounters s).rates = s.rates ∧
    (clearCounters s).engine = s.engine ∧ (clearCounters s).conceal = s.conceal ∧
    (clearCounters s).line = s.line ∧ (clearCounters s).session = s.session ∧
    (clearCounters s).sPort = s.sPort ∧ (clearCounters s).dPort = s.dPort ∧ (clearCounters s).power = s.power ∧
    (clearCounters s).params = s.params ∧ (clearCounters s).now = s.now ∧ (clearCounters s).pending = s.pending :=
  ⟨rfl, rfl, rfl, rfl, rfl, rfl, rfl, rfl, rfl, rfl, rfl, rfl, rfl, rfl⟩

@[simp] theorem rise_frame (c : CounterId) (n : Nat) (s : State) :
    (rise c n s).ring = s.ring ∧ (rise c n s).intake = s.intake ∧ (rise c n s).planner = s.planner ∧
    (rise c n s).rates = s.rates ∧ (rise c n s).engine = s.engine ∧ (rise c n s).conceal = s.conceal ∧
    (rise c n s).line = s.line ∧ (rise c n s).session = s.session ∧ (rise c n s).sPort = s.sPort ∧
    (rise c n s).dPort = s.dPort ∧ (rise c n s).power = s.power ∧ (rise c n s).params = s.params ∧
    (rise c n s).now = s.now ∧ (rise c n s).pending = s.pending := by
  unfold rise; split <;> [simp; (dsimp only; split <;> simp)]

@[simp] theorem discardFrame_frame (s : State) :
    (discardFrame s).ring = s.ring ∧ (discardFrame s).intake = s.intake ∧
    (discardFrame s).planner = s.planner ∧ (discardFrame s).rates = s.rates ∧
    (discardFrame s).engine = s.engine ∧ (discardFrame s).conceal = s.conceal ∧
    (discardFrame s).line = s.line ∧ (discardFrame s).session = s.session ∧ (discardFrame s).sPort = s.sPort ∧
    (discardFrame s).dPort = s.dPort ∧ (discardFrame s).power = s.power ∧ (discardFrame s).params = s.params ∧
    (discardFrame s).now = s.now ∧ (discardFrame s).pending = s.pending := by unfold discardFrame; simp

/-! ### Ports -/

@[simp] theorem setPort_frame (port : Port) (p : PortState) (s : State) :
    (setPort port p s).ring = s.ring ∧ (setPort port p s).intake = s.intake ∧
    (setPort port p s).planner = s.planner ∧ (setPort port p s).rates = s.rates ∧
    (setPort port p s).engine = s.engine ∧ (setPort port p s).conceal = s.conceal ∧
    (setPort port p s).line = s.line ∧ (setPort port p s).session = s.session ∧
    (setPort port p s).events = s.events ∧ (setPort port p s).power = s.power ∧
    (setPort port p s).params = s.params ∧ (setPort port p s).now = s.now ∧
    (setPort port p s).pending = s.pending := by cases port <;> simp [setPort]

@[simp] theorem respond_frame (port : Port) (code : RespCode) (data : List Byte) (s : State) :
    (respond port code data s).ring = s.ring ∧ (respond port code data s).intake = s.intake ∧
    (respond port code data s).planner = s.planner ∧ (respond port code data s).rates = s.rates ∧
    (respond port code data s).engine = s.engine ∧ (respond port code data s).conceal = s.conceal ∧
    (respond port code data s).line = s.line ∧ (respond port code data s).session = s.session ∧
    (respond port code data s).events = s.events ∧ (respond port code data s).power = s.power ∧
    (respond port code data s).params = s.params ∧ (respond port code data s).now = s.now ∧
    (respond port code data s).pending = s.pending := by unfold respond; simp

@[simp] theorem refuse_frame (port : Port) (code : RespCode) (s : State) :
    (refuse port code s).ring = s.ring ∧ (refuse port code s).intake = s.intake ∧
    (refuse port code s).planner = s.planner ∧ (refuse port code s).rates = s.rates ∧
    (refuse port code s).engine = s.engine ∧ (refuse port code s).conceal = s.conceal ∧
    (refuse port code s).line = s.line ∧ (refuse port code s).session = s.session ∧
    (refuse port code s).events = s.events ∧ (refuse port code s).power = s.power ∧
    (refuse port code s).params = s.params ∧ (refuse port code s).now = s.now ∧
    (refuse port code s).pending = s.pending := by unfold refuse; simp

@[simp] theorem respondOk_frame (port : Port) (data : List Byte) (s : State) :
    (respondOk port data s).ring = s.ring ∧ (respondOk port data s).intake = s.intake ∧
    (respondOk port data s).planner = s.planner ∧ (respondOk port data s).rates = s.rates ∧
    (respondOk port data s).engine = s.engine ∧ (respondOk port data s).conceal = s.conceal ∧
    (respondOk port data s).line = s.line ∧ (respondOk port data s).session = s.session ∧
    (respondOk port data s).events = s.events ∧ (respondOk port data s).power = s.power ∧
    (respondOk port data s).params = s.params ∧ (respondOk port data s).now = s.now ∧
    (respondOk port data s).pending = s.pending := by unfold respondOk; simp

@[simp] theorem sendStatus_frame (port : Port) (more : Nat) (s : State) :
    (sendStatus port more s).ring = s.ring ∧ (sendStatus port more s).intake = s.intake ∧
    (sendStatus port more s).planner = s.planner ∧ (sendStatus port more s).rates = s.rates ∧
    (sendStatus port more s).engine = s.engine ∧ (sendStatus port more s).conceal = s.conceal ∧
    (sendStatus port more s).line = s.line ∧ (sendStatus port more s).session = s.session ∧
    (sendStatus port more s).events = s.events ∧ (sendStatus port more s).power = s.power ∧
    (sendStatus port more s).params = s.params ∧ (sendStatus port more s).now = s.now ∧
    (sendStatus port more s).pending = s.pending := by unfold sendStatus; simp

/-! ### The gains and the runs -/

@[simp] theorem setPlayTarget_frame (target : Nat) (s : State) :
    (setPlayTarget target s).ring = s.ring ∧ (setPlayTarget target s).intake = s.intake ∧
    (setPlayTarget target s).planner = s.planner ∧ (setPlayTarget target s).rates = s.rates ∧
    (setPlayTarget target s).engine = s.engine ∧ (setPlayTarget target s).line = s.line ∧
    (setPlayTarget target s).session = s.session ∧ (setPlayTarget target s).sPort = s.sPort ∧
    (setPlayTarget target s).dPort = s.dPort ∧ (setPlayTarget target s).events = s.events ∧
    (setPlayTarget target s).power = s.power ∧ (setPlayTarget target s).params = s.params ∧
    (setPlayTarget target s).now = s.now ∧ (setPlayTarget target s).pending = s.pending := by
  unfold setPlayTarget; dsimp only; (repeat' split) <;> simp

@[simp] theorem setPlayGain_frame (gain target : Nat) (s : State) :
    (setPlayGain gain target s).ring = s.ring ∧ (setPlayGain gain target s).intake = s.intake ∧
    (setPlayGain gain target s).planner = s.planner ∧ (setPlayGain gain target s).rates = s.rates ∧
    (setPlayGain gain target s).engine = s.engine ∧ (setPlayGain gain target s).line = s.line ∧
    (setPlayGain gain target s).session = s.session ∧ (setPlayGain gain target s).sPort = s.sPort ∧
    (setPlayGain gain target s).dPort = s.dPort ∧ (setPlayGain gain target s).events = s.events ∧
    (setPlayGain gain target s).power = s.power ∧ (setPlayGain gain target s).params = s.params ∧
    (setPlayGain gain target s).now = s.now ∧ (setPlayGain gain target s).pending = s.pending :=
  ⟨rfl, rfl, rfl, rfl, rfl, rfl, rfl, rfl, rfl, rfl, rfl, rfl, rfl, rfl⟩

@[simp] theorem takeConcealTarget_frame (target : Nat) (s : State) :
    (takeConcealTarget target s).ring = s.ring ∧ (takeConcealTarget target s).intake = s.intake ∧
    (takeConcealTarget target s).planner = s.planner ∧ (takeConcealTarget target s).rates = s.rates ∧
    (takeConcealTarget target s).engine = s.engine ∧ (takeConcealTarget target s).line = s.line ∧
    (takeConcealTarget target s).session = s.session ∧ (takeConcealTarget target s).sPort = s.sPort ∧
    (takeConcealTarget target s).dPort = s.dPort ∧ (takeConcealTarget target s).events = s.events ∧
    (takeConcealTarget target s).power = s.power ∧ (takeConcealTarget target s).params = s.params ∧
    (takeConcealTarget target s).now = s.now ∧ (takeConcealTarget target s).pending = s.pending := by
  unfold takeConcealTarget; dsimp only; (repeat' split) <;> simp

@[simp] theorem setConcealGain_frame (gain : Nat) (s : State) :
    (setConcealGain gain s).ring = s.ring ∧ (setConcealGain gain s).intake = s.intake ∧
    (setConcealGain gain s).planner = s.planner ∧ (setConcealGain gain s).rates = s.rates ∧
    (setConcealGain gain s).engine = s.engine ∧ (setConcealGain gain s).line = s.line ∧
    (setConcealGain gain s).session = s.session ∧ (setConcealGain gain s).sPort = s.sPort ∧
    (setConcealGain gain s).dPort = s.dPort ∧ (setConcealGain gain s).events = s.events ∧
    (setConcealGain gain s).power = s.power ∧ (setConcealGain gain s).params = s.params ∧
    (setConcealGain gain s).now = s.now ∧ (setConcealGain gain s).pending = s.pending :=
  ⟨rfl, rfl, rfl, rfl, rfl, rfl, rfl, rfl, rfl, rfl, rfl, rfl, rfl, rfl⟩

@[simp] theorem stepGains_frame (s : State) :
    (stepGains s).ring = s.ring ∧ (stepGains s).intake = s.intake ∧ (stepGains s).planner = s.planner ∧
    (stepGains s).rates = s.rates ∧ (stepGains s).engine = s.engine ∧ (stepGains s).line = s.line ∧
    (stepGains s).session = s.session ∧ (stepGains s).sPort = s.sPort ∧ (stepGains s).dPort = s.dPort ∧
    (stepGains s).events = s.events ∧ (stepGains s).power = s.power ∧ (stepGains s).params = s.params ∧
    (stepGains s).now = s.now ∧ (stepGains s).pending = s.pending := by unfold stepGains; simp

@[simp] theorem dropRuns_frame (s : State) :
    (dropRuns s).ring = s.ring ∧ (dropRuns s).intake = s.intake ∧ (dropRuns s).planner = s.planner ∧
    (dropRuns s).rates = s.rates ∧ (dropRuns s).engine = s.engine ∧ (dropRuns s).line = s.line ∧
    (dropRuns s).session = s.session ∧ (dropRuns s).sPort = s.sPort ∧ (dropRuns s).dPort = s.dPort ∧
    (dropRuns s).events = s.events ∧ (dropRuns s).power = s.power ∧ (dropRuns s).params = s.params ∧
    (dropRuns s).now = s.now ∧ (dropRuns s).pending = s.pending :=
  ⟨rfl, rfl, rfl, rfl, rfl, rfl, rfl, rfl, rfl, rfl, rfl, rfl, rfl, rfl⟩

/-! ### The rates -/

@[simp] theorem setRates_frame (cause : RateCause) (new : Rates) (s : State) :
    (setRates cause new s).ring = s.ring ∧ (setRates cause new s).intake = s.intake ∧
    (setRates cause new s).planner = s.planner ∧ (setRates cause new s).engine = s.engine ∧
    (setRates cause new s).conceal = s.conceal ∧ (setRates cause new s).line = s.line ∧
    (setRates cause new s).session = s.session ∧ (setRates cause new s).sPort = s.sPort ∧
    (setRates cause new s).dPort = s.dPort ∧ (setRates cause new s).power = s.power ∧
    (setRates cause new s).params = s.params ∧ (setRates cause new s).now = s.now ∧
    (setRates cause new s).pending = s.pending := by unfold setRates; dsimp only; split <;> simp

@[simp] theorem takeOffer_frame (offer : Offer) (s : State) :
    (takeOffer offer s).ring = s.ring ∧ (takeOffer offer s).intake = s.intake ∧
    (takeOffer offer s).planner = s.planner ∧ (takeOffer offer s).engine = s.engine ∧
    (takeOffer offer s).conceal = s.conceal ∧ (takeOffer offer s).line = s.line ∧
    (takeOffer offer s).session = s.session ∧ (takeOffer offer s).sPort = s.sPort ∧
    (takeOffer offer s).dPort = s.dPort ∧ (takeOffer offer s).power = s.power ∧
    (takeOffer offer s).params = s.params ∧ (takeOffer offer s).now = s.now ∧
    (takeOffer offer s).pending = s.pending := by unfold takeOffer; simp

@[simp] theorem applyCeiling_frame (s : State) :
    (applyCeiling s).ring = s.ring ∧ (applyCeiling s).intake = s.intake ∧
    (applyCeiling s).planner = s.planner ∧ (applyCeiling s).engine = s.engine ∧
    (applyCeiling s).conceal = s.conceal ∧ (applyCeiling s).line = s.line ∧
    (applyCeiling s).session = s.session ∧ (applyCeiling s).sPort = s.sPort ∧
    (applyCeiling s).dPort = s.dPort ∧ (applyCeiling s).power = s.power ∧ (applyCeiling s).params = s.params ∧
    (applyCeiling s).now = s.now ∧ (applyCeiling s).pending = s.pending := by
  unfold applyCeiling; dsimp only; (repeat' split) <;> simp

@[simp] theorem rateStepDown_frame (s : State) :
    (rateStepDown s).ring = s.ring ∧ (rateStepDown s).intake = s.intake ∧
    (rateStepDown s).planner = s.planner ∧ (rateStepDown s).engine = s.engine ∧
    (rateStepDown s).conceal = s.conceal ∧ (rateStepDown s).line = s.line ∧
    (rateStepDown s).session = s.session ∧ (rateStepDown s).sPort = s.sPort ∧
    (rateStepDown s).dPort = s.dPort ∧ (rateStepDown s).power = s.power ∧ (rateStepDown s).params = s.params ∧
    (rateStepDown s).now = s.now ∧ (rateStepDown s).pending = s.pending := by
  unfold rateStepDown; (repeat' split) <;> simp

@[simp] theorem rateStepUp_frame (s : State) :
    (rateStepUp s).ring = s.ring ∧ (rateStepUp s).intake = s.intake ∧ (rateStepUp s).planner = s.planner ∧
    (rateStepUp s).engine = s.engine ∧ (rateStepUp s).conceal = s.conceal ∧ (rateStepUp s).line = s.line ∧
    (rateStepUp s).session = s.session ∧ (rateStepUp s).sPort = s.sPort ∧ (rateStepUp s).dPort = s.dPort ∧
    (rateStepUp s).power = s.power ∧ (rateStepUp s).params = s.params ∧ (rateStepUp s).now = s.now ∧
    (rateStepUp s).pending = s.pending := by unfold rateStepUp; dsimp only; (repeat' split) <;> simp

@[simp] theorem judgeUpgrade_frame (s : State) :
    (judgeUpgrade s).ring = s.ring ∧ (judgeUpgrade s).intake = s.intake ∧
    (judgeUpgrade s).planner = s.planner ∧ (judgeUpgrade s).engine = s.engine ∧
    (judgeUpgrade s).conceal = s.conceal ∧ (judgeUpgrade s).line = s.line ∧
    (judgeUpgrade s).session = s.session ∧ (judgeUpgrade s).sPort = s.sPort ∧
    (judgeUpgrade s).dPort = s.dPort ∧ (judgeUpgrade s).power = s.power ∧ (judgeUpgrade s).params = s.params ∧
    (judgeUpgrade s).now = s.now ∧ (judgeUpgrade s).pending = s.pending := by
  unfold judgeUpgrade; (repeat' split) <;> simp

@[simp] theorem countUpgrade_frame (s : State) :
    (countUpgrade s).ring = s.ring ∧ (countUpgrade s).intake = s.intake ∧
    (countUpgrade s).planner = s.planner ∧ (countUpgrade s).engine = s.engine ∧
    (countUpgrade s).conceal = s.conceal ∧ (countUpgrade s).line = s.line ∧
    (countUpgrade s).session = s.session ∧ (countUpgrade s).sPort = s.sPort ∧
    (countUpgrade s).dPort = s.dPort ∧ (countUpgrade s).power = s.power ∧ (countUpgrade s).params = s.params ∧
    (countUpgrade s).now = s.now ∧ (countUpgrade s).pending = s.pending := by
  unfold countUpgrade; dsimp only; (repeat' split) <;> simp

@[simp] theorem ratesToNone_frame (cap : Option Rate) (s : State) :
    (ratesToNone cap s).ring = s.ring ∧ (ratesToNone cap s).intake = s.intake ∧
    (ratesToNone cap s).planner = s.planner ∧ (ratesToNone cap s).engine = s.engine ∧
    (ratesToNone cap s).conceal = s.conceal ∧ (ratesToNone cap s).line = s.line ∧
    (ratesToNone cap s).session = s.session ∧ (ratesToNone cap s).sPort = s.sPort ∧
    (ratesToNone cap s).dPort = s.dPort ∧ (ratesToNone cap s).power = s.power ∧
    (ratesToNone cap s).params = s.params ∧ (ratesToNone cap s).now = s.now ∧
    (ratesToNone cap s).pending = s.pending := by unfold ratesToNone; simp

/-! ### The planner -/

@[simp] theorem setQueue_frame (q : List Order) (s : State) :
    (setQueue q s).ring = s.ring ∧ (setQueue q s).intake = s.intake ∧ (setQueue q s).rates = s.rates ∧
    (setQueue q s).engine = s.engine ∧ (setQueue q s).conceal = s.conceal ∧ (setQueue q s).line = s.line ∧
    (setQueue q s).session = s.session ∧ (setQueue q s).sPort = s.sPort ∧ (setQueue q s).dPort = s.dPort ∧
    (setQueue q s).events = s.events ∧ (setQueue q s).power = s.power ∧ (setQueue q s).params = s.params ∧
    (setQueue q s).now = s.now ∧ (setQueue q s).pending = s.pending :=
  ⟨rfl, rfl, rfl, rfl, rfl, rfl, rfl, rfl, rfl, rfl, rfl, rfl, rfl, rfl⟩

@[simp] theorem dueScan_frame (s : State) :
    (dueScan s).ring = s.ring ∧ (dueScan s).intake = s.intake ∧ (dueScan s).rates = s.rates ∧
    (dueScan s).engine = s.engine ∧ (dueScan s).conceal = s.conceal ∧ (dueScan s).line = s.line ∧
    (dueScan s).session = s.session ∧ (dueScan s).sPort = s.sPort ∧ (dueScan s).dPort = s.dPort ∧
    (dueScan s).events = s.events ∧ (dueScan s).power = s.power ∧ (dueScan s).params = s.params ∧
    (dueScan s).now = s.now ∧ (dueScan s).pending = s.pending :=
  ⟨rfl, rfl, rfl, rfl, rfl, rfl, rfl, rfl, rfl, rfl, rfl, rfl, rfl, rfl⟩

@[simp] theorem removeOrder_frame (first : Nat) (s : State) :
    (removeOrder first s).ring = s.ring ∧ (removeOrder first s).intake = s.intake ∧
    (removeOrder first s).rates = s.rates ∧ (removeOrder first s).engine = s.engine ∧
    (removeOrder first s).conceal = s.conceal ∧ (removeOrder first s).line = s.line ∧
    (removeOrder first s).session = s.session ∧ (removeOrder first s).sPort = s.sPort ∧
    (removeOrder first s).dPort = s.dPort ∧ (removeOrder first s).events = s.events ∧
    (removeOrder first s).power = s.power ∧ (removeOrder first s).params = s.params ∧
    (removeOrder first s).now = s.now ∧ (removeOrder first s).pending = s.pending :=
  ⟨rfl, rfl, rfl, rfl, rfl, rfl, rfl, rfl, rfl, rfl, rfl, rfl, rfl, rfl⟩

@[simp] theorem replaceOrder_frame (first : Nat) (new : Order) (s : State) :
    (replaceOrder first new s).ring = s.ring ∧ (replaceOrder first new s).intake = s.intake ∧
    (replaceOrder first new s).rates = s.rates ∧ (replaceOrder first new s).engine = s.engine ∧
    (replaceOrder first new s).conceal = s.conceal ∧ (replaceOrder first new s).line = s.line ∧
    (replaceOrder first new s).session = s.session ∧ (replaceOrder first new s).sPort = s.sPort ∧
    (replaceOrder first new s).dPort = s.dPort ∧ (replaceOrder first new s).events = s.events ∧
    (replaceOrder first new s).power = s.power ∧ (replaceOrder first new s).params = s.params ∧
    (replaceOrder first new s).now = s.now ∧ (replaceOrder first new s).pending = s.pending :=
  ⟨rfl, rfl, rfl, rfl, rfl, rfl, rfl, rfl, rfl, rfl, rfl, rfl, rfl, rfl⟩

@[simp] theorem setFails_frame (n : Nat) (s : State) :
    (setFails n s).ring = s.ring ∧ (setFails n s).intake = s.intake ∧ (setFails n s).rates = s.rates ∧
    (setFails n s).engine = s.engine ∧ (setFails n s).conceal = s.conceal ∧ (setFails n s).line = s.line ∧
    (setFails n s).session = s.session ∧ (setFails n s).sPort = s.sPort ∧ (setFails n s).dPort = s.dPort ∧
    (setFails n s).events = s.events ∧ (setFails n s).power = s.power ∧ (setFails n s).params = s.params ∧
    (setFails n s).now = s.now ∧ (setFails n s).pending = s.pending :=
  ⟨rfl, rfl, rfl, rfl, rfl, rfl, rfl, rfl, rfl, rfl, rfl, rfl, rfl, rfl⟩

@[simp] theorem judgeFails_frame (s : State) :
    (judgeFails s).ring = s.ring ∧ (judgeFails s).intake = s.intake ∧ (judgeFails s).engine = s.engine ∧
    (judgeFails s).conceal = s.conceal ∧ (judgeFails s).line = s.line ∧ (judgeFails s).session = s.session ∧
    (judgeFails s).sPort = s.sPort ∧ (judgeFails s).dPort = s.dPort ∧ (judgeFails s).power = s.power ∧
    (judgeFails s).params = s.params ∧ (judgeFails s).now = s.now ∧ (judgeFails s).pending = s.pending := by
  unfold judgeFails; (repeat' split) <;> simp

@[simp] theorem countFailure_frame (s : State) :
    (countFailure s).ring = s.ring ∧ (countFailure s).intake = s.intake ∧ (countFailure s).engine = s.engine ∧
    (countFailure s).conceal = s.conceal ∧ (countFailure s).line = s.line ∧
    (countFailure s).session = s.session ∧ (countFailure s).sPort = s.sPort ∧
    (countFailure s).dPort = s.dPort ∧ (countFailure s).power = s.power ∧ (countFailure s).params = s.params ∧
    (countFailure s).now = s.now ∧ (countFailure s).pending = s.pending := by unfold countFailure; simp

@[simp] theorem giveUpOrder_frame (o : Order) (s : State) :
    (giveUpOrder o s).intake = s.intake ∧ (giveUpOrder o s).rates = s.rates ∧
    (giveUpOrder o s).engine = s.engine ∧ (giveUpOrder o s).conceal = s.conceal ∧
    (giveUpOrder o s).line = s.line ∧ (giveUpOrder o s).session = s.session ∧
    (giveUpOrder o s).sPort = s.sPort ∧ (giveUpOrder o s).dPort = s.dPort ∧ (giveUpOrder o s).power = s.power ∧
    (giveUpOrder o s).params = s.params ∧ (giveUpOrder o s).now = s.now ∧ (giveUpOrder o s).pending = s.pending := by
  unfold giveUpOrder; dsimp only; split <;> simp

@[simp] theorem withdrawOrder_frame (o : Order) (s : State) :
    (withdrawOrder o s).ring = s.ring ∧ (withdrawOrder o s).intake = s.intake ∧
    (withdrawOrder o s).rates = s.rates ∧ (withdrawOrder o s).engine = s.engine ∧
    (withdrawOrder o s).conceal = s.conceal ∧ (withdrawOrder o s).line = s.line ∧
    (withdrawOrder o s).session = s.session ∧ (withdrawOrder o s).sPort = s.sPort ∧
    (withdrawOrder o s).dPort = s.dPort ∧ (withdrawOrder o s).power = s.power ∧
    (withdrawOrder o s).params = s.params ∧ (withdrawOrder o s).now = s.now ∧
    (withdrawOrder o s).pending = s.pending := by unfold withdrawOrder; simp

@[simp] theorem judgeArrival_frame (o : Order) (s : State) :
    (judgeArrival o s).ring = s.ring ∧ (judgeArrival o s).intake = s.intake ∧
    (judgeArrival o s).rates = s.rates ∧ (judgeArrival o s).engine = s.engine ∧
    (judgeArrival o s).conceal = s.conceal ∧ (judgeArrival o s).line = s.line ∧
    (judgeArrival o s).session = s.session ∧ (judgeArrival o s).sPort = s.sPort ∧
    (judgeArrival o s).dPort = s.dPort ∧ (judgeArrival o s).power = s.power ∧
    (judgeArrival o s).params = s.params ∧ (judgeArrival o s).now = s.now ∧
    (judgeArrival o s).pending = s.pending := by unfold judgeArrival; dsimp only; (repeat' split) <;> simp

@[simp] theorem judgeCovering_frame (a : Nat) (s : State) :
    (judgeCovering a s).ring = s.ring ∧ (judgeCovering a s).intake = s.intake ∧
    (judgeCovering a s).rates = s.rates ∧ (judgeCovering a s).engine = s.engine ∧
    (judgeCovering a s).conceal = s.conceal ∧ (judgeCovering a s).line = s.line ∧
    (judgeCovering a s).session = s.session ∧ (judgeCovering a s).sPort = s.sPort ∧
    (judgeCovering a s).dPort = s.dPort ∧ (judgeCovering a s).power = s.power ∧
    (judgeCovering a s).params = s.params ∧ (judgeCovering a s).now = s.now ∧
    (judgeCovering a s).pending = s.pending := by unfold judgeCovering; (repeat' split) <;> simp

@[simp] theorem trimForPlay_frame (low : Nat) (o : Order) (s : State) :
    (trimForPlay low o s).ring = s.ring ∧ (trimForPlay low o s).intake = s.intake ∧
    (trimForPlay low o s).rates = s.rates ∧ (trimForPlay low o s).engine = s.engine ∧
    (trimForPlay low o s).conceal = s.conceal ∧ (trimForPlay low o s).line = s.line ∧
    (trimForPlay low o s).session = s.session ∧ (trimForPlay low o s).sPort = s.sPort ∧
    (trimForPlay low o s).dPort = s.dPort ∧ (trimForPlay low o s).power = s.power ∧
    (trimForPlay low o s).params = s.params ∧ (trimForPlay low o s).now = s.now ∧
    (trimForPlay low o s).pending = s.pending := by unfold trimForPlay; (repeat' split) <;> simp

/-- A field that each round of a fold keeps is kept by the fold. -/
theorem foldl_keeps {α β : Type} (f : State → β) (g : State → α → State) (h : ∀ s x, f (g s x) = f s) :
    ∀ (l : List α) (s : State), f (l.foldl g s) = f s
  | [], _ => rfl
  | x :: l, s => by rw [List.foldl_cons, foldl_keeps f g h l, h]

@[simp] theorem trimAll_frame (low : Nat) (s : State) :
    (trimAll low s).ring = s.ring ∧ (trimAll low s).intake = s.intake ∧ (trimAll low s).rates = s.rates ∧
    (trimAll low s).engine = s.engine ∧ (trimAll low s).conceal = s.conceal ∧ (trimAll low s).line = s.line ∧
    (trimAll low s).session = s.session ∧ (trimAll low s).sPort = s.sPort ∧ (trimAll low s).dPort = s.dPort ∧
    (trimAll low s).power = s.power ∧ (trimAll low s).params = s.params ∧ (trimAll low s).now = s.now ∧
    (trimAll low s).pending = s.pending := by
  unfold trimAll
  refine ⟨?_, ?_, ?_, ?_, ?_, ?_, ?_, ?_, ?_, ?_, ?_, ?_, ?_⟩ <;> exact foldl_keeps _ _ (fun s o => by simp) _ _

@[simp] theorem emptyQueue_frame (s : State) :
    (emptyQueue s).ring = s.ring ∧ (emptyQueue s).intake = s.intake ∧ (emptyQueue s).rates = s.rates ∧
    (emptyQueue s).engine = s.engine ∧ (emptyQueue s).conceal = s.conceal ∧ (emptyQueue s).line = s.line ∧
    (emptyQueue s).session = s.session ∧ (emptyQueue s).sPort = s.sPort ∧ (emptyQueue s).dPort = s.dPort ∧
    (emptyQueue s).power = s.power ∧ (emptyQueue s).params = s.params ∧ (emptyQueue s).now = s.now ∧
    (emptyQueue s).pending = s.pending := by unfold emptyQueue; dsimp only; split <;> simp

@[simp] theorem scan_frame (s : State) :
    (scan s).ring = s.ring ∧ (scan s).intake = s.intake ∧ (scan s).rates = s.rates ∧
    (scan s).engine = s.engine ∧ (scan s).conceal = s.conceal ∧ (scan s).line = s.line ∧
    (scan s).session = s.session ∧ (scan s).sPort = s.sPort ∧ (scan s).dPort = s.dPort ∧
    (scan s).events = s.events ∧ (scan s).power = s.power ∧ (scan s).params = s.params ∧ (scan s).now = s.now ∧
    (scan s).pending = s.pending := by unfold scan; (repeat' split) <;> simp

@[simp] theorem scanIfDue_frame (s : State) :
    (scanIfDue s).ring = s.ring ∧ (scanIfDue s).intake = s.intake ∧ (scanIfDue s).rates = s.rates ∧
    (scanIfDue s).engine = s.engine ∧ (scanIfDue s).conceal = s.conceal ∧ (scanIfDue s).line = s.line ∧
    (scanIfDue s).session = s.session ∧ (scanIfDue s).sPort = s.sPort ∧ (scanIfDue s).dPort = s.dPort ∧
    (scanIfDue s).events = s.events ∧ (scanIfDue s).power = s.power ∧ (scanIfDue s).params = s.params ∧
    (scanIfDue s).now = s.now ∧ (scanIfDue s).pending = s.pending := by unfold scanIfDue; split <;> simp

@[simp] theorem tellWork_frame (b u : State) (s : State) :
    (tellWork b u s).ring = s.ring ∧ (tellWork b u s).intake = s.intake ∧ (tellWork b u s).planner = s.planner ∧
    (tellWork b u s).rates = s.rates ∧ (tellWork b u s).engine = s.engine ∧ (tellWork b u s).conceal = s.conceal ∧
    (tellWork b u s).line = s.line ∧ (tellWork b u s).session = s.session ∧ (tellWork b u s).sPort = s.sPort ∧
    (tellWork b u s).dPort = s.dPort ∧ (tellWork b u s).power = s.power ∧ (tellWork b u s).params = s.params ∧
    (tellWork b u s).now = s.now ∧ (tellWork b u s).pending = s.pending := by
  unfold tellWork; (repeat' split) <;> simp

/-- Work that waits now, and did not at the start or before the scan, is told of (R62). -/
theorem tellWork_raises {b u s : State} (hs : s.planner.workWaits = true)
    (hb : (b.planner.workWaits && u.planner.workWaits) = false) : tellWork b u s = raiseD .orderAvailable s := by
  simp [tellWork, hs, hb]

/-- Work that does not wait, or has waited throughout, is not (R62). -/
theorem tellWork_quiet {b u s : State}
    (h : s.planner.workWaits = false ∨ (b.planner.workWaits && u.planner.workWaits) = true) : tellWork b u s = s := by
  rcases h with h | h <;> simp [tellWork, h]

@[simp] theorem tellPause_frame (b : State) (s : State) :
    (tellPause b s).ring = s.ring ∧ (tellPause b s).intake = s.intake ∧ (tellPause b s).planner = s.planner ∧
    (tellPause b s).rates = s.rates ∧ (tellPause b s).engine = s.engine ∧ (tellPause b s).conceal = s.conceal ∧
    (tellPause b s).line = s.line ∧ (tellPause b s).session = s.session ∧ (tellPause b s).sPort = s.sPort ∧
    (tellPause b s).dPort = s.dPort ∧ (tellPause b s).power = s.power ∧ (tellPause b s).params = s.params ∧
    (tellPause b s).now = s.now ∧ (tellPause b s).pending = s.pending := by
  unfold tellPause; (repeat' split) <;> simp

@[simp] theorem finish_frame (b : State) (s : State) :
    (finish b s).ring = s.ring ∧ (finish b s).intake = s.intake ∧ (finish b s).rates = s.rates ∧
    (finish b s).engine = s.engine ∧ (finish b s).conceal = s.conceal ∧ (finish b s).line = s.line ∧
    (finish b s).session = s.session ∧ (finish b s).sPort = s.sPort ∧ (finish b s).dPort = s.dPort ∧
    (finish b s).power = s.power ∧ (finish b s).params = s.params ∧ (finish b s).now = s.now ∧
    (finish b s).pending = s.pending := by unfold finish; simp

end Sys2Proof.Machine
end

