-- ==== Sys2Proof/Laws/Frames.lean ====
section
/-! SUPPORT. What the composite operations leave alone, field by field, as simp lemmas. -/

namespace Sys2Proof.Machine

/-! ### The output engine -/

@[simp] theorem setIntent_frame (i : Intent) (s : State) :
    (setIntent i s).ring = s.ring ∧ (setIntent i s).intake = s.intake ∧ (setIntent i s).planner = s.planner ∧
    (setIntent i s).rates = s.rates ∧ (setIntent i s).conceal = s.conceal ∧ (setIntent i s).line = s.line ∧
    (setIntent i s).session = s.session ∧ (setIntent i s).sPort = s.sPort ∧ (setIntent i s).dPort = s.dPort ∧
    (setIntent i s).events = s.events ∧ (setIntent i s).power = s.power ∧ (setIntent i s).params = s.params ∧
    (setIntent i s).now = s.now ∧ (setIntent i s).pending = s.pending :=
  ⟨rfl, rfl, rfl, rfl, rfl, rfl, rfl, rfl, rfl, rfl, rfl, rfl, rfl, rfl⟩

@[simp] theorem setPlay_frame (p : Play) (s : State) :
    (setPlay p s).ring = s.ring ∧ (setPlay p s).intake = s.intake ∧ (setPlay p s).planner = s.planner ∧
    (setPlay p s).rates = s.rates ∧ (setPlay p s).conceal = s.conceal ∧ (setPlay p s).line = s.line ∧
    (setPlay p s).session = s.session ∧ (setPlay p s).sPort = s.sPort ∧ (setPlay p s).dPort = s.dPort ∧
    (setPlay p s).power = s.power ∧ (setPlay p s).params = s.params ∧ (setPlay p s).now = s.now ∧
    (setPlay p s).pending = s.pending := by unfold setPlay; dsimp only; split <;> simp

@[simp] theorem setFrame_frame (f : Nat) (s : State) :
    (setFrame f s).ring = s.ring ∧ (setFrame f s).intake = s.intake ∧ (setFrame f s).planner = s.planner ∧
    (setFrame f s).rates = s.rates ∧ (setFrame f s).conceal = s.conceal ∧ (setFrame f s).line = s.line ∧
    (setFrame f s).session = s.session ∧ (setFrame f s).sPort = s.sPort ∧ (setFrame f s).dPort = s.dPort ∧
    (setFrame f s).events = s.events ∧ (setFrame f s).power = s.power ∧ (setFrame f s).params = s.params ∧
    (setFrame f s).now = s.now ∧ (setFrame f s).pending = s.pending :=
  ⟨rfl, rfl, rfl, rfl, rfl, rfl, rfl, rfl, rfl, rfl, rfl, rfl, rfl, rfl⟩

@[simp] theorem closeSlot_frame (s : State) :
    (closeSlot s).ring = s.ring ∧ (closeSlot s).intake = s.intake ∧ (closeSlot s).planner = s.planner ∧
    (closeSlot s).rates = s.rates ∧ (closeSlot s).conceal = s.conceal ∧ (closeSlot s).line = s.line ∧
    (closeSlot s).session = s.session ∧ (closeSlot s).sPort = s.sPort ∧ (closeSlot s).dPort = s.dPort ∧
    (closeSlot s).events = s.events ∧ (closeSlot s).power = s.power ∧ (closeSlot s).params = s.params ∧
    (closeSlot s).now = s.now ∧ (closeSlot s).pending = s.pending :=
  ⟨rfl, rfl, rfl, rfl, rfl, rfl, rfl, rfl, rfl, rfl, rfl, rfl, rfl, rfl⟩

@[simp] theorem openSlot_frame (s : State) :
    (openSlot s).ring = s.ring ∧ (openSlot s).intake = s.intake ∧ (openSlot s).rates = s.rates ∧
    (openSlot s).conceal = s.conceal ∧ (openSlot s).line = s.line ∧ (openSlot s).session = s.session ∧
    (openSlot s).sPort = s.sPort ∧ (openSlot s).dPort = s.dPort ∧ (openSlot s).power = s.power ∧
    (openSlot s).params = s.params ∧ (openSlot s).now = s.now ∧ (openSlot s).pending = s.pending := by
  unfold openSlot; simp

@[simp] theorem dropWaits_frame (s : State) :
    (dropWaits s).ring = s.ring ∧ (dropWaits s).intake = s.intake ∧ (dropWaits s).planner = s.planner ∧
    (dropWaits s).rates = s.rates ∧ (dropWaits s).conceal = s.conceal ∧ (dropWaits s).line = s.line ∧
    (dropWaits s).session = s.session ∧ (dropWaits s).sPort = s.sPort ∧ (dropWaits s).dPort = s.dPort ∧
    (dropWaits s).events = s.events ∧ (dropWaits s).power = s.power ∧ (dropWaits s).params = s.params ∧
    (dropWaits s).now = s.now ∧ (dropWaits s).pending = s.pending :=
  ⟨rfl, rfl, rfl, rfl, rfl, rfl, rfl, rfl, rfl, rfl, rfl, rfl, rfl, rfl⟩

@[simp] theorem startStall_frame (s : State) :
    (startStall s).ring = s.ring ∧ (startStall s).intake = s.intake ∧ (startStall s).planner = s.planner ∧
    (startStall s).rates = s.rates ∧ (startStall s).conceal = s.conceal ∧ (startStall s).line = s.line ∧
    (startStall s).session = s.session ∧ (startStall s).sPort = s.sPort ∧ (startStall s).dPort = s.dPort ∧
    (startStall s).events = s.events ∧ (startStall s).power = s.power ∧ (startStall s).params = s.params ∧
    (startStall s).now = s.now ∧ (startStall s).pending = s.pending :=
  ⟨rfl, rfl, rfl, rfl, rfl, rfl, rfl, rfl, rfl, rfl, rfl, rfl, rfl, rfl⟩

@[simp] theorem restartStall_frame (s : State) :
    (restartStall s).ring = s.ring ∧ (restartStall s).intake = s.intake ∧
    (restartStall s).planner = s.planner ∧ (restartStall s).rates = s.rates ∧
    (restartStall s).conceal = s.conceal ∧ (restartStall s).line = s.line ∧
    (restartStall s).session = s.session ∧ (restartStall s).sPort = s.sPort ∧
    (restartStall s).dPort = s.dPort ∧ (restartStall s).events = s.events ∧ (restartStall s).power = s.power ∧
    (restartStall s).params = s.params ∧ (restartStall s).now = s.now ∧ (restartStall s).pending = s.pending := by
  unfold restartStall; (repeat' split) <;> simp

@[simp] theorem judgeProgram_frame (s : State) :
    (judgeProgram s).ring = s.ring ∧ (judgeProgram s).intake = s.intake ∧
    (judgeProgram s).planner = s.planner ∧ (judgeProgram s).rates = s.rates ∧
    (judgeProgram s).conceal = s.conceal ∧ (judgeProgram s).line = s.line ∧
    (judgeProgram s).session = s.session ∧ (judgeProgram s).sPort = s.sPort ∧
    (judgeProgram s).dPort = s.dPort ∧ (judgeProgram s).power = s.power ∧ (judgeProgram s).params = s.params ∧
    (judgeProgram s).now = s.now ∧ (judgeProgram s).pending = s.pending := by
  unfold judgeProgram; dsimp only; split <;> simp

@[simp] theorem judgeLatchLow_frame (s : State) :
    (judgeLatchLow s).ring = s.ring ∧ (judgeLatchLow s).planner = s.planner ∧
    (judgeLatchLow s).rates = s.rates ∧ (judgeLatchLow s).engine = s.engine ∧
    (judgeLatchLow s).conceal = s.conceal ∧ (judgeLatchLow s).line = s.line ∧
    (judgeLatchLow s).session = s.session ∧ (judgeLatchLow s).sPort = s.sPort ∧
    (judgeLatchLow s).dPort = s.dPort ∧ (judgeLatchLow s).events = s.events ∧
    (judgeLatchLow s).power = s.power ∧ (judgeLatchLow s).params = s.params ∧ (judgeLatchLow s).now = s.now ∧
    (judgeLatchLow s).pending = s.pending := by unfold judgeLatchLow; dsimp only; (repeat' split) <;> simp

@[simp] theorem judgeLatchHigh_frame (s : State) :
    (judgeLatchHigh s).ring = s.ring ∧ (judgeLatchHigh s).planner = s.planner ∧
    (judgeLatchHigh s).rates = s.rates ∧ (judgeLatchHigh s).engine = s.engine ∧
    (judgeLatchHigh s).conceal = s.conceal ∧ (judgeLatchHigh s).line = s.line ∧
    (judgeLatchHigh s).session = s.session ∧ (judgeLatchHigh s).sPort = s.sPort ∧
    (judgeLatchHigh s).dPort = s.dPort ∧ (judgeLatchHigh s).events = s.events ∧
    (judgeLatchHigh s).power = s.power ∧ (judgeLatchHigh s).params = s.params ∧
    (judgeLatchHigh s).now = s.now ∧ (judgeLatchHigh s).pending = s.pending := by
  unfold judgeLatchHigh; dsimp only; (repeat' split) <;> simp

@[simp] theorem endRun_frame (s : State) :
    (endRun s).ring = s.ring ∧ (endRun s).planner = s.planner ∧ (endRun s).rates = s.rates ∧
    (endRun s).engine = s.engine ∧ (endRun s).conceal = s.conceal ∧ (endRun s).line = s.line ∧
    (endRun s).session = s.session ∧ (endRun s).sPort = s.sPort ∧ (endRun s).dPort = s.dPort ∧
    (endRun s).events = s.events ∧ (endRun s).power = s.power ∧ (endRun s).params = s.params ∧
    (endRun s).now = s.now ∧ (endRun s).pending = s.pending :=
  ⟨rfl, rfl, rfl, rfl, rfl, rfl, rfl, rfl, rfl, rfl, rfl, rfl, rfl, rfl⟩

@[simp] theorem flush_frame (a : Nat) (s : State) :
    (flush a s).rates = s.rates ∧ (flush a s).line = s.line ∧ (flush a s).session = s.session ∧
    (flush a s).sPort = s.sPort ∧ (flush a s).dPort = s.dPort ∧ (flush a s).power = s.power ∧
    (flush a s).params = s.params ∧ (flush a s).now = s.now ∧ (flush a s).pending = s.pending := by
  unfold flush; simp

@[simp] theorem enterStopped_frame (s : State) :
    (enterStopped s).rates = s.rates ∧ (enterStopped s).line = s.line ∧ (enterStopped s).session = s.session ∧
    (enterStopped s).sPort = s.sPort ∧ (enterStopped s).dPort = s.dPort ∧ (enterStopped s).power = s.power ∧
    (enterStopped s).params = s.params ∧ (enterStopped s).now = s.now ∧ (enterStopped s).pending = s.pending := by
  unfold enterStopped; simp

@[simp] theorem endOfDisc_frame (s : State) :
    (endOfDisc s).rates = s.rates ∧ (endOfDisc s).line = s.line ∧ (endOfDisc s).session = s.session ∧
    (endOfDisc s).sPort = s.sPort ∧ (endOfDisc s).dPort = s.dPort ∧ (endOfDisc s).power = s.power ∧
    (endOfDisc s).params = s.params ∧ (endOfDisc s).now = s.now ∧ (endOfDisc s).pending = s.pending := by
  unfold endOfDisc; simp

@[simp] theorem exitStarved_frame (s : State) :
    (exitStarved s).ring = s.ring ∧ (exitStarved s).intake = s.intake ∧ (exitStarved s).rates = s.rates ∧
    (exitStarved s).line = s.line ∧ (exitStarved s).session = s.session ∧ (exitStarved s).sPort = s.sPort ∧
    (exitStarved s).dPort = s.dPort ∧ (exitStarved s).power = s.power ∧ (exitStarved s).params = s.params ∧
    (exitStarved s).now = s.now ∧ (exitStarved s).pending = s.pending := by unfold exitStarved; simp

@[simp] theorem expireHole_frame (s : State) :
    (expireHole s).intake = s.intake ∧ (expireHole s).rates = s.rates ∧ (expireHole s).line = s.line ∧
    (expireHole s).session = s.session ∧ (expireHole s).sPort = s.sPort ∧ (expireHole s).dPort = s.dPort ∧
    (expireHole s).power = s.power ∧ (expireHole s).params = s.params ∧ (expireHole s).now = s.now ∧
    (expireHole s).pending = s.pending := by unfold expireHole; simp

@[simp] theorem judgeHoleWait_frame (s : State) :
    (judgeHoleWait s).intake = s.intake ∧ (judgeHoleWait s).rates = s.rates ∧ (judgeHoleWait s).line = s.line ∧
    (judgeHoleWait s).session = s.session ∧ (judgeHoleWait s).sPort = s.sPort ∧
    (judgeHoleWait s).dPort = s.dPort ∧ (judgeHoleWait s).power = s.power ∧
    (judgeHoleWait s).params = s.params ∧ (judgeHoleWait s).now = s.now ∧ (judgeHoleWait s).pending = s.pending := by
  unfold judgeHoleWait; (repeat' split) <;> simp

@[simp] theorem enterStarved_frame (s : State) :
    (enterStarved s).intake = s.intake ∧ (enterStarved s).rates = s.rates ∧ (enterStarved s).line = s.line ∧
    (enterStarved s).session = s.session ∧ (enterStarved s).sPort = s.sPort ∧
    (enterStarved s).dPort = s.dPort ∧ (enterStarved s).power = s.power ∧ (enterStarved s).params = s.params ∧
    (enterStarved s).now = s.now ∧ (enterStarved s).pending = s.pending := by
  unfold enterStarved; dsimp only; (repeat' split) <;> simp

@[simp] theorem endPriming_frame (s : State) :
    (endPriming s).rates = s.rates ∧ (endPriming s).line = s.line ∧ (endPriming s).session = s.session ∧
    (endPriming s).sPort = s.sPort ∧ (endPriming s).dPort = s.dPort ∧ (endPriming s).power = s.power ∧
    (endPriming s).params = s.params ∧ (endPriming s).now = s.now ∧ (endPriming s).pending = s.pending := by
  unfold endPriming; (repeat' split) <;> simp

@[simp] theorem react_frame (s : State) :
    (react s).rates = s.rates ∧ (react s).line = s.line ∧ (react s).session = s.session ∧
    (react s).sPort = s.sPort ∧ (react s).dPort = s.dPort ∧ (react s).power = s.power ∧
    (react s).params = s.params ∧ (react s).now = s.now ∧ (react s).pending = s.pending := by
  unfold react; (repeat' split) <;> simp

@[simp] theorem enterPriming_frame (s : State) :
    (enterPriming s).rates = s.rates ∧ (enterPriming s).line = s.line ∧ (enterPriming s).session = s.session ∧
    (enterPriming s).sPort = s.sPort ∧ (enterPriming s).dPort = s.dPort ∧ (enterPriming s).power = s.power ∧
    (enterPriming s).params = s.params ∧ (enterPriming s).now = s.now ∧ (enterPriming s).pending = s.pending := by
  unfold enterPriming; simp

@[simp] theorem landJump_frame (s : State) :
    (landJump s).intake = s.intake ∧ (landJump s).rates = s.rates ∧ (landJump s).line = s.line ∧
    (landJump s).session = s.session ∧ (landJump s).sPort = s.sPort ∧ (landJump s).dPort = s.dPort ∧
    (landJump s).power = s.power ∧ (landJump s).params = s.params ∧ (landJump s).now = s.now ∧
    (landJump s).pending = s.pending := by unfold landJump; (repeat' split) <;> simp

@[simp] theorem jump_frame (a f : Nat) (s : State) :
    (jump a f s).rates = s.rates ∧ (jump a f s).line = s.line ∧ (jump a f s).session = s.session ∧
    (jump a f s).sPort = s.sPort ∧ (jump a f s).dPort = s.dPort ∧ (jump a f s).power = s.power ∧
    (jump a f s).params = s.params ∧ (jump a f s).now = s.now ∧ (jump a f s).pending = s.pending := by
  unfold jump; simp

@[simp] theorem seek_frame (a f : Nat) (s : State) :
    (seek a f s).rates = s.rates ∧ (seek a f s).line = s.line ∧ (seek a f s).session = s.session ∧
    (seek a f s).sPort = s.sPort ∧ (seek a f s).dPort = s.dPort ∧ (seek a f s).power = s.power ∧
    (seek a f s).params = s.params ∧ (seek a f s).now = s.now ∧ (seek a f s).pending = s.pending := by
  unfold seek; simp

@[simp] theorem playTo_frame (a f : Nat) (s : State) :
    (playTo a f s).rates = s.rates ∧ (playTo a f s).line = s.line ∧ (playTo a f s).session = s.session ∧
    (playTo a f s).sPort = s.sPort ∧ (playTo a f s).dPort = s.dPort ∧ (playTo a f s).power = s.power ∧
    (playTo a f s).params = s.params ∧ (playTo a f s).now = s.now ∧ (playTo a f s).pending = s.pending := by
  unfold playTo; dsimp only; split <;> simp

@[simp] theorem openAndPlay_frame (s : State) :
    (openAndPlay s).ring = s.ring ∧ (openAndPlay s).intake = s.intake ∧ (openAndPlay s).rates = s.rates ∧
    (openAndPlay s).conceal = s.conceal ∧ (openAndPlay s).line = s.line ∧ (openAndPlay s).session = s.session ∧
    (openAndPlay s).sPort = s.sPort ∧ (openAndPlay s).dPort = s.dPort ∧ (openAndPlay s).power = s.power ∧
    (openAndPlay s).params = s.params ∧ (openAndPlay s).now = s.now ∧ (openAndPlay s).pending = s.pending := by
  unfold openAndPlay; simp

@[simp] theorem failAttempt_frame (o : Order) (s : State) :
    (failAttempt o s).1.intake = s.intake ∧ (failAttempt o s).1.engine = s.engine ∧
    (failAttempt o s).1.conceal = s.conceal ∧ (failAttempt o s).1.line = s.line ∧
    (failAttempt o s).1.session = s.session ∧ (failAttempt o s).1.sPort = s.sPort ∧
    (failAttempt o s).1.dPort = s.dPort ∧ (failAttempt o s).1.power = s.power ∧
    (failAttempt o s).1.params = s.params ∧ (failAttempt o s).1.now = s.now ∧
    (failAttempt o s).1.pending = s.pending := by unfold failAttempt; dsimp only; split <;> simp

/-! ### The session unit and the power controller -/

@[simp] theorem setSession_frame (x : SessionState) (s : State) :
    (setSession x s).ring = s.ring ∧ (setSession x s).intake = s.intake ∧
    (setSession x s).planner = s.planner ∧ (setSession x s).rates = s.rates ∧
    (setSession x s).engine = s.engine ∧ (setSession x s).conceal = s.conceal ∧
    (setSession x s).line = s.line ∧ (setSession x s).sPort = s.sPort ∧ (setSession x s).dPort = s.dPort ∧
    (setSession x s).events = s.events ∧ (setSession x s).power = s.power ∧
    (setSession x s).params = s.params ∧ (setSession x s).now = s.now ∧ (setSession x s).pending = s.pending :=
  ⟨rfl, rfl, rfl, rfl, rfl, rfl, rfl, rfl, rfl, rfl, rfl, rfl, rfl, rfl⟩

@[simp] theorem startIdentify_frame (s : State) :
    (startIdentify s).ring = s.ring ∧ (startIdentify s).intake = s.intake ∧
    (startIdentify s).planner = s.planner ∧ (startIdentify s).rates = s.rates ∧
    (startIdentify s).engine = s.engine ∧ (startIdentify s).conceal = s.conceal ∧
    (startIdentify s).line = s.line ∧ (startIdentify s).sPort = s.sPort ∧ (startIdentify s).dPort = s.dPort ∧
    (startIdentify s).events = s.events ∧ (startIdentify s).power = s.power ∧
    (startIdentify s).params = s.params ∧ (startIdentify s).now = s.now ∧ (startIdentify s).pending = s.pending :=
  ⟨rfl, rfl, rfl, rfl, rfl, rfl, rfl, rfl, rfl, rfl, rfl, rfl, rfl, rfl⟩

@[simp] theorem loadDisc_frame (s : State) :
    (loadDisc s).ring = s.ring ∧ (loadDisc s).intake = s.intake ∧ (loadDisc s).planner = s.planner ∧
    (loadDisc s).rates = s.rates ∧ (loadDisc s).engine = s.engine ∧ (loadDisc s).conceal = s.conceal ∧
    (loadDisc s).line = s.line ∧ (loadDisc s).sPort = s.sPort ∧ (loadDisc s).dPort = s.dPort ∧
    (loadDisc s).events = s.events ∧ (loadDisc s).power = s.power ∧ (loadDisc s).params = s.params ∧
    (loadDisc s).now = s.now ∧ (loadDisc s).pending = s.pending := by
  unfold loadDisc; dsimp only; (repeat' split) <;> simp

@[simp] theorem completeEntry_frame (target : LowMode) (s : State) :
    (completeEntry target s).intake = s.intake ∧ (completeEntry target s).rates = s.rates ∧
    (completeEntry target s).engine = s.engine ∧ (completeEntry target s).conceal = s.conceal ∧
    (completeEntry target s).line = s.line ∧ (completeEntry target s).session = s.session ∧
    (completeEntry target s).sPort = s.sPort ∧ (completeEntry target s).dPort = s.dPort ∧
    (completeEntry target s).events = s.events ∧ (completeEntry target s).params = s.params ∧
    (completeEntry target s).now = s.now ∧ (completeEntry target s).pending = s.pending := by
  cases target <;> simp [completeEntry]

@[simp] theorem storeResume_frame (s : State) :
    (storeResume s).ring = s.ring ∧ (storeResume s).intake = s.intake ∧ (storeResume s).planner = s.planner ∧
    (storeResume s).rates = s.rates ∧ (storeResume s).engine = s.engine ∧ (storeResume s).conceal = s.conceal ∧
    (storeResume s).line = s.line ∧ (storeResume s).sPort = s.sPort ∧ (storeResume s).dPort = s.dPort ∧
    (storeResume s).events = s.events ∧ (storeResume s).power = s.power ∧ (storeResume s).params = s.params ∧
    (storeResume s).now = s.now ∧ (storeResume s).pending = s.pending := by unfold storeResume; split <;> simp

/-- With an entry, SESSION_ENDED is all that it does. -/
theorem tellEnded_some (e : ResumeEntry) (s : State) :
    tellEnded (some e) s = raiseS (.sessionEnded e.fingerprint e.address e.frame e.intent) s := rfl

@[simp] theorem tellEnded_frame (x : Option ResumeEntry) (s : State) :
    (tellEnded x s).ring = s.ring ∧ (tellEnded x s).intake = s.intake ∧ (tellEnded x s).planner = s.planner ∧
    (tellEnded x s).rates = s.rates ∧ (tellEnded x s).engine = s.engine ∧ (tellEnded x s).conceal = s.conceal ∧
    (tellEnded x s).line = s.line ∧ (tellEnded x s).session = s.session ∧ (tellEnded x s).sPort = s.sPort ∧
    (tellEnded x s).dPort = s.dPort ∧ (tellEnded x s).power = s.power ∧ (tellEnded x s).params = s.params ∧
    (tellEnded x s).now = s.now ∧ (tellEnded x s).pending = s.pending := by
  cases x <;> simp [tellEnded, raiseS]

@[simp] theorem halt_frame (s : State) :
    (halt s).ring = s.ring ∧ (halt s).intake = s.intake ∧ (halt s).planner = s.planner ∧
    (halt s).rates = s.rates ∧ (halt s).conceal = s.conceal ∧ (halt s).line = s.line ∧
    (halt s).session = s.session ∧ (halt s).sPort = s.sPort ∧ (halt s).dPort = s.dPort ∧
    (halt s).power = s.power ∧ (halt s).params = s.params ∧ (halt s).now = s.now ∧ (halt s).pending = s.pending := by
  unfold halt; simp

@[simp] theorem endSession_frame (s : State) :
    (endSession s).intake = s.intake ∧ (endSession s).rates = s.rates ∧ (endSession s).engine = s.engine ∧
    (endSession s).conceal = s.conceal ∧ (endSession s).line = s.line ∧ (endSession s).sPort = s.sPort ∧
    (endSession s).dPort = s.dPort ∧ (endSession s).events = s.events ∧ (endSession s).params = s.params ∧
    (endSession s).now = s.now ∧ (endSession s).pending = s.pending := by
  unfold endSession; dsimp only; (repeat' split) <;> simp

@[simp] theorem leaveEnd_frame (s : State) :
    (leaveEnd s).intake = s.intake ∧ (leaveEnd s).rates = s.rates ∧ (leaveEnd s).conceal = s.conceal ∧
    (leaveEnd s).line = s.line ∧ (leaveEnd s).sPort = s.sPort ∧ (leaveEnd s).dPort = s.dPort ∧
    (leaveEnd s).params = s.params ∧ (leaveEnd s).now = s.now ∧ (leaveEnd s).pending = s.pending := by
  unfold leaveEnd; simp

@[simp] theorem leavePlay_frame (s : State) :
    (leavePlay s).intake = s.intake ∧ (leavePlay s).rates = s.rates ∧ (leavePlay s).line = s.line ∧
    (leavePlay s).sPort = s.sPort ∧ (leavePlay s).dPort = s.dPort ∧ (leavePlay s).params = s.params ∧
    (leavePlay s).now = s.now ∧ (leavePlay s).pending = s.pending := by
  unfold leavePlay; (repeat' split) <;> simp

@[simp] theorem beginLeave_frame (s : State) :
    (beginLeave s).line = s.line ∧ (beginLeave s).sPort = s.sPort ∧ (beginLeave s).dPort = s.dPort ∧
    (beginLeave s).params = s.params ∧ (beginLeave s).now = s.now ∧ (beginLeave s).pending = s.pending := by
  unfold beginLeave; simp

@[simp] theorem releaseDisc_frame (s : State) :
    (releaseDisc s).line = s.line ∧ (releaseDisc s).sPort = s.sPort ∧ (releaseDisc s).dPort = s.dPort ∧
    (releaseDisc s).params = s.params ∧ (releaseDisc s).now = s.now ∧ (releaseDisc s).pending = s.pending := by
  unfold releaseDisc; dsimp only; (repeat' split) <;> simp

@[simp] theorem rampEnd_frame (dest : Dest) (s : State) :
    (rampEnd dest s).rates = s.rates ∧ (rampEnd dest s).line = s.line ∧ (rampEnd dest s).sPort = s.sPort ∧
    (rampEnd dest s).dPort = s.dPort ∧ (rampEnd dest s).params = s.params ∧ (rampEnd dest s).now = s.now ∧
    (rampEnd dest s).pending = s.pending := by cases dest <;> simp [rampEnd]

@[simp] theorem startConceal_frame (s : State) :
    (startConceal s).ring = s.ring ∧ (startConceal s).intake = s.intake ∧
    (startConceal s).planner = s.planner ∧ (startConceal s).rates = s.rates ∧ (startConceal s).line = s.line ∧
    (startConceal s).session = s.session ∧ (startConceal s).sPort = s.sPort ∧
    (startConceal s).dPort = s.dPort ∧ (startConceal s).events = s.events ∧ (startConceal s).power = s.power ∧
    (startConceal s).params = s.params ∧ (startConceal s).now = s.now ∧ (startConceal s).pending = s.pending := by
  unfold startConceal; simp

@[simp] theorem startPaused_frame (s : State) :
    (startPaused s).ring = s.ring ∧ (startPaused s).intake = s.intake ∧ (startPaused s).planner = s.planner ∧
    (startPaused s).rates = s.rates ∧ (startPaused s).conceal = s.conceal ∧ (startPaused s).line = s.line ∧
    (startPaused s).session = s.session ∧ (startPaused s).sPort = s.sPort ∧ (startPaused s).dPort = s.dPort ∧
    (startPaused s).power = s.power ∧ (startPaused s).params = s.params ∧ (startPaused s).now = s.now ∧
    (startPaused s).pending = s.pending := by unfold startPaused; simp

@[simp] theorem startWarmPlay_frame (s : State) :
    (startWarmPlay s).rates = s.rates ∧ (startWarmPlay s).line = s.line ∧
    (startWarmPlay s).session = s.session ∧ (startWarmPlay s).sPort = s.sPort ∧
    (startWarmPlay s).dPort = s.dPort ∧ (startWarmPlay s).power = s.power ∧
    (startWarmPlay s).params = s.params ∧ (startWarmPlay s).now = s.now ∧ (startWarmPlay s).pending = s.pending := by
  unfold startWarmPlay; dsimp only; (repeat' split) <;> simp

@[simp] theorem startMatched_frame (e : ResumeEntry) (s : State) :
    (startMatched e s).rates = s.rates ∧ (startMatched e s).line = s.line ∧
    (startMatched e s).session = s.session ∧ (startMatched e s).sPort = s.sPort ∧
    (startMatched e s).dPort = s.dPort ∧ (startMatched e s).power = s.power ∧
    (startMatched e s).params = s.params ∧ (startMatched e s).now = s.now ∧
    (startMatched e s).pending = s.pending := by unfold startMatched; dsimp only; (repeat' split) <;> simp

@[simp] theorem startUnmatched_frame (first : Nat) (s : State) :
    (startUnmatched first s).rates = s.rates ∧ (startUnmatched first s).line = s.line ∧
    (startUnmatched first s).session = s.session ∧ (startUnmatched first s).sPort = s.sPort ∧
    (startUnmatched first s).dPort = s.dPort ∧ (startUnmatched first s).power = s.power ∧
    (startUnmatched first s).params = s.params ∧ (startUnmatched first s).now = s.now ∧
    (startUnmatched first s).pending = s.pending := by unfold startUnmatched; dsimp only; split <;> simp

@[simp] theorem enterPresent_frame (d : Directory) (fp : BitVec 32) (s : State) :
    (enterPresent d fp s).line = s.line ∧ (enterPresent d fp s).sPort = s.sPort ∧
    (enterPresent d fp s).dPort = s.dPort ∧ (enterPresent d fp s).power = s.power ∧
    (enterPresent d fp s).params = s.params ∧ (enterPresent d fp s).now = s.now ∧
    (enterPresent d fp s).pending = s.pending := by unfold enterPresent; dsimp only; split <;> simp

@[simp] theorem takeDirectory_frame (payload : List Byte) (s : State) :
    (takeDirectory payload s).line = s.line ∧ (takeDirectory payload s).sPort = s.sPort ∧
    (takeDirectory payload s).dPort = s.dPort ∧ (takeDirectory payload s).power = s.power ∧
    (takeDirectory payload s).params = s.params ∧ (takeDirectory payload s).now = s.now ∧
    (takeDirectory payload s).pending = s.pending := by unfold takeDirectory; (repeat' split) <;> simp

@[simp] theorem fitParams_frame (s : State) :
    (fitParams s).ring = s.ring ∧ (fitParams s).intake = s.intake ∧ (fitParams s).planner = s.planner ∧
    (fitParams s).rates = s.rates ∧ (fitParams s).engine = s.engine ∧ (fitParams s).conceal = s.conceal ∧
    (fitParams s).line = s.line ∧ (fitParams s).session = s.session ∧ (fitParams s).sPort = s.sPort ∧
    (fitParams s).dPort = s.dPort ∧ (fitParams s).events = s.events ∧ (fitParams s).power = s.power ∧
    (fitParams s).now = s.now ∧ (fitParams s).pending = s.pending :=
  ⟨rfl, rfl, rfl, rfl, rfl, rfl, rfl, rfl, rfl, rfl, rfl, rfl, rfl, rfl⟩

@[simp] theorem startClear_frame (msz : BitVec 2) (s : State) :
    (startClear msz s).planner = s.planner ∧ (startClear msz s).rates = s.rates ∧
    (startClear msz s).line = s.line ∧ (startClear msz s).session = s.session ∧
    (startClear msz s).sPort = s.sPort ∧ (startClear msz s).dPort = s.dPort ∧
    (startClear msz s).events = s.events ∧ (startClear msz s).power = s.power ∧
    (startClear msz s).now = s.now ∧ (startClear msz s).pending = s.pending := by unfold startClear; simp

@[simp] theorem lookAtTray_frame (s : State) :
    (lookAtTray s).ring = s.ring ∧ (lookAtTray s).intake = s.intake ∧ (lookAtTray s).planner = s.planner ∧
    (lookAtTray s).rates = s.rates ∧ (lookAtTray s).engine = s.engine ∧ (lookAtTray s).conceal = s.conceal ∧
    (lookAtTray s).line = s.line ∧ (lookAtTray s).sPort = s.sPort ∧ (lookAtTray s).dPort = s.dPort ∧
    (lookAtTray s).events = s.events ∧ (lookAtTray s).power = s.power ∧ (lookAtTray s).params = s.params ∧
    (lookAtTray s).now = s.now ∧ (lookAtTray s).pending = s.pending := by
  unfold lookAtTray; (repeat' split) <;> simp

@[simp] theorem wakeEnd_frame (source : WakeSource) (s : State) :
    (wakeEnd source s).ring = s.ring ∧ (wakeEnd source s).intake = s.intake ∧
    (wakeEnd source s).planner = s.planner ∧ (wakeEnd source s).rates = s.rates ∧
    (wakeEnd source s).engine = s.engine ∧ (wakeEnd source s).conceal = s.conceal ∧
    (wakeEnd source s).line = s.line ∧ (wakeEnd source s).sPort = s.sPort ∧
    (wakeEnd source s).dPort = s.dPort ∧ (wakeEnd source s).params = s.params ∧
    (wakeEnd source s).now = s.now ∧ (wakeEnd source s).pending = s.pending := by unfold wakeEnd; simp

@[simp] theorem beginWake_frame (source : WakeSource) (s : State) :
    (beginWake source s).ring = s.ring ∧ (beginWake source s).intake = s.intake ∧
    (beginWake source s).planner = s.planner ∧ (beginWake source s).rates = s.rates ∧
    (beginWake source s).engine = s.engine ∧ (beginWake source s).conceal = s.conceal ∧
    (beginWake source s).line = s.line ∧ (beginWake source s).session = s.session ∧
    (beginWake source s).sPort = s.sPort ∧ (beginWake source s).dPort = s.dPort ∧
    (beginWake source s).events = s.events ∧ (beginWake source s).params = s.params ∧
    (beginWake source s).now = s.now ∧ (beginWake source s).pending = s.pending := by
  unfold beginWake; dsimp only; (repeat' split) <;> simp

/-! ### Frames of the sample line -/

@[simp] theorem putFrame_frame (o : OutFrame) (s : State) :
    (putFrame o s).ring = s.ring ∧ (putFrame o s).intake = s.intake ∧ (putFrame o s).planner = s.planner ∧
    (putFrame o s).rates = s.rates ∧ (putFrame o s).engine = s.engine ∧ (putFrame o s).conceal = s.conceal ∧
    (putFrame o s).session = s.session ∧ (putFrame o s).sPort = s.sPort ∧ (putFrame o s).dPort = s.dPort ∧
    (putFrame o s).events = s.events ∧ (putFrame o s).power = s.power ∧ (putFrame o s).params = s.params ∧
    (putFrame o s).now = s.now ∧ (putFrame o s).pending = s.pending :=
  ⟨rfl, rfl, rfl, rfl, rfl, rfl, rfl, rfl, rfl, rfl, rfl, rfl, rfl, rfl⟩

@[simp] theorem countWords_frame (l r : Channel) (hl hr : Produced) (s : State) :
    (countWords l r hl hr s).ring = s.ring ∧ (countWords l r hl hr s).intake = s.intake ∧
    (countWords l r hl hr s).planner = s.planner ∧ (countWords l r hl hr s).rates = s.rates ∧
    (countWords l r hl hr s).engine = s.engine ∧ (countWords l r hl hr s).conceal = s.conceal ∧
    (countWords l r hl hr s).line = s.line ∧ (countWords l r hl hr s).session = s.session ∧
    (countWords l r hl hr s).sPort = s.sPort ∧ (countWords l r hl hr s).dPort = s.dPort ∧
    (countWords l r hl hr s).power = s.power ∧ (countWords l r hl hr s).params = s.params ∧
    (countWords l r hl hr s).now = s.now ∧ (countWords l r hl hr s).pending = s.pending := by
  unfold countWords; dsimp only; split <;> simp

@[simp] theorem produceFrame_frame (s : State) :
    (produceFrame s).ring = s.ring ∧ (produceFrame s).intake = s.intake ∧
    (produceFrame s).planner = s.planner ∧ (produceFrame s).rates = s.rates ∧
    (produceFrame s).engine = s.engine ∧ (produceFrame s).session = s.session ∧
    (produceFrame s).sPort = s.sPort ∧ (produceFrame s).dPort = s.dPort ∧ (produceFrame s).power = s.power ∧
    (produceFrame s).params = s.params ∧ (produceFrame s).now = s.now ∧ (produceFrame s).pending = s.pending := by
  unfold produceFrame; dsimp only; simp

@[simp] theorem produceSilence_frame (s : State) :
    (produceSilence s).ring = s.ring ∧ (produceSilence s).intake = s.intake ∧
    (produceSilence s).planner = s.planner ∧ (produceSilence s).rates = s.rates ∧
    (produceSilence s).session = s.session ∧ (produceSilence s).sPort = s.sPort ∧
    (produceSilence s).dPort = s.dPort ∧ (produceSilence s).events = s.events ∧
    (produceSilence s).power = s.power ∧ (produceSilence s).params = s.params ∧
    (produceSilence s).now = s.now ∧ (produceSilence s).pending = s.pending := by
  unfold produceSilence; dsimp only; simp

@[simp] theorem judgeAnticipation_frame (s : State) :
    (judgeAnticipation s).ring = s.ring ∧ (judgeAnticipation s).intake = s.intake ∧
    (judgeAnticipation s).planner = s.planner ∧ (judgeAnticipation s).rates = s.rates ∧
    (judgeAnticipation s).conceal = s.conceal ∧ (judgeAnticipation s).line = s.line ∧
    (judgeAnticipation s).session = s.session ∧ (judgeAnticipation s).sPort = s.sPort ∧
    (judgeAnticipation s).dPort = s.dPort ∧ (judgeAnticipation s).events = s.events ∧
    (judgeAnticipation s).power = s.power ∧ (judgeAnticipation s).params = s.params ∧
    (judgeAnticipation s).now = s.now ∧ (judgeAnticipation s).pending = s.pending :=
  ⟨rfl, rfl, rfl, rfl, rfl, rfl, rfl, rfl, rfl, rfl, rfl, rfl, rfl, rfl⟩

@[simp] theorem boundaryEndOfDisc_frame (s : State) :
    (boundaryEndOfDisc s).rates = s.rates ∧ (boundaryEndOfDisc s).line = s.line ∧
    (boundaryEndOfDisc s).sPort = s.sPort ∧ (boundaryEndOfDisc s).dPort = s.dPort ∧
    (boundaryEndOfDisc s).params = s.params ∧ (boundaryEndOfDisc s).now = s.now ∧
    (boundaryEndOfDisc s).pending = s.pending := by unfold boundaryEndOfDisc; (repeat' split) <;> simp

@[simp] theorem boundaryNext_frame (s : State) :
    (boundaryNext s).rates = s.rates ∧ (boundaryNext s).line = s.line ∧ (boundaryNext s).sPort = s.sPort ∧
    (boundaryNext s).dPort = s.dPort ∧ (boundaryNext s).params = s.params ∧ (boundaryNext s).now = s.now ∧
    (boundaryNext s).pending = s.pending := by unfold boundaryNext; (repeat' split) <;> simp

@[simp] theorem releaseSlot_frame (s : State) :
    (releaseSlot s).rates = s.rates ∧ (releaseSlot s).conceal = s.conceal ∧ (releaseSlot s).line = s.line ∧
    (releaseSlot s).session = s.session ∧ (releaseSlot s).sPort = s.sPort ∧ (releaseSlot s).dPort = s.dPort ∧
    (releaseSlot s).power = s.power ∧ (releaseSlot s).params = s.params ∧ (releaseSlot s).now = s.now ∧
    (releaseSlot s).pending = s.pending := by unfold releaseSlot; simp

@[simp] theorem blockBoundary_frame (s : State) :
    (blockBoundary s).rates = s.rates ∧ (blockBoundary s).line = s.line ∧ (blockBoundary s).sPort = s.sPort ∧
    (blockBoundary s).dPort = s.dPort ∧ (blockBoundary s).params = s.params ∧ (blockBoundary s).now = s.now ∧
    (blockBoundary s).pending = s.pending := by unfold blockBoundary; dsimp only; split <;> simp

@[simp] theorem afterFrame_frame (s : State) :
    (afterFrame s).rates = s.rates ∧ (afterFrame s).line = s.line ∧ (afterFrame s).sPort = s.sPort ∧
    (afterFrame s).dPort = s.dPort ∧ (afterFrame s).params = s.params ∧ (afterFrame s).now = s.now ∧
    (afterFrame s).pending = s.pending := by unfold afterFrame; (repeat' split) <;> simp

@[simp] theorem playFrame_frame (s : State) :
    (playFrame s).rates = s.rates ∧ (playFrame s).sPort = s.sPort ∧ (playFrame s).dPort = s.dPort ∧
    (playFrame s).params = s.params ∧ (playFrame s).now = s.now ∧ (playFrame s).pending = s.pending := by
  unfold playFrame; dsimp only; split <;> simp

@[simp] theorem silentTick_frame (s : State) :
    (silentTick s).intake = s.intake ∧ (silentTick s).rates = s.rates ∧ (silentTick s).session = s.session ∧
    (silentTick s).sPort = s.sPort ∧ (silentTick s).dPort = s.dPort ∧ (silentTick s).power = s.power ∧
    (silentTick s).params = s.params ∧ (silentTick s).now = s.now ∧ (silentTick s).pending = s.pending := by
  unfold silentTick; dsimp only; split <;> simp

/-! ### The stream intake -/

@[simp] theorem setRun_frame (r : Run) (s : State) :
    (setRun r s).ring = s.ring ∧ (setRun r s).planner = s.planner ∧ (setRun r s).rates = s.rates ∧
    (setRun r s).engine = s.engine ∧ (setRun r s).conceal = s.conceal ∧ (setRun r s).line = s.line ∧
    (setRun r s).session = s.session ∧ (setRun r s).sPort = s.sPort ∧ (setRun r s).dPort = s.dPort ∧
    (setRun r s).events = s.events ∧ (setRun r s).power = s.power ∧ (setRun r s).params = s.params ∧
    (setRun r s).now = s.now ∧ (setRun r s).pending = s.pending :=
  ⟨rfl, rfl, rfl, rfl, rfl, rfl, rfl, rfl, rfl, rfl, rfl, rfl, rfl, rfl⟩

@[simp] theorem setRx_frame (rx : Receiver) (s : State) :
    (setRx rx s).ring = s.ring ∧ (setRx rx s).planner = s.planner ∧ (setRx rx s).rates = s.rates ∧
    (setRx rx s).engine = s.engine ∧ (setRx rx s).conceal = s.conceal ∧ (setRx rx s).line = s.line ∧
    (setRx rx s).session = s.session ∧ (setRx rx s).sPort = s.sPort ∧ (setRx rx s).dPort = s.dPort ∧
    (setRx rx s).events = s.events ∧ (setRx rx s).power = s.power ∧ (setRx rx s).params = s.params ∧
    (setRx rx s).now = s.now ∧ (setRx rx s).pending = s.pending :=
  ⟨rfl, rfl, rfl, rfl, rfl, rfl, rfl, rfl, rfl, rfl, rfl, rfl, rfl, rfl⟩

@[simp] theorem writeBlock_frame (a : Nat) (b : Block) (s : State) :
    (writeBlock a b s).planner = s.planner ∧ (writeBlock a b s).rates = s.rates ∧
    (writeBlock a b s).engine = s.engine ∧ (writeBlock a b s).conceal = s.conceal ∧
    (writeBlock a b s).line = s.line ∧ (writeBlock a b s).session = s.session ∧
    (writeBlock a b s).sPort = s.sPort ∧ (writeBlock a b s).dPort = s.dPort ∧
    (writeBlock a b s).events = s.events ∧ (writeBlock a b s).power = s.power ∧
    (writeBlock a b s).params = s.params ∧ (writeBlock a b s).now = s.now ∧
    (writeBlock a b s).pending = s.pending := by unfold writeBlock; (repeat' split) <;> simp

@[simp] theorem acceptBlock_frame (r : Run) (a : Nat) (b : Block) (s : State) :
    (acceptBlock r a b s).line = s.line ∧ (acceptBlock r a b s).session = s.session ∧
    (acceptBlock r a b s).sPort = s.sPort ∧ (acceptBlock r a b s).dPort = s.dPort ∧
    (acceptBlock r a b s).power = s.power ∧ (acceptBlock r a b s).params = s.params ∧
    (acceptBlock r a b s).now = s.now ∧ (acceptBlock r a b s).pending = s.pending := by
  unfold acceptBlock; dsimp only; split <;> simp

@[simp] theorem discardIn_frame (r : Run) (a : Nat) (s : State) :
    (discardIn r a s).ring = s.ring ∧ (discardIn r a s).planner = s.planner ∧
    (discardIn r a s).rates = s.rates ∧ (discardIn r a s).engine = s.engine ∧
    (discardIn r a s).conceal = s.conceal ∧ (discardIn r a s).line = s.line ∧
    (discardIn r a s).session = s.session ∧ (discardIn r a s).sPort = s.sPort ∧
    (discardIn r a s).dPort = s.dPort ∧ (discardIn r a s).power = s.power ∧
    (discardIn r a s).params = s.params ∧ (discardIn r a s).now = s.now ∧ (discardIn r a s).pending = s.pending := by
  unfold discardIn; simp

@[simp] theorem discardEndingRun_frame (s : State) :
    (discardEndingRun s).ring = s.ring ∧ (discardEndingRun s).planner = s.planner ∧
    (discardEndingRun s).rates = s.rates ∧ (discardEndingRun s).engine = s.engine ∧
    (discardEndingRun s).conceal = s.conceal ∧ (discardEndingRun s).line = s.line ∧
    (discardEndingRun s).session = s.session ∧ (discardEndingRun s).sPort = s.sPort ∧
    (discardEndingRun s).dPort = s.dPort ∧ (discardEndingRun s).power = s.power ∧
    (discardEndingRun s).params = s.params ∧ (discardEndingRun s).now = s.now ∧
    (discardEndingRun s).pending = s.pending := by unfold discardEndingRun; simp

@[simp] theorem seamCheck_frame (a : Nat) (tag : Byte) (b : Block) (s : State) :
    (seamCheck a tag b s).line = s.line ∧ (seamCheck a tag b s).session = s.session ∧
    (seamCheck a tag b s).sPort = s.sPort ∧ (seamCheck a tag b s).dPort = s.dPort ∧
    (seamCheck a tag b s).power = s.power ∧ (seamCheck a tag b s).params = s.params ∧
    (seamCheck a tag b s).now = s.now ∧ (seamCheck a tag b s).pending = s.pending := by
  unfold seamCheck; dsimp only; (repeat' split) <;> simp

@[simp] theorem audioBegins_frame (a : Nat) (tag : Byte) (b : Block) (s : State) :
    (audioBegins a tag b s).line = s.line ∧ (audioBegins a tag b s).session = s.session ∧
    (audioBegins a tag b s).sPort = s.sPort ∧ (audioBegins a tag b s).dPort = s.dPort ∧
    (audioBegins a tag b s).power = s.power ∧ (audioBegins a tag b s).params = s.params ∧
    (audioBegins a tag b s).now = s.now ∧ (audioBegins a tag b s).pending = s.pending := by
  unfold audioBegins; (repeat' split) <;> simp

@[simp] theorem audioContinues_frame (r : Run) (a : Nat) (b : Block) (s : State) :
    (audioContinues r a b s).line = s.line ∧ (audioContinues r a b s).session = s.session ∧
    (audioContinues r a b s).sPort = s.sPort ∧ (audioContinues r a b s).dPort = s.dPort ∧
    (audioContinues r a b s).power = s.power ∧ (audioContinues r a b s).params = s.params ∧
    (audioContinues r a b s).now = s.now ∧ (audioContinues r a b s).pending = s.pending := by
  unfold audioContinues; (repeat' split) <;> simp

@[simp] theorem audioFrame_frame (h : Header) (b : Block) (s : State) :
    (audioFrame h b s).line = s.line ∧ (audioFrame h b s).session = s.session ∧
    (audioFrame h b s).sPort = s.sPort ∧ (audioFrame h b s).dPort = s.dPort ∧
    (audioFrame h b s).power = s.power ∧ (audioFrame h b s).params = s.params ∧
    (audioFrame h b s).now = s.now ∧ (audioFrame h b s).pending = s.pending := by
  unfold audioFrame; (repeat' split) <;> simp

@[simp] theorem goodHeaderFrame_frame (h : Header) (payload : List Byte) (s : State) :
    (goodHeaderFrame h payload s).line = s.line ∧ (goodHeaderFrame h payload s).sPort = s.sPort ∧
    (goodHeaderFrame h payload s).dPort = s.dPort ∧ (goodHeaderFrame h payload s).power = s.power ∧
    (goodHeaderFrame h payload s).params = s.params ∧ (goodHeaderFrame h payload s).now = s.now ∧
    (goodHeaderFrame h payload s).pending = s.pending := by unfold goodHeaderFrame; (repeat' split) <;> simp

@[simp] theorem cutFrame_frame (ready : Bool) (byte0 : Byte) (s : State) :
    (cutFrame ready byte0 s).line = s.line ∧ (cutFrame ready byte0 s).sPort = s.sPort ∧
    (cutFrame ready byte0 s).dPort = s.dPort ∧ (cutFrame ready byte0 s).power = s.power ∧
    (cutFrame ready byte0 s).params = s.params ∧ (cutFrame ready byte0 s).now = s.now ∧
    (cutFrame ready byte0 s).pending = s.pending := by simp [cutFrame]

/-- What byte 0 of a stream frame does: nothing, or what it does as a cut. -/
theorem takeMarked_cases (ready : Bool) (bytes : List Byte) (s : State) :
    takeMarked ready bytes s = s ∨
      ∃ byte0 rest, bytes = byte0 :: rest ∧ s.intake.rx.holdsOther bytes = true ∧
        takeMarked ready bytes s = cutFrame ready byte0 s := by
  cases bytes with
  | nil => exact .inl rfl
  | cons byte0 rest =>
    by_cases h : s.intake.rx.holdsOther (byte0 :: rest) = true
    · exact .inr ⟨byte0, rest, rfl, h, by simp [takeMarked, h]⟩
    · exact .inl (by simp [takeMarked, h])

@[simp] theorem takeMarked_frame (ready : Bool) (bytes : List Byte) (s : State) :
    (takeMarked ready bytes s).line = s.line ∧ (takeMarked ready bytes s).sPort = s.sPort ∧
    (takeMarked ready bytes s).dPort = s.dPort ∧ (takeMarked ready bytes s).power = s.power ∧
    (takeMarked ready bytes s).params = s.params ∧ (takeMarked ready bytes s).now = s.now ∧
    (takeMarked ready bytes s).pending = s.pending := by
  obtain h | ⟨byte0, _, _, _, h⟩ := takeMarked_cases ready bytes s <;> simp [h]

@[simp] theorem receiveFrame_frame (ready : Bool) (bytes : List Byte) (s : State) :
    (receiveFrame ready bytes s).line = s.line ∧ (receiveFrame ready bytes s).sPort = s.sPort ∧
    (receiveFrame ready bytes s).dPort = s.dPort ∧ (receiveFrame ready bytes s).power = s.power ∧
    (receiveFrame ready bytes s).params = s.params ∧ (receiveFrame ready bytes s).now = s.now ∧
    (receiveFrame ready bytes s).pending = s.pending := by
  unfold receiveFrame; dsimp only; (repeat' split) <;> simp

end Sys2Proof.Machine
end

