-- ==== Sys2Proof/Laws/Ports.lean ====
section
/-! SUPPORT. The ports: when a frame reaches its command, and what each answer leaves on the port. -/

namespace Sys2Proof.Machine

/-! ### The port that an operation changes -/

@[simp] theorem sendStatus_s (more : Nat) (s : State) :
    sendStatus .s more s = { s with sPort := { s.sPort with sent := s.statusByte .s :: List.replicate more 0 } } := rfl

@[simp] theorem sendStatus_d (more : Nat) (s : State) :
    sendStatus .d more s = { s with dPort := { s.dPort with sent := s.statusByte .d :: List.replicate more 0 } } := rfl

@[simp] theorem respond_s (code : RespCode) (data : List Byte) (s : State) :
    respond .s code data s =
      { s with sPort := ⟨some ⟨code, data⟩, code != .ok, s.sPort.sent⟩ } := rfl

@[simp] theorem respond_d (code : RespCode) (data : List Byte) (s : State) :
    respond .d code data s =
      { s with dPort := ⟨some ⟨code, data⟩, code != .ok, s.dPort.sent⟩ } := rfl

theorem respondOk_def (port : Port) (data : List Byte) (s : State) :
    respondOk port data s = respond port .ok (0 :: data) s := rfl

theorem refuse_def (port : Port) (code : RespCode) (s : State) : refuse port code s = respond port code [0] s := rfl

/-! ### The transaction and the judgement -/

/-- With nothing in the way a transaction sends the status byte and goes on. -/
theorem transaction_free {s : State} (h : s.Free) (hm : s.power.mode.isLow = false) (port : Port) (n : Nat)
    (act : State → State) : transaction port n act s = act (sendStatus port (n - 1) s) := by
  simp [transaction, h.1, h.2.1, hm]

/-- A frame made by `goodFrame` sums to 0. -/
@[simp] theorem goodFrame_sum (code : Byte) (params : List Byte) : frameSumGood code (goodFrame code params) = true := by
  simp [frameSumGood, goodFrame, frameN]

@[simp] theorem goodFrame_n (code : Byte) (params : List Byte) : frameN (goodFrame code params) = params.length := rfl

/-- Nothing stands behind the check byte of a good frame. -/
@[simp] theorem goodFrame_clocked (code : Byte) (params : List Byte) :
    frameClocked (goodFrame code params) = params.length + 3 := rfl

@[simp] theorem goodFrame_params (code : Byte) (params : List Byte) : (goodFrame code params).params = params := rfl

/-- A dropped D-port frame leaves all but the bytes sent on the D-port (R155). -/
@[simp] theorem dropFrame_frame (dFrame : List Byte) (s : State) :
    dropFrame dFrame s = { s with dPort := { s.dPort with
      sent := if dFrame = [] then s.dPort.sent else s.statusByte .d :: List.replicate (dFrame.length - 1) 0 } } := by
  cases dFrame <;> rfl

/-- Sending the status byte leaves BUSY as it is. -/
@[simp] theorem sendStatus_busy (port : Port) (n : Nat) (s : State) : (sendStatus port n s).busy = s.busy := by
  simp [State.busy]

theorem free_busy {s : State} (h : s.Free) : s.busy = false := by
  simp [State.busy, h.2.1, h.2.2.1, h.2.2.2]

/-- A good frame that fits, on a free port in a mode that takes it, reaches its command. -/
theorem command_taken {s : State} (h : s.Free) (port : Port) (code : Byte) (params : List Byte) (early : Bool)
    (hm : s.power.mode = .running ∨ s.power.mode = .unconfigured ∧ early = true) (hn : params.length ≤ 32)
    (act : State → State) :
    command port code (goodFrame code params) true early act s = act (sendStatus port (params.length + 2) s) := by
  have hl : s.power.mode.isLow = false := by rcases hm with hm | hm <;> simp [hm, Mode.isLow]
  have hj : judgement code (goodFrame code params) true true early (sendStatus port (params.length + 2) s) = none := by
    have hn' : ¬ 32 < params.length := by omega
    rcases hm with hm | ⟨hm, he⟩ <;> simp [judgement, free_busy h, *]
  simp [command, transaction_free h hl, hj]

/-- A good frame that fits reaches its command in RUNNING. -/
theorem command_ready {s : State} (h : s.Ready) (port : Port) (code : Byte) (params : List Byte) (early : Bool)
    (hn : params.length ≤ 32) (act : State → State) :
    command port code (goodFrame code params) true early act s = act (sendStatus port (params.length + 2) s) :=
  command_taken h.1 port code params early (.inl h.2) hn act

/-- With the session PRESENT a command that needs it runs. -/
theorem withDisc_present {s : State} (h : s.session.state = .present) (port : Port) (act : State → State) :
    withDisc port act s = act s := by simp [withDisc, h]

/-- Outside PRESENT it is answered NO_DISC. -/
theorem withDisc_absent {s : State} (h : s.session.state ≠ .present) (port : Port) (act : State → State) :
    withDisc port act s = refuse port .noDisc s := by simp [withDisc, h]

/-! ### The end of an event -/

/-- An event that calls for no scan, leaves the queue and leaves the pause flag ends as it is. -/
theorem finish_quiet {b s : State} (hd : s.planner.scanDue = false) (hq : b.planner.queue = s.planner.queue)
    (hf : b.pauseFlag = s.pauseFlag) : finish b s = s := by
  have hw : b.planner.workWaits = s.planner.workWaits := by rw [Planner.workWaits, Planner.workWaits, hq]
  have h1 : scanIfDue s = s := by simp [scanIfDue, hd]
  have h2 : tellWork b s s = s := by cases h : s.planner.workWaits <;> simp [tellWork, hw, h]
  have h3 : tellPause b s = s := by simp [tellPause, hf]
  rw [finish, h1, h2, h3]

end Sys2Proof.Machine
end

