-- ==== Sys2Proof/Laws/Ring.lean ====
section
/-! SUPPORT. The ring store: reading after writing, and the canonical form that every operation keeps. -/

namespace Sys2Proof.Machine

/-! ### The slot list -/

/-- Every listed index is above `lo`. -/
def allAbove (lo : Nat) (l : List (Nat × Slot)) : Prop := ∀ x ∈ l, lo < x.1

theorem slotsWf_nil : slotsWf [] = true := rfl

/-- The canonical form of a list with a head. -/
theorem slotsWf_cons (i : Nat) (v : Slot) (l : List (Nat × Slot)) :
    slotsWf ((i, v) :: l) = true ↔ v.isEmpty = false ∧ allAbove i l ∧ slotsWf l = true := by
  constructor
  · intro h
    induction l generalizing i v with
    | nil => simp_all [slotsWf, indicesRise, allAbove]
    | cons x rest ih =>
      obtain ⟨j, u⟩ := x
      simp only [slotsWf, indicesRise, List.all_cons, Bool.and_eq_true, decide_eq_true_eq, Bool.not_eq_true'] at h
      obtain ⟨⟨hij, hr⟩, hv, hu, ha⟩ := h
      have hw : slotsWf ((j, u) :: rest) = true := by
        simp only [slotsWf, List.all_cons, Bool.and_eq_true, Bool.not_eq_true']
        exact ⟨hr, hu, ha⟩
      obtain ⟨-, hab, -⟩ := ih j u hw
      refine ⟨hv, ?_, hw⟩
      intro x hx
      rcases List.mem_cons.mp hx with rfl | hx
      · exact hij
      · exact Nat.lt_trans hij (hab x hx)
  · rintro ⟨hv, ha, hw⟩
    cases l with
    | nil => simp [slotsWf, indicesRise, hv]
    | cons x rest =>
      obtain ⟨j, u⟩ := x
      have hij := ha (j, u) (by simp)
      simp only [slotsWf, indicesRise, List.all_cons, Bool.and_eq_true, decide_eq_true_eq, Bool.not_eq_true'] at hw ⊢
      exact ⟨⟨hij, hw.1⟩, hv, hw.2⟩

/-- An index below all listed ones reads EMPTY. -/
theorem slotsGet_below {i : Nat} {l : List (Nat × Slot)} (h : allAbove i l) : slotsGet i l = .empty := by
  induction l with
  | nil => rfl
  | cons x rest ih =>
    obtain ⟨j, u⟩ := x
    have hij : i < j := h (j, u) (by simp)
    simp only [slotsGet, Nat.ne_of_lt hij, if_false]
    exact ih fun y hy => h y (by simp [hy])

/-- A write lists nothing but the slot written and what was listed. -/
theorem mem_slotsPut {i : Nat} {v : Slot} {l : List (Nat × Slot)} {x : Nat × Slot} (h : x ∈ slotsPut i v l) :
    x = (i, v) ∨ x ∈ l := by
  induction l with
  | nil => unfold slotsPut at h; split at h <;> simp_all
  | cons y rest ih =>
    obtain ⟨j, u⟩ := y
    unfold slotsPut at h
    (repeat' split at h) <;> simp only [List.mem_cons] at h ⊢ <;> tauto

theorem allAbove_put {lo i : Nat} {v : Slot} {l : List (Nat × Slot)} (hl : allAbove lo l) (hi : lo < i) :
    allAbove lo (slotsPut i v l) := fun x hx =>
  match mem_slotsPut hx with
  | .inl h => h ▸ hi
  | .inr h => hl x h

/-- A write keeps the canonical form. -/
theorem slotsPut_wf (i : Nat) (v : Slot) (l : List (Nat × Slot)) (h : slotsWf l = true) :
    slotsWf (slotsPut i v l) = true := by
  induction l with
  | nil =>
    unfold slotsPut
    split
    · rfl
    · rename_i hv
      exact (slotsWf_cons i v []).mpr ⟨by simpa using hv, by simp [allAbove], rfl⟩
  | cons x rest ih =>
    obtain ⟨j, u⟩ := x
    obtain ⟨hu, ha, hr⟩ := (slotsWf_cons j u rest).mp h
    unfold slotsPut
    split
    · rename_i hij
      split
      · exact h
      · rename_i hv
        refine (slotsWf_cons i v _).mpr ⟨by simpa using hv, ?_, h⟩
        intro y hy
        rcases List.mem_cons.mp hy with rfl | hy
        · exact hij
        · exact Nat.lt_trans hij (ha y hy)
    · split
      · rename_i _ hij
        subst hij
        split
        · exact hr
        · rename_i hv
          exact (slotsWf_cons i v rest).mpr ⟨by simpa using hv, ha, hr⟩
      · rename_i h1 h2
        exact (slotsWf_cons j u _).mpr ⟨hu, allAbove_put ha (by omega), ih hr⟩

/-- Reading the index just written gives the slot written. -/
theorem slotsGet_put_same (i : Nat) (v : Slot) (l : List (Nat × Slot)) (h : slotsWf l = true) :
    slotsGet i (slotsPut i v l) = v := by
  have hempty : ∀ w : Slot, w.isEmpty = true → w = .empty := by intro w hw; cases w <;> simp_all [Slot.isEmpty]
  induction l with
  | nil =>
    unfold slotsPut
    split
    · rename_i hv; rw [hempty v hv]; rfl
    · simp [slotsGet]
  | cons x rest ih =>
    obtain ⟨j, u⟩ := x
    obtain ⟨hu, ha, hr⟩ := (slotsWf_cons j u rest).mp h
    unfold slotsPut
    split
    · rename_i hij
      split
      · rename_i hv
        rw [hempty v hv]
        refine slotsGet_below ?_
        intro y hy
        rcases List.mem_cons.mp hy with rfl | hy
        · exact hij
        · exact Nat.lt_trans hij (ha y hy)
      · simp [slotsGet]
    · split
      · rename_i _ hij
        subst hij
        split
        · rename_i hv
          rw [hempty v hv]
          exact slotsGet_below ha
        · simp [slotsGet]
      · rename_i h1 h2
        simp only [slotsGet, h2, if_false]
        exact ih hr

/-- A write leaves every other index as it was. -/
theorem slotsGet_put_other {i k : Nat} (hk : k ≠ i) (v : Slot) (l : List (Nat × Slot)) :
    slotsGet k (slotsPut i v l) = slotsGet k l := by
  induction l with
  | nil => unfold slotsPut; split <;> simp [slotsGet, hk]
  | cons x rest ih =>
    obtain ⟨j, u⟩ := x
    unfold slotsPut
    split
    · split <;> simp [slotsGet, hk]
    · split
      · rename_i _ hij
        subst hij
        split <;> simp [slotsGet, hk]
      · simp only [slotsGet, ih]

/-! ### The operations of the ring keep the form, the straps and L -/

theorem setSlot_wf (a : Nat) (v : Slot) {r : Ring} (h : slotsWf r.slots = true) :
    slotsWf (r.setSlot a v).slots = true := slotsPut_wf _ _ _ h

theorem markMissing_wf (n a : Nat) {r : Ring} (h : slotsWf r.slots = true) :
    slotsWf (markMissing n a r).slots = true := by
  induction n generalizing a r with
  | zero => exact h
  | succ n ih =>
    unfold markMissing
    split
    · exact ih _ (setSlot_wf _ _ h)
    · exact ih _ h

theorem emptySlots_wf (n a : Nat) {r : Ring} (h : slotsWf r.slots = true) :
    slotsWf (emptySlots n a r).slots = true := by
  induction n generalizing a r with
  | zero => exact h
  | succ n ih => exact ih _ (setSlot_wf _ _ h)

theorem place_wf (a : Nat) (b : Block) {r : Ring} (h : slotsWf r.slots = true) :
    slotsWf (r.place a b).slots = true := by
  unfold Ring.place
  split
  · exact setSlot_wf _ _ (markMissing_wf _ _ h)
  · exact h

theorem accept_wf (a : Nat) (b : Block) {r : Ring} (h : slotsWf r.slots = true) :
    slotsWf (r.accept a b).slots = true := by
  unfold Ring.accept
  split
  · exact setSlot_wf _ _ h
  · exact h

theorem giveUpHole_wf (a : Nat) {r : Ring} (h : slotsWf r.slots = true) :
    slotsWf (r.giveUpHole a).slots = true := by
  unfold Ring.giveUpHole
  split
  · exact setSlot_wf _ _ h
  · exact h

theorem giveUp_wf (a : Nat) {r : Ring} (h : slotsWf r.slots = true) : slotsWf (r.giveUp a).slots = true := by
  unfold Ring.giveUp
  split
  · exact setSlot_wf _ _ h
  · exact h

theorem release_wf {r : Ring} (h : slotsWf r.slots = true) : slotsWf r.release.slots = true := by
  unfold Ring.release
  split
  · exact h
  · exact setSlot_wf _ _ h

theorem advance_wf (a : Nat) {r : Ring} (h : slotsWf r.slots = true) : slotsWf (r.advance a).slots = true :=
  emptySlots_wf _ _ h

theorem flush_wf (a : Nat) (owner : Option (BitVec 32)) (r : Ring) : slotsWf (r.flush a owner).slots = true := rfl

theorem markMissing_frame (n a : Nat) (r : Ring) :
    (markMissing n a r).straps = r.straps ∧ (markMissing n a r).p = r.p ∧ (markMissing n a r).e = r.e ∧
    (markMissing n a r).owner = r.owner ∧ (markMissing n a r).clear = r.clear := by
  induction n generalizing a r with
  | zero => exact ⟨rfl, rfl, rfl, rfl, rfl⟩
  | succ n ih =>
    unfold markMissing
    split
    · exact ih (a + 1) (r.setSlot a (.missing a))
    · exact ih _ _

theorem emptySlots_frame (n a : Nat) (r : Ring) :
    (emptySlots n a r).straps = r.straps ∧ (emptySlots n a r).p = r.p ∧ (emptySlots n a r).e = r.e ∧
    (emptySlots n a r).owner = r.owner ∧ (emptySlots n a r).clear = r.clear := by
  induction n generalizing a r with
  | zero => exact ⟨rfl, rfl, rfl, rfl, rfl⟩
  | succ n ih => exact ih (a + 1) (r.setSlot a .empty)

/-! ### Reading by address -/

/-- Within a window the addresses and the indices match one to one (R3). -/
theorem mod_injective {len p a b : Nat} (ha : p ≤ a ∧ a < p + len) (hb : p ≤ b ∧ b < p + len)
    (h : a % len = b % len) : a = b := by
  have hl : 0 < len := by omega
  have h1 := Nat.div_add_mod a len
  have h2 := Nat.div_add_mod b len
  by_contra hne
  rcases Nat.lt_or_gt_of_ne hne with hlt | hlt
  · have : a / len < b / len := by
      by_contra hc
      have := Nat.mul_le_mul_left len (Nat.le_of_not_lt hc)
      omega
    have := Nat.mul_le_mul_left len (Nat.succ_le_of_lt this)
    rw [Nat.mul_succ] at this
    omega
  · have : b / len < a / len := by
      by_contra hc
      have := Nat.mul_le_mul_left len (Nat.le_of_not_lt hc)
      omega
    have := Nat.mul_le_mul_left len (Nat.succ_le_of_lt this)
    rw [Nat.mul_succ] at this
    omega

theorem slot_setSlot_same (a : Nat) (v : Slot) {r : Ring} (h : slotsWf r.slots = true) :
    (r.setSlot a v).slot a = v := slotsGet_put_same _ _ _ h

theorem slot_setSlot_other {a b : Nat} (v : Slot) {r : Ring} (h : b % r.len ≠ a % r.len) :
    (r.setSlot a v).slot b = r.slot b := slotsGet_put_other h _ _

/-! ### Reset -/

/-- SLEEPING loses the slots and keeps the window, the owner and the figures (R19). -/
@[simp] theorem loseSlots_frame (r : Ring) :
    r.loseSlots.slots = [] ∧ r.loseSlots.p = r.p ∧ r.loseSlots.e = r.e ∧ r.loseSlots.owner = r.owner ∧
    r.loseSlots.straps = r.straps ∧ r.loseSlots.clear = r.clear ∧ r.loseSlots.len = r.len :=
  ⟨rfl, rfl, rfl, rfl, rfl, rfl, rfl⟩

@[simp] theorem loseSlots_figures (r : Ring) : r.loseSlots.figures = r.figures := rfl

theorem reset_slots_wf : slotsWf State.reset.ring.slots = true := rfl

end Sys2Proof.Machine
end

