-- ==== Sys2Proof/WellFormed.lean ====
section
/-! DEFINITION. Which commands are well formed: the operands a sender can give each row of the table. -/

namespace Sys2Proof

open Machine

/-- The frame's length byte can carry N (R158). -/
def Frame.wf (fr : Frame) : Bool := fr.params.length ≤ 255

/-- A transaction clocks its status byte at least (R148). A selection in which SS rises before a whole byte is no command:
DESIGN CHOICE (log 43). -/
def clockedWf (clocked : Nat) : Bool := 1 ≤ clocked

/-- The header is one that R21 lets go on to its payload whatever the session is: a DIRECTORY with a good check and a
length of 5..770. An AUDIO header of any length is bad in some session. -/
def alwaysGoesOn (h : Header) : Bool := h.crcGood && h.kind == 0x02 && 5 ≤ h.length && h.length ≤ 770

/-- The stream frame can be concluded: ten header bytes, with which a bad header concludes it (R21), and the payload that
the header declares where no session finds the header bad (R20). -/
def streamWf (bytes : List Byte) : Bool :=
  10 ≤ bytes.length && (!alwaysGoesOn (readHeader bytes) || 10 + (readHeader bytes).length ≤ bytes.length)

/-- A command frame cut short: it begins with a code other than the poll's, and its check byte is missing (R148). With no
whole byte there is no frame to cut: DESIGN CHOICE (log 43). -/
def cutWf (bytes : List Byte) : Bool :=
  match bytes with
  | [] => false
  | [code] => code != 0
  | code :: n :: rest => code != 0 && rest.length ≤ n.toNat

/-- The code begins a command frame and names no command of the port (R149). -/
def unknownWf (port : Port) (code : Byte) : Bool := code != 0 && !knownCode port code

/-- The command is well formed. -/
def Instr.wf : Instr → Bool
  | .powerOn _ => true
  | .resetLineAsserted => true
  | .resetLineReleased _ => true
  | .ringClearEnd => true
  | .streamFrame _ bytes => streamWf bytes
  | .frameCutShort _ _ => true
  | .stepUp => true
  | .stepDown => true
  | .frameClock => true
  | .holeWaitExpiry => true
  | .fillStalled => true
  | .orderTimeout => true
  | .identifyTimerExpiry => true
  | .trayDebounced => true
  | .wakeEdge => true
  | .wakeDelayEnd _ => true
  | .holdFadeWatchdog => true
  | .attentionPulseEnd _ => true
  | .poll _ clocked => clockedWf clocked
  | .transactionCutShort _ bytes => cutWf bytes
  | .unknownCommand port code fr => unknownWf port code && fr.wf
  | .lowPowerTransaction _ clocked => clockedWf clocked
  | .start fr => fr.wf
  | .configure fr => fr.wf
  | .softReset _ fr => fr.frame.wf && (fr.dFrame.isEmpty || cutWf fr.dFrame)
  | .queryStatus fr => fr.wf
  | .readEvents _ fr => fr.wf
  | .readCounters fr => fr.wf
  | .queryPosition fr => fr.wf
  | .playAt fr => fr.wf
  | .playProgram fr => fr.wf
  | .pause fr => fr.wf
  | .resume fr => fr.wf
  | .stop fr => fr.wf
  | .discLoaded fr => fr.wf
  | .discRelease fr => fr.wf
  | .queryDirectory fr => fr.wf
  | .queryResume fr => fr.wf
  | .forgetResume fr => fr.wf
  | .hold fr => fr.wf
  | .sleep fr => fr.wf
  | .takeOrder fr => fr.wf
  | .orderDone fr => fr.wf
  | .rateOffer fr => fr.wf
  | .skipNotice fr => fr.wf
  | .driveRestart fr => fr.wf
  | .queryPlan fr => fr.wf
  | .powerLost => true
  | .trayLineChange _ => true

end Sys2Proof
end

