-- ==== Sys2Proof/Tests/Slice0.lean ====
section
/-! SUPPORT. Tests: the checks of WellFormed, the spec's own numbers, single steps, and for each statement of
Obligations.lean that has hypotheses a state and operands that meet them. -/

namespace Sys2Proof.Tests

open Machine

/-! ### WellFormed refuses what no sender can send -/

theorem test_wf_frame_length : (Instr.configure ⟨List.replicate 256 0, 0, []⟩).wf = false := by decide +kernel
theorem test_wf_poll_without_status : (Instr.poll .s 0).wf = false := by decide
theorem test_wf_low_power_without_status : (Instr.lowPowerTransaction .d 0).wf = false := by decide
theorem test_wf_stream_header_missing : (Instr.streamFrame true (List.replicate 9 0)).wf = false := by decide
theorem test_wf_stream_payload_missing :
    (Instr.streamFrame true [2, 0, 0, 0, 0, 0, 5, 0, 0x41, 0x6D, 0, 0, 0, 0]).wf = false := by decide +kernel
/-- Headers that R21 concludes as bad need no payload: a kind that is none, AUDIO and DIRECTORY lengths that are wrong. -/
theorem test_wf_stream_bad_headers : ∀ head ∈ [[3, 0, 0, 0, 0, 0, 5, 0], [1, 0, 0, 0, 0, 0, 0x54, 7],
      [1, 0, 0, 0, 0, 0, 0xF8, 7], [2, 0, 0, 0, 0, 0, 4, 0], [2, 0, 0, 0, 0, 0, 3, 3]],
    let bytes : List Byte := head ++ [(crc16 head).extractLsb' 8 8, (crc16 head).extractLsb' 0 8]
    (readHeader bytes).crcGood = true ∧ (Instr.streamFrame true bytes).wf = true := by decide +kernel
theorem test_wf_cut_of_nothing : (Instr.transactionCutShort .s []).wf = false := by decide
theorem test_wf_cut_of_a_poll : (Instr.transactionCutShort .s [0]).wf = false := by decide
theorem test_wf_cut_after_the_check : (Instr.transactionCutShort .s [7, 0, 0xF9]).wf = false := by decide
theorem test_wf_unknown_is_known : (Instr.unknownCommand .d 0x21 ⟨[], 0, []⟩).wf = false := by decide
theorem test_wf_unknown_is_a_poll : (Instr.unknownCommand .s 0 ⟨[], 0, []⟩).wf = false := by decide
theorem test_wf_reset_frame : (Instr.softReset 0 ⟨⟨List.replicate 256 0, 0, []⟩, []⟩).wf = false ∧
    (Instr.softReset 0 ⟨goodFrame 0x03 [], [7, 0, 0xF9]⟩).wf = false ∧
    (Instr.softReset 0 ⟨goodFrame 0x03 [], [0x21, 0]⟩).wf = true := by decide +kernel
theorem test_wf_good_ones :
    (Instr.unknownCommand .s 0x21 ⟨[], 0, []⟩).wf = true ∧ (Instr.transactionCutShort .s [8, 5, 1]).wf = true ∧
    (Instr.poll .d 1).wf = true ∧ (Instr.stop ⟨[], 0, []⟩).wf = true := by decide

/-- The table gives no row a bit, so no word spells a command. -/
theorem test_no_word_decodes : decodeTableWord 0 0 = none ∧ decodeTableWord 8 0x21 = none := by decide

/-! ### Numbers that the spec writes out -/

/-- The check value of R21 over the bytes 31 to 39. -/
theorem test_crc16_check_value : crc16 [0x31, 0x32, 0x33, 0x34, 0x35, 0x36, 0x37, 0x38, 0x39] = 0x29B1 := by decide +kernel

/-- The check value of R138 over the same bytes. -/
theorem test_crc32_check_value :
    crc32 [0x31, 0x32, 0x33, 0x34, 0x35, 0x36, 0x37, 0x38, 0x39] = 0xCBF43926 := by decide +kernel

/-- The rows of 07 section 7.3.1: ties are rounded away from zero. -/
theorem test_interpolation_cases :
    interpolate 10 3 2 1 = 8 ∧ interpolate 10 3 2 2 = 5 ∧ interpolate 0 3 1 1 = 2 ∧ interpolate 0 (-3) 1 1 = -2 := by decide

/-- The rows of 07 section 7.7.1. -/
theorem test_output_words :
    outWord 1001 4096 2048 = 501 ∧ (outWord (-1001) 4096 2048).toInt = -501 ∧
    (outWord (-32768) 4096 4095).toInt = -32760 ∧ outWord 32767 4096 4096 = 32767 ∧
    outWord 520 4096 4032 = 512 ∧ outWord 300 2896 3968 = 205 ∧ outWord 3 1 4096 = 0 := by decide

/-- R101: the default hole wait at both rate codes. -/
theorem test_hole_wait_frames :
    RateCode.msToFrames .r44100 200 = 8820 ∧ RateCode.msToFrames .r48000 200 = 9600 := by decide

/-- R1: L from each strap value. -/
theorem test_ring_lengths :
    ringLength 0 = 512 ∧ ringLength 1 = 1024 ∧ ringLength 2 = 2048 ∧ ringLength 3 = 2048 := by decide

/-- R80's ladder: with the full offer 4x steps to 2x, with 1x and 4x alone to 1x, and from 1x there is none. -/
theorem test_rate_ladder :
    (Offer.mk true true).below .x4 = some .x2 ∧ (Offer.mk false true).below .x4 = some .x1 ∧
    (Offer.mk true true).below .x1 = none ∧ (Offer.mk true false).atMost .x4 = .x2 := by decide

/-- R65: 255 is followed by 1. -/
theorem test_tags_wrap : nextTag 255 = 1 ∧ nextTag 254 = 255 ∧ nextTag 0 = 1 := by decide

/-- R52's table, one position a row. -/
theorem test_merge_rows :
    mergeWords [true, true, false, false] [1, 2, 3, 4] [false, true, false, true] [5, 6, 7, 8] = [5, 2, 3, 4] ∧
    mergeMarks [true, true, false, false] [false, true, false, true] = [false, true, false, false] := by decide

/-! ### States for the tests -/

/-- After the first ring clear: UNCONFIGURED and free. -/
def idleState : State := { State.reset with ring := { State.reset.ring with clear := none } }

/-- RUNNING with no disc. -/
def runningState : State := { idleState with power := { idleState.power with mode := .running } }

/-- A disc of two programs. -/
def disc : Directory := ⟨.r44100, 1000, [0, 5]⟩

/-- A played block: 882 clean words, all 100. -/
def block (a : Nat) : Slot := .clean a (List.replicate 882 100) .stream

/-- A block with one mark, at its first word. -/
def flawedBlock (a : Nat) : Slot := .flawed a (true :: List.replicate 881 false) (List.replicate 882 100) .stream false

/-- PRESENT in a play state, with a ring of P and E whose listed slots are given. -/
def presentState (play : Play) (p e : Nat) (slots : List (Nat × Slot)) : State :=
  { runningState with
    ring := { runningState.ring with p := p, e := e, slots := slots }
    session := { runningState.session with state := .present, directory := some disc, fingerprint := some 7 }
    engine := { runningState.engine with play := play, intent := .play, slotOpen := play.producing } }

/-- PLAYING in slot 3 of 3..6: a hole at 4, clean blocks else. -/
def playingState : State := presentState .playing 3 6 [(3, block 3), (4, .missing 4), (5, block 5)]

/-- An entry for the hole at 4. -/
def holeOrder (attempts : Nat) (issue : Option Issue) : Order := ⟨4, 1, attempts, issue⟩

/-- PLAYING, with the hole's entry in the queue. -/
def orderState (attempts : Nat) (issue : Option Issue) : State :=
  { playingState with planner := { playingState.planner with queue := [holeOrder attempts issue] } }

/-- An ISSUED entry's fields. -/
def anIssue : Issue := ⟨255, 4, 10, 1500010⟩

/-- LIMITED to 1x of the full offer, at the upgrade interval and the downgrade limit. -/
def limitedState (requested : Rate) : State :=
  { playingState with
    rates := ⟨some ⟨⟨true, true⟩, .x4, requested⟩, if requested = .x4 then 0 else 6000, none⟩
    planner := { playingState.planner with fails := 3 } }

/-- STARVED at the hole in slot 4, the count at the limit. -/
def waitingState (count : Nat) : State :=
  { presentState .starved 4 6 [(4, .missing 4), (5, block 5)] with
    engine := { playingState.engine with play := .starved, slotOpen := false, holeWait := count } }

/-- A step's next state, for a look at one field of it. -/
def after {α : Type} (look : State → α) (o : Host.Outcome State Fault Refusal) : Option α :=
  match o with
  | .next t => some (look t)
  | _ => none

/-! ### Single steps -/

/-- R17, R170: the clear of 512 headers ends 1,024 µs after it began, and BUSY with it. -/
theorem test_ring_clear_end :
    after (fun t => (t.now, t.busy, t.power.mode)) (exec .ringClearEnd State.reset) =
      some (1024, false, Mode.unconfigured) := by decide

/-- R13, R94: the last frame of slot 3 releases it; the hole behind it is STARVED. -/
theorem test_frame_clock_into_a_hole :
    after (fun t => (t.ring.p, t.ring.e, t.engine.f, t.engine.play))
      (exec .frameClock { playingState with engine := { playingState.engine with f := 440 } }) =
      some (4, 6, 0, Play.starved) := by decide

/-- R63: the hole's entry is read from the slot behind the open one, its lead-in cut off there. -/
theorem test_take_order_read_from :
    after (fun t => (t.dPort.response.map Response.data))
      (exec (.takeOrder (goodFrame 0x21 [])) (orderState 0 none)) =
      some (some [0, 1, 4, 0, 0, 4, 0, 0, 1, 0, 1]) := by decide

/-- R66: an answer for a tag that is not out is STALE. -/
theorem test_order_done_stale :
    after (fun t => (t.dPort.response.map Response.data))
      (exec (.orderDone (goodFrame 0x22 [9, 0])) (orderState 1 (some anIssue))) = some (some [2, 9, 3]) := by decide

/-- R69: a third failure gives the hole up to VOID. -/
theorem test_order_given_up :
    after (fun t => (t.slot 4, t.planner.queue, t.dPort.response.map Response.data))
      (exec (.orderDone (goodFrame 0x22 [255, 0])) (orderState 3 (some anIssue))) =
      some (Slot.void 4, [], some [0, 255, 2]) := by decide

/-- R39: no run, E = 6. -/
theorem test_skip_notice :
    after (fun t => (t.dPort.response.map Response.data)) (exec (.skipNotice (goodFrame 0x24 [5, 0, 0])) playingState) =
      some (some [0, 6, 0, 0, 0, 0, 0, 0]) := by decide

/-- R81: a ceiling of 3 is taken down to 2x. -/
theorem test_rate_offer_under_ceiling :
    after (fun t => (t.dPort.response.map Response.data))
      (exec (.rateOffer (goodFrame 0x23 [6])) { playingState with params := { playingState.params with ceiling := 3 } }) =
      some (some [0, 2, 2, 1]) := by decide

/-- R105: a jump to the hole. -/
theorem test_play_at_hole :
    after (fun t => (t.ring.p, t.engine.play, t.sPort.response.map Response.data))
      (exec (.playAt (goodFrame 0x08 [4, 0, 0, 0, 2])) playingState) =
      some (4, Play.starved, some [1, 4, 0, 0, 0xB8, 1, 5]) := by decide

/-- R104: program 9 of two is clamped to program 2, at block 5. -/
theorem test_play_program_clamped :
    after (fun t => (t.ring.p, t.engine.play, t.sPort.response.map Response.data))
      (exec (.playProgram (goodFrame 0x09 [9])) playingState) =
      some (5, Play.playing, some [1, 5, 0, 0, 0, 0, 2]) := by decide

/-- R154: a start depth of 300 at L = 512 becomes 256, with CLAMPED. -/
theorem test_configure_clamps :
    after (fun t => (t.params.startDepth, t.sPort.response.map Response.data))
      (exec (.configure (goodFrame 0x02 [1, 44, 1, 0])) idleState) = some (256, some [1, 1]) := by decide

/-- R135, R143: a release in PAUSED stores the entry and ends the session. -/
theorem test_release_stores_entry :
    after (fun t => (t.session.state, t.session.table.map ResumeEntry.address, t.engine.play))
      (exec (.discRelease (goodFrame 0x0E [])) { playingState with engine := { playingState.engine with play := .paused } }) =
      some (SessionState.noDisc, [3], Play.halted) := by decide

/-- R169: an edge on WAKE in SLEEPING. -/
theorem test_wake_edge :
    after (fun t => (t.power.wake, t.power.supply))
      (exec .wakeEdge { idleState with power := { idleState.power with mode := .sleeping, supply := false } }) =
      some (some WakeSource.wake, true) := by decide

/-! ### The hypotheses of the statements can be met -/

theorem witness_StepRunsFrontCommand :
    ({ idleState with pending := [.frameClock, .wakeEdge] } : State).pending = .frameClock :: [.wakeEdge] ∧
    idleState.pending = [] := by decide

theorem witness_SupplyResets : idleState.power.resetLine = false ∧ idleState.power.powered = true ∧
    ({ idleState with power := { idleState.power with resetLine := true } } : State).power.resetLine = true := by decide

theorem witness_ResetLineResets : idleState.power.powered = true ∧ idleState.power.resetLine = false ∧
    ({ idleState with power := { idleState.power with resetLine := true } } : State).power.powered = true := by decide

theorem witness_SoftResetResets : idleState.Free ∧ idleState.power.mode = .unconfigured ∧ runningState.Free ∧
    runningState.power.mode = .running := by decide

theorem witness_StartBeginsRunning : idleState.Free ∧ idleState.planner.scanDue = false ∧
    idleState.power.mode = .unconfigured ∧ idleState.session.state = .noDisc ∧
    runningState.Free ∧ runningState.planner.scanDue = false ∧ runningState.power.mode = .running := by decide

/-- SLEEPING, a wake under way, its ring clear running. -/
def wakingState : State :=
  { State.reset with power := { State.reset.power with mode := .sleeping, wake := some .tray } }

/-- A ring clear under way, the fill latch clear or still set from before a SLEEP. -/
theorem witness_RingClearEnds : idleState.ring.clear = none ∧
    (∀ l ∈ [false, true], let u := { State.reset with intake := { State.reset.intake with latch := l } }
      let w := { wakingState with intake := { wakingState.intake with latch := l } }
      u.ring.clear = some ⟨0⟩ ∧ u.planner.scanDue = false ∧ u.power.mode = .unconfigured ∧
      w.ring.clear = some ⟨0⟩ ∧ w.planner.scanDue = false ∧ w.power.mode = .sleeping ∧
      w.power.wake = some .tray ∧ w.session.state = .noDisc) := by decide

/-- R36, R37: a latch kept through SLEEP is cleared with the ring clear, and PAUSE_CHANGED tells the drive. -/
theorem test_ring_clear_releases_pause :
    after (fun t => (t.intake.latch, t.pauseFlag, t.events.dSet))
      (exec .ringClearEnd { wakingState with intake := { wakingState.intake with latch := true } }) =
      some (false, false, [⟨.pauseChanged false, 1⟩]) := by decide

/-- HELD with the tray known open and the line closed. -/
def heldState : State :=
  { idleState with
    power := { idleState.power with mode := .held }, session := { idleState.session with tray := some .opened } }

theorem witness_TrayLineDebounces : Tray.opened ≠ idleState.session.trayLine ∧ Tray.closed = idleState.session.trayLine ∧
    (∀ s ∈ [idleState, runningState, heldState],
      s.power.powered = true ∧ s.planner.scanDue = false ∧ s.session.tray ≠ some s.session.trayLine) ∧
    idleState.power.mode = .unconfigured ∧ runningState.power.mode = .running ∧
    runningState.session.state = .noDisc ∧ runningState.session.trayLine = .closed ∧
    heldState.power.mode = .held ∧ heldState.session.tray ≠ none ∧ heldState.power.wake = none := by decide

/-- RUNNING with a tray state that the raw line has left. -/
def trayState (old line : Tray) : State :=
  { playingState with session := { playingState.session with tray := some old, trayLine := line } }

theorem witness_TrayLineDebounces_running : ∀ x ∈ [(Tray.closed, Tray.opened), (Tray.opened, Tray.closed)],
    let s := trayState x.1 x.2
    s.Free ∧ s.power.mode = .running ∧ s.session.tray = some x.1 ∧ s.session.tray ≠ some s.session.trayLine ∧
      s.planner.scanDue = false := by decide

/-- The first state after a reset: in HELD no wake (log 29), in RUNNING nothing for OPEN, the load for CLOSED. -/
def firstState (mode : Mode) (line : Tray) : State :=
  { idleState with
    power := { idleState.power with mode := mode }, session := { idleState.session with trayLine := line } }

theorem witness_TrayLineDebounces_first : (∀ m ∈ [Mode.held, .sleeping, .running], ∀ l ∈ [Tray.opened, .closed],
    let s := firstState m l
    s.power.powered = true ∧ s.planner.scanDue = false ∧ s.session.tray = none ∧ s.power.mode = m ∧
      s.session.trayLine = l ∧ s.Free) := by decide

/-- HELD with a wake under way. -/
def heldWake : State := { heldState with power := { heldState.power with wake := some .wake } }

/-- SLEEPING with a wake under way, its ring clear not begun. -/
def sleepWake : State := { heldWake with power := { heldWake.power with mode := .sleeping } }

theorem witness_WakeBeginsAndEnds : heldState.power.powered = true ∧ heldState.power.mode = .held ∧
    heldState.power.wake = none ∧ heldWake.power.wake ≠ none ∧ runningState.power.mode = .running ∧
    (∀ s ∈ [heldWake, sleepWake], s.power.wake = some .wake ∧ s.ring.clear = none ∧ s.session.state = .noDisc ∧
      s.planner.scanDue = false) ∧ heldWake.power.mode = .held ∧ sleepWake.power.mode = .sleeping := by decide

/-- An entry to SLEEP waiting for its fade. -/
def fadingState : State :=
  { presentState (.rampDown .leave) 3 4 [(3, block 3)] with
    session := { playingState.session with state := .leaving }
    power := { playingState.power with entry := some ⟨.sleeping, 5⟩ } }

/-- The tray opens or closes while the entry waits for its fade. -/
def fadingTray (old line : Tray) : State :=
  { fadingState with session := { fadingState.session with tray := some old, trayLine := line, pendingLoad := true } }

theorem witness_TrayLineDebounces_leaving : (∀ x ∈ [(Tray.closed, Tray.opened), (Tray.opened, Tray.closed)],
    let s := fadingTray x.1 x.2
    s.power.powered = true ∧ s.planner.scanDue = false ∧ s.session.tray ≠ some s.session.trayLine ∧
      s.session.tray ≠ none ∧ s.power.mode = .running ∧ s.session.state = .leaving ∧ s.power.entry.isSome = true) ∧
    heldWake.power.wake ≠ none ∧ heldWake.session.tray ≠ some heldWake.session.trayLine := by decide

/-- R135, R166: an OPEN tray clears the pending load while an entry is in progress. -/
theorem test_tray_opens_in_an_entry :
    after (fun t => (t.session.state, t.session.pendingLoad, t.power.entry.isSome))
      (exec .trayDebounced (fadingTray .closed .opened)) = some (.leaving, false, true) := by decide

theorem witness_WatchdogEndsFade : fadingState.power.entry = some ⟨.sleeping, 5⟩ ∧
    fadingState.engine.play = .rampDown .leave ∧ fadingState.session.state = .leaving ∧
    fadingState.session.directory = some disc ∧ fadingState.session.fingerprint = some 7 := by decide

/-- Every timer runs; `told` says that both flags are set already. -/
def timedState (told : Bool) : State :=
  { idleState with
    engine := { idleState.engine with stall := some ⟨3, 2000, told⟩ }
    session := { idleState.session with identify := some ⟨4, told⟩ }
    events := { idleState.events with sPulse := some 5, dPulse := some 6 } }

theorem witness_TimersFireOnce : (∀ b ∈ [false, true], (timedState b).engine.stall = some ⟨3, 2000, b⟩ ∧
    (timedState b).session.identify = some ⟨4, b⟩) ∧
    (timedState true).events.sPulse = some 5 ∧ (timedState true).events.dPulse = some 6 := by decide

/-- Both attention modes with everything unmasked or masked, an event latched and none. -/
def attentionState (mode : AttnMode) (sMask : BitVec 15) (dMask : BitVec 8) : State :=
  { runningState with params := { runningState.params with sMode := mode, dMode := mode, sMask := sMask, dMask := dMask } }

theorem witness_TimersFireOnce_attention : (∀ m ∈ [AttnMode.level, .pulse], let s := attentionState m 0 0
      s.power.powered = true ∧ s.power.resetLine = false ∧ s.params.sMode = m ∧ s.params.dMode = m ∧
      s.params.sMask.getLsbD (SEvent.noDirectory).pos = false ∧ s.params.dMask.getLsbD (DEvent.sessionChanged).pos = false ∧
      s.events.sSet = [] ∧ s.events.dSet = []) ∧
    (attentionState .pulse 0x7FFF 0xFF).params.sMask.getLsbD (SEvent.noDirectory).pos = true ∧
    (attentionState .pulse 0x7FFF 0xFF).params.dMask.getLsbD (DEvent.sessionChanged).pos = true ∧
    (∃ x ∈ ([⟨.noDirectory, 1⟩] : List (Latched SEvent)), x.ev.pos = (SEvent.noDirectory).pos) := by decide

/-- R160: an unmasked event starts a pulse at its moment, and the line is asserted. -/
theorem test_pulse_starts : let s := { attentionState .pulse 0 0 with now := 9 }
    (raiseS .noDirectory s).events.sPulse = some 9 ∧ (raiseS .noDirectory s).attention .s = true ∧
      s.attention .s = false := by decide

/-- PLAY_AT with a frame. -/
def playAtWith (fr : Frame) : PortCommand := ⟨.s, 0x08, fr, fr.params.length == 5, false⟩

/-- A frame of 33 parameter bytes that sums to 0, one of 32 that does not, one that does not fit and one that fits. -/
theorem witness_EveryPortCommandIsJudged :
    idleState.power.powered = true ∧ idleState.power.resetLine = false ∧ idleState.power.mode = .unconfigured ∧
    32 < (playAtWith (goodFrame 0x08 (List.replicate 33 1))).n ∧
    byteSum (playAtWith (goodFrame 0x08 (List.replicate 33 1))).bytes = 0 ∧
    (playAtWith ⟨List.replicate 32 1, 0, []⟩).n ≤ 32 ∧ byteSum (playAtWith ⟨List.replicate 32 1, 0, []⟩).bytes ≠ 0 ∧
    (playAtWith (goodFrame 0x08 (List.replicate 32 1))).n ≤ 32 ∧
    byteSum (playAtWith (goodFrame 0x08 (List.replicate 32 1))).bytes = 0 ∧
    State.reset.busy = true ∧ idleState.busy = false ∧
    (playAtWith (goodFrame 0x08 (List.replicate 32 1))).fits = false ∧
    (playAtWith (goodFrame 0x08 [0, 0, 0, 0, 0])).n ≤ 32 ∧
    byteSum (playAtWith (goodFrame 0x08 [0, 0, 0, 0, 0])).bytes = 0 ∧
    (playAtWith (goodFrame 0x08 [0, 0, 0, 0, 0])).fits = true ∧
    (playAtWith (goodFrame 0x08 [0, 0, 0, 0, 0])).early = false := by decide

theorem witness_EveryPortCommandIsJudged_command (fr : Frame) : portCommand (.playAt fr) = some (playAtWith fr) := rfl

/-- A frame with two bytes behind its check byte is the same command. -/
theorem witness_EveryPortCommandIsJudged_behind (fr : Frame) :
    portCommand (.playAt { fr with behind := [1, 2] }) =
      some { playAtWith fr with fr := { (playAtWith fr).fr with behind := [1, 2] } } ∧
    (∀ msz f, Instr.playAt fr = .softReset msz f → ∃ frame, Instr.playAt { fr with behind := [1, 2] } =
      .softReset msz { f with frame := frame }) := ⟨rfl, fun _ _ h => nomatch h⟩

/-- R148: two bytes behind the check byte change nothing but the bytes sent. -/
theorem test_bytes_behind : after (fun t => (t.power.mode, t.sPort.response.map Response.code, t.sPort.sent.length))
    (exec (.start { goodFrame 0x01 [] with behind := [9, 9] }) idleState) =
      some (Mode.running, some RespCode.ok, 5) := by decide

/-- R155: the D-port frame in reception gets no answer. -/
theorem test_reset_drops_frame : after (fun t => (t.dPort.response.isSome, t.dPort.sent, t.sPort.response.map Response.code))
    (exec (.softReset 0 ⟨goodFrame 0x03 [], [0x21, 0]⟩) runningState) = some (false, [1, 0], some RespCode.ok) := by decide

theorem witness_LowPowerTransactions : (∀ s ∈ [heldState, heldWake, sleepWake],
    s.power.powered = true ∧ s.power.resetLine = false ∧ (s.power.mode = .held ∨ s.power.mode = .sleeping)) ∧
    heldWake.power.wake ≠ none ∧ heldState.power.wake = none ∧
    ({ idleState with power := { idleState.power with resetLine := true } } : State).power.resetLine = true ∧
    (portCommand (.queryPlan (goodFrame 0x26 []))).map PortCommand.port = some .d ∧
    (portCommand (.queryStatus (goodFrame 0x04 []))).map PortCommand.port = some .s := by decide

theorem witness_PollSendsResponse : idleState.power.powered = true ∧ idleState.power.resetLine = false ∧
    idleState.power.mode.isLow = false ∧ 1 ≤ 1 ∧ (idleState.port .d).response = none ∧
    (({ idleState with sPort := ⟨some ⟨.ok, [0]⟩, false, []⟩ } : State).port .s).response = some ⟨.ok, [0]⟩ ∧
    ([0] : List Byte).length + 4 ≤ 5 ∧ 4 < ([0] : List Byte).length + 4 := by decide

theorem witness_SpoiltFramesAnswered : idleState.power.powered = true ∧ idleState.power.resetLine = false ∧
    idleState.power.mode.isLow = false ∧ State.reset.busy = true ∧ idleState.busy = false ∧
    32 < (List.replicate 33 (0 : Byte)).length ∧ byteSum [0x77, 0, 0] ≠ 0 ∧ byteSum [0x77, 0, 0x89] = 0 := by decide

theorem witness_ConfigureStoresPairs : idleState.Free ∧ idleState.power.mode = .unconfigured ∧
    (∀ x ∈ ([(1, 0), (23, 1), (15, 9999)] : List (Nat × Nat)), 1 ≤ x.1 ∧ x.1 ≤ 23) ∧
    (∃ x ∈ ([(0, 0)] : List (Nat × Nat)), x.1 = 0 ∨ 23 < x.1) ∧
    (∃ x ∈ ([(24, 0)] : List (Nat × Nat)), x.1 = 0 ∨ 23 < x.1) ∧
    (List.replicate 8 ((24 : BitVec 8), (0 : BitVec 24))).length ≤ 8 := by decide

/-- One pair: PRESENT with an entry in the queue, P before T; the rates held and not; a lower retry limit and a higher one. -/
theorem witness_ConfigureStoresPairs_single : (∀ s ∈ [orderState 2 none, orderState 2 (some anIssue), limitedState .x1],
      s.Free ∧ s.power.mode = .running ∧ s.planner.scanDue = false ∧ s.planner.Law ∧ s.ring.p ≠ s.t ∧ s.ring.Law ∧
      s.RegionLaw ∧
      (storeParam s.ring.len s.params (10, 1)).retryLimit < s.params.retryLimit ∧
      s.params.retryLimit ≤ (storeParam s.ring.len s.params (10, 8)).retryLimit) ∧
    (orderState 2 none).rates.held = none ∧ (limitedState .x1).rates.held = some ⟨⟨true, true⟩, .x4, .x1⟩ ∧
    (orderState 2 none).planner.queue = [holeOrder 2 none] := by decide

/-- At P = T: UNCONFIGURED and RUNNING as a reset leaves them, and PAUSED at the end of a disc. -/
theorem witness_ConfigureStoresPairs_at_t :
    (∀ s ∈ [idleState, runningState, presentState .paused 1000 1000 []],
      s.Free ∧ (s.power.mode = .unconfigured ∨ s.power.mode = .running) ∧ s.planner.scanDue = false ∧ s.planner.Law ∧
      s.ring.p = s.t ∧ s.engine.play ≠ .priming ∧ s.ring.Law ∧ s.RegionLaw ∧
      (storeParam s.ring.len s.params (10, 1)).retryLimit < s.params.retryLimit) := by decide

/-- R75: a retry limit of 2 gives up the hole that has had 2 attempts. -/
theorem test_retry_limit_lowered :
    after (fun t => (t.slot 4, t.planner.queue, t.counter .slotsAbandoned))
      (exec (.configure (goodFrame 0x02 [10, 2, 0, 0])) (orderState 2 none)) = some (Slot.void 4, [], 1) := by decide

/-- R62: the one entry is given up, and the scan puts the hole at 5 into the queue that this has emptied. -/
theorem test_rescan_tells_work :
    after (fun t => (t.planner.queue, t.events.dSet))
      (exec (.configure (goodFrame 0x02 [10, 2, 0, 0])) { orderState 2 none with
        ring := { playingState.ring with slots := [(3, block 3), (4, .missing 4), (5, .missing 5)] } }) =
      some ([⟨5, 1, 0, none⟩], [⟨.orderAvailable, 1⟩]) := by decide

/-- R62: work that has waited throughout is told of no second time. -/
theorem test_waiting_work_is_old :
    after (fun t => t.events.dSet) (exec (.configure (goodFrame 0x02 [7, 24, 0, 0])) (orderState 2 none)) = some [] := by
  decide

/-- R163: a threshold at a counter's value alerts at once. -/
theorem test_threshold_alerts :
    after (fun t => t.events.sSet.map fun x => x.ev.pos)
      (exec (.configure (goodFrame 0x02 [17, 1, 0, 0])) { playingState with
        events := { playingState.events with counters := playingState.events.counters.set 0 ⟨1, false⟩ } }) =
      some [13] := by decide

theorem witness_QueryStatusReports : idleState.Free ∧ idleState.power.mode = .unconfigured ∧ runningState.Free ∧
    runningState.power.mode = .running := by decide

/-- For QueryPlanReports, QueryPositionReports, ReadCountersReports, SkipNoticeEndsRun, DriveRestartRequeues too. -/
theorem witness_Ready : runningState.Ready ∧ playingState.Ready ∧ (orderState 1 (some anIssue)).Ready := by decide

/-- RUNNING with two events in each set, one of them counted to the end. -/
def eventState : State :=
  { runningState with events := { runningState.events with
      sSet := [⟨.starved 3, 255⟩, ⟨.woke .tray, 1⟩], dSet := [⟨.orderAvailable, 1⟩, ⟨.sessionChanged, 255⟩] } }

theorem witness_ReadEvents : eventState.Ready ∧ eventState.Free ∧ eventState.power.mode = .running ∧
    eventState.events.Law ∧ idleState.Free ∧ idleState.power.mode = .unconfigured := by decide

/-- Records of 58 bytes, one of 9 that no longer fits in the 60, and one of 2 that would. -/
def fullSet : List (Latched SEvent) :=
  [⟨.playStateChanged .playing .play, 1⟩, ⟨.programChanged 1 3, 1⟩, ⟨.endOfDisc 9, 1⟩, ⟨.starved 3, 1⟩,
    ⟨.slotAbandoned 3 4, 1⟩, ⟨.concealMute 3 4, 1⟩, ⟨.fillStalled .starved 3 4 0, 1⟩,
    ⟨.discIdentified 7 .r44100 2 1000, 1⟩, ⟨.discMatched 1 3 0 .playing, 1⟩, ⟨.noDirectory, 1⟩]

theorem witness_ReadEventsCarriesWhatFits_full :
    let s := { runningState with events := { runningState.events with sSet := fullSet } }
    s.Free ∧ s.power.mode = .running ∧ s.events.Law ∧
      60 < (fullSet.flatMap fun x => byteOf x.ev.pos :: byteOf x.count :: x.ev.data).length := by decide

/-- R161: the record that does not fit stays latched, and what stands behind it with it (log 14). -/
theorem test_read_events_leaves_rest :
    after (fun t => t.events.sSet.map fun x => x.ev.pos)
      (exec (.readEvents .s (goodFrame 0x05 [])) { runningState with
        events := { runningState.events with sSet := fullSet } }) = some [8, 10] := by decide

theorem witness_ReadCountersReports : runningState.Ready ∧ (2 : Byte) ≠ 0 ∧ (2 : Byte) ≠ 1 := by decide

/-- For PauseByPlayState, ResumeByPlayState, StopByPlayState. -/
theorem witness_PlayStates : (∀ p ∈ [Play.playing, .priming, .starved, .paused, .rampDown .paused, .rampDown .stopped,
      .stopped], let s := presentState p 3 6 [(3, block 3)]
    s.InPlay ∧ s.planner.scanDue = false ∧ s.planner.Law ∧ s.engine.play = p ∧ s.ring.p ≠ s.t ∧
      (s.slot s.ring.p).playable = true) := by decide

/-- PAUSED at a hole under two hole waits, in front of E, and at the end of the disc. -/
theorem witness_ResumeByPlayState : (∀ w ∈ [0, 200], let u := presentState .paused 4 6 [(4, .missing 4), (5, block 5)]
      let s := { u with params := { u.params with holeWait := w } }
      s.InPlay ∧ s.planner.scanDue = false ∧ s.planner.Law ∧ s.ring.Law ∧ s.ring.p ≠ s.t ∧
        (s.slot s.ring.p).playable = false ∧ (s.slot s.ring.p).isMissing = true ∧ (s.holeWaitLimit = 0 ↔ w = 0)) ∧
    (let s := presentState .paused 4 4 [];
      s.InPlay ∧ s.planner.Law ∧ s.ring.p ≠ s.t ∧ (s.slot s.ring.p).isMissing = false) ∧
    (let s := presentState .paused 1000 1000 [];
      s.InPlay ∧ s.planner.scanDue = false ∧ s.planner.Law ∧ s.ring.p = s.t) := by decide

/-- R76, R37: STOP withdraws the ISSUED entry and asserts the pause flag. -/
theorem test_stop_withdraws_issued :
    after (fun t => t.events.dSet) (exec (.stop (goodFrame 0x0C [])) { orderState 1 (some anIssue) with
      engine := { playingState.engine with play := .paused } }) =
      some [⟨.orderWithdrawn 255 4, 1⟩, ⟨.pauseChanged true, 1⟩] := by decide

/-- R73: the entry over slots 4 and 5 is cut to 5 as slot 4 opens. -/
theorem test_resume_trims :
    after (fun t => (t.engine.play, t.planner.queue))
      (exec (.resume (goodFrame 0x0B [])) { presentState .paused 4 6 [(4, .void 4), (5, .missing 5)] with
        planner := { playingState.planner with queue := [⟨4, 2, 1, none⟩] } }) =
      some (Play.playing, [⟨5, 1, 1, none⟩]) := by decide

/-- The ends of P..E−1, a playable slot and a hole, and a hole wait of 0. -/
theorem witness_PlayAtJumps : playingState.InPlay ∧ playingState.ring.Law ∧ playingState.planner.Law ∧
    playingState.planner.scanDue = false ∧ 0 < playingState.t ∧
    0 < playingState.holeWaitLimit ∧
    ({ playingState with params := { playingState.params with holeWait := 0 } } : State).holeWaitLimit = 0 ∧
    (∀ a ∈ [3, 4, 5], playingState.ring.p ≤ min a (playingState.t - 1) ∧
      min a (playingState.t - 1) < playingState.ring.e) ∧
    (playingState.slot 5).playable = true ∧ (playingState.slot 4).playable = false ∧
    (playingState.slot 4).isMissing = true := by decide

/-- The addresses next to P..E−1, and one beyond T. -/
theorem witness_PlayAtSeeks : playingState.InPlay ∧ playingState.planner.scanDue = false ∧ 0 < playingState.t ∧
    1 ≤ playingState.params.startDepth ∧
    (∀ a ∈ [2, 6, 5000], ¬ (playingState.ring.p ≤ min a (playingState.t - 1) ∧
      min a (playingState.t - 1) < playingState.ring.e)) := by decide

/-- PLAYING in slot 3 of 3..e−1, given up behind it, with the fill latch set; L − margin is 312. -/
def latchState (e : Nat) : State :=
  let s := presentState .playing 3 e ((3, block 3) :: (List.range' 4 (e - 4)).map fun a => (a, .void a))
  { s with intake := { s.intake with latch := true }, engine := { s.engine with program := 1 } }

/-- R37, R96: a jump that brings fullness to L − margin clears the latch and tells of the flag; a jump into the second program
tells of it. -/
theorem test_jump_tells :
    after (fun t => (t.intake.latch, t.events.dSet.map Latched.ev, t.events.sSet.map Latched.ev))
      (exec (.playAt (goodFrame 0x08 [5, 0, 0, 0, 0])) (latchState 317)) =
      some (false, [.pauseChanged false], [.programChanged 2 5]) := by decide +kernel

theorem witness_PlayAtJumps_tells : let s := latchState 317
    s.InPlay ∧ s.ring.Law ∧ s.planner.Law ∧ s.planner.scanDue = false ∧ 0 < s.t ∧ s.pauseFlag = true ∧
      s.ring.p ≤ 5 ∧ 5 < s.ring.e := by decide +kernel

theorem witness_PlayProgramActsAsPlayAt : playingState.InPlay ∧ playingState.session.directory = some disc ∧
    1 ≤ disc.starts.length ∧ (∀ x ∈ disc.starts, x < disc.t) ∧ disc.t ≤ 1048576 := by decide

theorem witness_NoDiscOutsidePresent : runningState.Ready ∧ runningState.session.state ≠ .present ∧
    ([1, 2, 3, 4, 5] : List Byte).length = 5 ∧ ([1] : List Byte).length = 1 := by decide

/-- A session state in RUNNING. -/
def inSession (x : SessionState) : State :=
  { playingState with
    session := { playingState.session with state := x }, engine := { playingState.engine with play := .paused } }

/-- For DiscLoadedBySessionState and DiscReleaseBySessionState. -/
theorem witness_DiscBySessionState : (∀ x ∈ [SessionState.noDisc, .identifying, .leaving, .present],
      (inSession x).Ready ∧ (inSession x).planner.scanDue = false ∧ (inSession x).session.state = x) ∧
    (inSession .present).session.directory = some disc ∧ (inSession .present).session.fingerprint = some 7 ∧
    (inSession .present).engine.play = .paused ∧ playingState.Ready ∧ playingState.engine.play = .playing ∧
    playingState.session.state = .present := by decide

theorem witness_DiscReleaseBySessionState_ramp : ∀ p ∈ [Play.rampDown .paused, .rampDown .stopped],
    let s := presentState p 3 4 [(3, block 3)]
    s.Ready ∧ s.planner.scanDue = false ∧ s.session.state = .present ∧ s.engine.play = p := by decide

/-- R143: a leave from STOPPED tells of HALTED, of the stored entry and of the session; the pause flag is released. -/
theorem test_leave_tells :
    after (fun t => (t.events.sSet.map Latched.ev, t.events.dSet.map Latched.ev))
      (exec (.discRelease (goodFrame 0x0E [])) { presentState .stopped 3 3 [] with
        engine := { playingState.engine with play := .stopped, intent := .stop, slotOpen := false } }) =
      some ([.playStateChanged .halted .stop, .sessionEnded 7 3 0 .paused], [.pauseChanged false, .sessionChanged]) := by
  decide

/-- PAUSED, with a DISC_LOADED that came in the fade. -/
def loadedState : State :=
  let s := presentState .paused 3 4 [(3, block 3)]
  { s with session := { s.session with pendingLoad := true } }

theorem witness_DiscReleaseBySessionState_load : loadedState.Ready ∧ loadedState.planner.scanDue = false ∧
    loadedState.session.state = .present ∧ loadedState.session.directory = some disc ∧
    loadedState.session.fingerprint = some 7 ∧ loadedState.engine.play = .paused ∧ loadedState.loadWaits = true := by decide

/-- R143 step 4, R133: a pending load makes the session IDENTIFYING, and the response says so. -/
theorem test_leave_with_pending_load :
    after (fun t => (t.session.state, t.session.pendingLoad, t.session.identify.isSome, t.sPort.response.map Response.data))
      (exec (.discRelease (goodFrame 0x0E [])) loadedState) = some (.identifying, false, true, some [0, 1]) := by decide

/-- RUNNING with one resume entry. -/
def tableState : State :=
  { runningState with session := { runningState.session with table := [⟨7, 2, 1000, 3, 0, .playing, none⟩] } }

theorem witness_SessionReports : playingState.InPlay ∧ playingState.session.directory = some disc ∧ tableState.Ready ∧
    1 ≤ (1 : Byte).toNat ∧ tableState.session.table[(1 : Byte).toNat - 1]? = some ⟨7, 2, 1000, 3, 0, .playing, none⟩ ∧
    (0 : Byte).toNat = 0 ∧ tableState.session.table.length < (2 : Byte).toNat := by decide

theorem witness_ForgetResumeRemoves : tableState.Ready ∧ 1 ≤ (1 : Byte).toNat ∧
    (1 : Byte).toNat ≤ tableState.session.table.length ∧ (1 : Byte) ≠ 0xFF ∧ (2 : Byte) ≠ 0xFF ∧ (0 : Byte) ≠ 0xFF ∧
    tableState.session.table.length < (2 : Byte).toNat := by decide

theorem witness_HoldAndSleepEnter : (∀ x ∈ [SessionState.noDisc, .identifying],
      (inSession x).Ready ∧ (inSession x).planner.scanDue = false ∧ (inSession x).planner.queue = [] ∧
      (inSession x).session.state = x) ∧
    playingState.InPlay ∧ playingState.planner.scanDue = false ∧ playingState.engine.play = .playing := by decide

theorem witness_HoldAndSleepEnter_leaving : (inSession .leaving).Ready ∧ (inSession .leaving).planner.scanDue = false ∧
    (inSession .leaving).session.state = .leaving ∧
    (∀ p ∈ [Play.priming, .paused, .starved, .stopped], let s := presentState p 3 6 []
      s.Ready ∧ s.planner.scanDue = false ∧ s.session.state = .present ∧ s.session.directory = some disc ∧
        s.session.fingerprint = some 7 ∧ s.engine.play = p) := by decide

theorem witness_HoldAndSleepEnter_ramp : ∀ p ∈ [Play.rampDown .paused, .rampDown .stopped],
    let s := presentState p 3 4 [(3, block 3)]
    s.Ready ∧ s.planner.scanDue = false ∧ s.session.state = .present ∧ s.engine.play = p := by decide

/-- R19: SLEEPING keeps the figures of the slots that it loses, and the wake's ring clear sets them to 0. -/
theorem test_sleep_keeps_figures :
    after (fun t => (t.ring.slots, t.ring.figures)) (exec (.sleep (goodFrame 0x13 []))
      { playingState with session := { playingState.session with state := .noDisc } }) =
      some ([], ⟨1, 1, 0, 0⟩) := by decide

theorem witness_TakeOrderGivesLowest : playingState.Ready ∧ playingState.planner.Law ∧ playingState.planner.queue = [] ∧
    (orderState 0 none).Ready ∧ (orderState 0 none).planner.Law ∧
    (orderState 0 none).planner.queue = holeOrder 0 none :: [] ∧
    (∀ x ∈ (orderState 0 none).planner.queue, x.issue = none) ∧
    (orderState 1 (some anIssue)).Ready ∧ (orderState 1 (some anIssue)).planner.Law ∧
    (orderState 1 (some anIssue)).planner.queue = [] ++ holeOrder 1 (some anIssue) :: [] := by decide

/-- The ISSUED entry's hole has been filled, so none of its slots is bad. -/
def filledState : State :=
  { orderState 1 (some anIssue) with ring := { playingState.ring with slots := [(3, block 3), (4, block 4), (5, block 5)] } }

theorem witness_OrderDoneCloses : (∀ s ∈ [filledState, orderState 1 (some anIssue)],
      s.Ready ∧ s.planner.Law ∧ s.planner.queue = [] ++ holeOrder 1 (some anIssue) :: []) ∧
    (∀ o ∈ playingState.planner.queue, ∀ i, o.issue = some i → i.tag ≠ (9 : Byte).toNat) ∧
    filledState.badAt 4 = false ∧ (orderState 1 (some anIssue)).badAt 4 = true := by
  refine ⟨by decide, fun o ho => ?_, by decide, by decide⟩
  cases ho

/-- Attempts below the retry limit and at it, in PLAYING, in STARVED at the hole and in PRIMING before it, with the failure
count below the downgrade limit and reaching it; lo and hi are the one slot of the entry. -/
theorem witness_FailedAttemptCounts : (∀ n ∈ [2, 3], ∀ f ∈ [0, 2], ∀ x ∈ [(Play.playing, 3), (.starved, 4), (.priming, 4)],
    let u := orderState n (some anIssue)
    let s := { u with
      planner := { u.planner with fails := f }
      engine := { u.engine with play := x.1, slotOpen := x.1.producing }
      ring := { u.ring with p := x.2, slots := u.ring.slots.drop (x.2 - 3) }
      params := { u.params with startDepth := 1 } }
    s.Ready ∧ s.ring.p ≠ s.t ∧ s.planner.Law ∧ s.ring.Law ∧
    s.planner.queue = [] ++ holeOrder n (some anIssue) :: [] ∧
    s.ring.p ≤ 4 ∧ 4 + 1 ≤ s.ring.e ∧ s.badAt 4 = true ∧ (s.params.downgradeLimit ≤ s.planner.fails + 1 ↔ f = 2) ∧
    (s.params.retryLimit ≤ n ↔ n = 3)) ∧
    (∀ a, 4 ≤ a → a < 4 + 1 → (orderState 2 (some anIssue)).badAt a = true → 4 ≤ a ∧ a ≤ 4) := by
  refine ⟨by decide, ?_⟩
  intro a h1 h2 _
  omega

/-- R69, R100: the hole at which play starves is given up, and play goes on through it. -/
theorem test_give_up_ends_starved :
    after (fun t => (t.slot 4, t.engine.play, t.engine.slotOpen, t.planner.queue))
      (exec (.orderDone (goodFrame 0x22 [255, 0])) { waitingState 5 with
        planner := { playingState.planner with queue := [holeOrder 3 (some anIssue)] } }) =
      some (Slot.void 4, Play.playing, true, []) := by decide

theorem witness_ScanCoversBadSlots : playingState.planner.Law ∧ playingState.power.mode = .running ∧
    playingState.session.state = .present ∧ playingState.badAt 4 = true := by decide

/-- PLAYING in slot 3 of 3..7, holes at 5 and 6, an entry on either side of them. -/
def gapState (below above : Option Issue) : State :=
  { presentState .playing 3 8 [(3, block 3), (4, .missing 4), (5, .missing 5), (6, .missing 6), (7, .missing 7)] with
    planner := { playingState.planner with queue := [⟨4, 1, 2, below⟩, ⟨7, 1, 1, above⟩] } }

/-- The holes at 5 and 6 are a range, with a QUEUED entry just below and just above, or an ISSUED one. -/
theorem witness_ScanCoversBadSlots_shape :
    (∀ s ∈ [gapState none none, gapState (some anIssue) none, gapState none (some anIssue)],
      s.planner.Law ∧ s.power.mode = .running ∧ s.session.state = .present ∧
      (∀ a ∈ [5, 6], s.unplaced a) ∧ ¬ s.unplaced 4 ∧ ¬ s.unplaced 7) := by decide

/-- R60: the range joins the QUEUED entry below, the one above when that below is ISSUED, and stands alone when no entry
adjoins it. -/
theorem test_scan_joins :
    (scan (gapState none none)).planner.queue = [⟨4, 3, 2, none⟩, ⟨7, 1, 1, none⟩] ∧
    (scan (gapState (some anIssue) none)).planner.queue = [⟨4, 1, 2, some anIssue⟩, ⟨5, 3, 1, none⟩] ∧
    (scan playingState).planner.queue = [⟨4, 1, 0, none⟩] := by decide

theorem witness_RateOfferAgrees : playingState.Ready ∧ 1 ≤ playingState.params.ceiling ∧
    playingState.session.state = .present ∧ runningState.Ready ∧ runningState.session.state ≠ .present := by decide

theorem witness_RateStepsByOneRung : (∀ r ∈ [Rate.x1, .x2, .x4], let s := limitedState r
      s.rates.Law s.params ∧ s.params.downgradeLimit ≤ s.planner.fails) ∧
    (limitedState .x1).params.upgradeInterval ≤ (limitedState .x1).rates.progress ∧
    (limitedState .x4).rates.state ≠ .limited ∧
    playingState.planner.fails < playingState.params.downgradeLimit := by decide

/-- NONE, with the failure count at the limit. -/
theorem witness_RateStepsByOneRung_none : let s := { playingState with planner := { playingState.planner with fails := 3 } }
    s.rates.Law s.params ∧ s.rates.held = none ∧ s.params.downgradeLimit ≤ s.planner.fails := by decide

/-- R72, R84: in NONE the step down returns the count to 0 and counts no downgrade. -/
theorem test_step_down_in_none :
    after (fun t => (t.planner.fails, t.counter .rateDowngrades, t.rates.held))
      (exec .stepDown { playingState with planner := { playingState.planner with fails := 3 } }) =
      some (0, 0, none) := by decide

theorem witness_HoleWaitExpires : (waitingState 8820).ring.Law ∧ (waitingState 8820).planner.Law ∧
    (waitingState 8820).planner.scanDue = false ∧
    (waitingState 8820).engine.play = .starved ∧ ((waitingState 8820).slot 4).isMissing = true ∧
    (waitingState 8820).params.holeWait * (waitingState 8820).rate.hz / 1000 ≤ (waitingState 8820).engine.holeWait ∧
    ¬ (waitingState 8819).params.holeWait * (waitingState 8819).rate.hz / 1000 ≤
      (waitingState 8819).engine.holeWait := by decide

theorem witness_SilentFrameClock : (∀ p ∈ [Play.stopped, .priming, .paused, .halted], let s := presentState p 3 6 []
      s.power.powered = true ∧ s.power.resetLine = false ∧ s.planner.scanDue = false) ∧
    (waitingState 8818).power.powered = true ∧ (waitingState 8818).engine.play = .starved ∧
    (waitingState 8818).engine.holeWait + 1 <
      (waitingState 8818).params.holeWait * (waitingState 8818).rate.hz / 1000 := by decide

/-- RESET held, and the clock answered with a silent frame with SLC low (R18). -/
def resetHeld : State := { idleState with power := { idleState.power with resetLine := true } }

theorem witness_SilentFrameClock_reset : resetHeld.power.powered = true ∧ resetHeld.power.resetLine = true ∧
    resetHeld.planner.scanDue = false ∧ resetHeld.engine.play = .halted := by decide

/-- R18: SLC is low under RESET even where the conceal gain is below unity. -/
theorem test_reset_clocks_slc_low :
    after (fun t => t.line.shifting) (exec .frameClock { resetHeld with conceal := { resetHeld.conceal with gc := 0 } }) =
      some ⟨0, 0, false⟩ := by decide

/-- The count before the limit of 8820 frames, and the figure itself. -/
theorem witness_SilentFrameClock_over : let s := waitingState 8819
    s.power.powered = true ∧ s.power.resetLine = false ∧ s.planner.scanDue = false ∧ s.engine.play = .starved ∧
      (s.slot s.ring.p).isMissing = true ∧ s.ring.Law ∧ s.planner.Law ∧
      s.params.holeWait * s.rate.hz / 1000 = s.engine.holeWait + 1 := by decide

/-- A pause ramp one step from its end, or further off. -/
def rampState (gp : Nat) : State :=
  { presentState (.rampDown .paused) 3 6 [(3, block 3)] with
    conceal := { playingState.conceal with gp := gp, gpTarget := 0, gpStep := 4 } }

/-- A flawed word at the start of slot P, a clean one behind it. -/
def flawState : State := presentState .playing 3 4 [(3, flawedBlock 3)]

/-- Clean words and a flawed one, in PLAYING and in ramps that go on or end. -/
theorem witness_PlayedFrameClock : (∀ s ∈ [playingState, flawState, rampState 4, rampState 5],
      s.power.powered = true ∧ s.planner.scanDue = false ∧ s.engine.f + 1 < s.frames) ∧
    (played (rampState 4)).conceal.gp = 0 ∧ (played (rampState 5)).conceal.gp ≠ 0 := by decide

/-- R117, R119, R130: one flawed left word is a SHORT run of one, counted, and SLC is high for its frame. -/
theorem test_flawed_frame :
    after (fun t => (t.counter .wordsInterpolated, t.conceal.left.run, t.line.produced.slc)) (exec .frameClock flawState) =
      some (1, none, true) := by decide

/-- Ramps to STOPPED and to a leave, one step from their end. -/
theorem witness_PlayedFrameClock_ramps : ∀ d ∈ [Dest.stopped, .leave],
    let s := { rampState 4 with engine := { (rampState 4).engine with play := .rampDown d } }
    s.power.powered = true ∧ s.planner.scanDue = false ∧ s.engine.f + 1 < s.frames ∧ s.engine.play = .rampDown d ∧
      (played s).conceal.gp = 0 ∧
      s.session.directory = some disc ∧ s.session.fingerprint = some 7 ∧ s.session.pendingLoad = false := by decide

/-- The last frame of slot P: before a playable slot, before a hole, and at the end of the disc. -/
def lastFrame (s : State) : State := { s with engine := { s.engine with f := 440 } }

/-- The last block of the disc, and one with another behind it. -/
def endState : State := lastFrame (presentState .playing 999 1000 [(487, block 999)])
def nextState : State := lastFrame (presentState .playing 5 7 [(5, block 5), (6, block 6)])

/-- The last frame under a ramp: with a step left or many, before a playable slot, before a hole and at T. -/
def rampAt (d : Dest) (gp p e : Nat) (slots : List (Nat × Slot)) : State :=
  lastFrame { presentState (.rampDown d) p e slots with
    conceal := { playingState.conceal with gp := gp, gpTarget := 0, gpStep := 4 } }

theorem witness_BlockBoundary : (∀ s ∈ [lastFrame playingState, endState, nextState],
      s.power.powered = true ∧ s.planner.scanDue = false ∧ s.ring.Law ∧ s.planner.Law ∧ s.engine.play = .playing ∧
      s.engine.f + 1 = s.frames ∧ (s.slot s.ring.p).playable = true) ∧
    nextState.ring.p + 1 ≠ nextState.t ∧ (nextState.slot 6).playable = true ∧
    (playingState.slot 4).playable = false ∧ (playingState.slot 4).isMissing = true ∧
    0 < playingState.params.holeWait * playingState.rate.hz / 1000 ∧
    ({ playingState with params := { playingState.params with holeWait := 0 } } : State).holeWaitLimit = 0 ∧
    endState.ring.p + 1 = endState.t := by decide

theorem witness_BlockBoundary_ramps : (∀ d ∈ [Dest.paused, .stopped, .leave],
      ∀ s ∈ [rampAt d 4 5 7 [(5, block 5), (6, block 6)], rampAt d 4096 5 7 [(5, block 5), (6, block 6)],
        rampAt d 4096 5 7 [(5, block 5), (6, .missing 6)], rampAt d 4096 999 1000 [(487, block 999)]],
      s.power.powered = true ∧ s.planner.scanDue = false ∧ s.ring.Law ∧ s.planner.Law ∧
      s.engine.play = .rampDown d ∧ s.engine.f + 1 = s.frames ∧ (s.slot s.ring.p).playable = true ∧
      s.session.directory = some disc ∧ s.session.fingerprint = some 7 ∧ s.session.pendingLoad = false) ∧
    (played (rampAt .leave 4 5 7 [(5, block 5), (6, block 6)])).conceal.gp = 0 ∧
    (played (rampAt .leave 4096 5 7 [(5, block 5), (6, block 6)])).conceal.gp ≠ 0 := by decide

/-- An ISSUED entry behind the new P as a ramp to STOPPED ends. -/
theorem witness_BlockBoundary_issued :
    let s := { rampAt .stopped 4 3 6 [(3, block 3), (4, .missing 4), (5, .missing 5)] with
      planner := { playingState.planner with queue := [⟨4, 2, 1, some anIssue⟩] } }
    s.power.powered = true ∧ s.planner.scanDue = false ∧ s.ring.Law ∧ s.planner.Law ∧
      s.engine.play = .rampDown .stopped ∧ s.engine.f + 1 = s.frames ∧ (s.slot s.ring.p).playable = true ∧
      (played s).conceal.gp = 0 ∧ (⟨4, 2, 1, some anIssue⟩ : Order).behind 4 = some ⟨4, 2, 1, some anIssue⟩ := by decide

/-- A leave fade that ends with a load pending, and with a SLEEP that waits for it. -/
def leaveEnding (entry : Option Entry) (s : State) : State :=
  { s with session := { s.session with state := .leaving, pendingLoad := true }, power := { s.power with entry := entry } }

/-- The fade of a leave one step from its end, inside slot 3. -/
def leaveRamp : State := { rampState 4 with engine := { (rampState 4).engine with play := .rampDown .leave } }

theorem witness_PlayedFrameClock_leave : ∀ e ∈ [none, some ⟨.sleeping, 5⟩, some ⟨.held, 5⟩], let s := leaveEnding e leaveRamp
    s.power.powered = true ∧ s.planner.scanDue = false ∧ s.engine.f + 1 < s.frames ∧ s.engine.play = .rampDown .leave ∧
      (played s).conceal.gp = 0 ∧ s.session.directory = some disc ∧ s.session.fingerprint = some 7 ∧
      s.loadWaits = e.isNone := by decide

theorem witness_BlockBoundary_leave : ∀ e ∈ [none, some ⟨.sleeping, 5⟩, some ⟨.held, 5⟩],
    let s := leaveEnding e (rampAt .leave 4 5 7 [(5, block 5), (6, block 6)])
    s.power.powered = true ∧ s.planner.scanDue = false ∧ s.ring.Law ∧ s.planner.Law ∧ s.engine.play = .rampDown .leave ∧
      s.engine.f + 1 = s.frames ∧ (s.slot s.ring.p).playable = true ∧ (played s).conceal.gp = 0 ∧
      s.session.directory = some disc ∧ s.session.fingerprint = some 7 ∧ s.loadWaits = e.isNone := by decide

/-- R143, R134, R167: the fade ends inside a block with the session IDENTIFYING, or NO_DISC in the mode that waited. -/
theorem test_leave_fade_ends :
    after (fun t => (t.session.state, t.session.pendingLoad, t.power.mode, t.power.entry))
        (exec .frameClock (leaveEnding none leaveRamp)) = some (.identifying, false, .running, none) ∧
    after (fun t => (t.session.state, t.session.pendingLoad, t.power.mode, t.power.supply))
        (exec .frameClock (leaveEnding (some ⟨.sleeping, 5⟩) leaveRamp)) = some (.noDisc, false, .sleeping, false) := by
  decide

/-- R37, R95, R96: the end of slot 3 brings fullness to L − margin, and the end of slot 4 begins the second program. -/
theorem test_boundary_tells :
    after (fun t => (t.intake.latch, t.events.dSet.map Latched.ev)) (exec .frameClock (lastFrame (latchState 316))) =
      some (false, [.pauseChanged false]) ∧
    after (fun t => t.events.sSet.map Latched.ev) (exec .frameClock (lastFrame
      (presentState .playing 4 6 [(4, block 4), (5, block 5)]))) = some [.programChanged 2 5] := by decide +kernel

theorem witness_BlockBoundary_tells : ∀ s ∈ [lastFrame (latchState 316),
      lastFrame (presentState .playing 4 6 [(4, block 4), (5, block 5)])],
    s.power.powered = true ∧ s.planner.scanDue = false ∧ s.ring.Law ∧ s.planner.Law ∧ s.engine.play = .playing ∧
      s.engine.f + 1 = s.frames ∧ (s.slot s.ring.p).playable = true := by decide +kernel

/-- R126: a leave fade that meets the end of the disc ends at (T, 0) with the play gain 0. -/
theorem test_leave_at_end_of_disc :
    after (fun t => (t.conceal.gp, t.engine.play, t.ring.e, t.session.table.map ResumeEntry.address))
      (exec .frameClock { rampAt .leave 4096 999 1000 [(487, block 999)] with
        session := { playingState.session with state := .leaving } }) = some (0, Play.halted, 1000, [1000]) := by decide

theorem witness_ChannelWordRules : ((flawState.slot flawState.ring.p).wordAt (Side.left.index 0)).1 = true ∧
    ((flawState.slot flawState.ring.p).wordAt (Side.right.index 0)).1 = false ∧ flawState.params.lmax ≤ 32 ∧
    flawState.engine.f < flawState.frames ∧ 1 ≤ 1 ∧ 1 ≤ flawState.params.lmax ∧
    1 ≤ flawState.frames - (flawState.engine.f + 1) ∧
    (flawState.slot flawState.ring.p).wordAt (Side.left.index 1) = (false, 100) ∧ 0 < 1 := by decide

/-- A slot without a payload: every word ahead is flawed. -/
theorem witness_ChannelWordRules_long : ∀ j, ((presentState .playing 3 4 [(3, .void 3)]).slot 3).wordAt j = (true, 0) :=
  fun _ => rfl

theorem witness_OutputWordRounds : (-32768 : Int) ≤ -32768 ∧ (32767 : Int) ≤ 32767 ∧ (4096 : Nat) ≤ 4096 ∧
    (0 : Nat) ≤ 4096 := by decide

/-- A block of W words that is clean throughout. -/
def cleanCopy : Block := ⟨List.replicate 882 5, List.replicate 882 false⟩

theorem witness_MergeByTable : flawState.ring.Law ∧ 3 < flawState.ring.e ∧ flawState.ring.p ≤ 3 ∧
    flawState.slot 3 = flawedBlock 3 ∧ (List.replicate 882 (100 : Word)).length = 882 ∧
    cleanCopy.words.length = 882 ∧ cleanCopy.marks.length = 882 := by
  refine ⟨by decide, by decide, by decide, rfl, List.length_replicate, List.length_replicate, List.length_replicate⟩

/-- A frame's header with its check, and a payload of 0. -/
def framed (head : List Byte) (size : Nat) : List Byte :=
  head ++ [(crc16 head).extractLsb' 8 8, (crc16 head).extractLsb' 0 8] ++ List.replicate size 0

/-- An AUDIO frame of 44,100 frames/s whose words are 0 and clean: flags, address and header check given. -/
def audioBytes (flags : Byte) (a : Nat) (hi lo : Byte) : List Byte :=
  [1, flags, 9] ++ le24 a ++ [0x53, 7, hi, lo] ++ List.replicate 1875 0

/-- The frames of the tests: at E and at the top of the window with run-start, the hole at 4, the block at 5, and at E
going on from 5. -/
def atE : List Byte := audioBytes 3 6 0x00 0x03
def atTop : List Byte := audioBytes 3 514 0x64 0x6D
def atHole : List Byte := audioBytes 3 4 0x44 0x80
def atBlock : List Byte := audioBytes 3 5 0xEE 0xD1
def goingOn : List Byte := audioBytes 1 6 0x60 0xE0

/-- A frame whose address field is not good, without run-start or with it. -/
def unaddressed (flags : Byte) : List Byte := framed [1, flags, 9, 0, 0, 0, 0x53, 7] 1875

/-- The frame's header is good for the disc, with this address. -/
abbrev goodAudio (bytes : List Byte) (a : Nat) (start : Bool) : Prop :=
  (readHeader bytes).crcGood = true ∧ (readHeader bytes).kind = 1 ∧ (readHeader bytes).addressGood = true ∧
    (readHeader bytes).length = playingState.rate.payloadBytes ∧ (readHeader bytes).runStart = start ∧
    (readHeader bytes).address = a ∧ bytes.length = 10 + (readHeader bytes).length

/-- The frame's header is good but for its address. -/
abbrev goodButAddress (bytes : List Byte) (start : Bool) : Prop :=
  (readHeader bytes).crcGood = true ∧ (readHeader bytes).kind = 1 ∧ (readHeader bytes).addressGood = false ∧
    (readHeader bytes).length = playingState.rate.payloadBytes ∧ (readHeader bytes).runStart = start ∧
    bytes.length = 10 + (readHeader bytes).length

/-- A state with a run that has come to an address. -/
def withRun (s : State) (how : RunState) (last : Nat) : State :=
  { s with intake := { s.intake with run := some ⟨how, last, 9⟩ } }

/-- A VERIFIED run that has come to 5. -/
def runState : State := withRun playingState .verified 5

/-- PLAYING with a slot given up at 4. -/
def voidState : State := presentState .playing 3 6 [(3, block 3), (4, .void 4), (5, block 5)]

/-- What every accepted block asks of the state; its kind byte is 1. -/
abbrev Takes (s : State) : Prop :=
  s.InPlay ∧ s.engine.play ≠ .stopped ∧ s.ring.Law ∧ s.planner.Law ∧
    (s.intake.rx.inFrame = true → s.intake.rx = ⟨.header, [1], true⟩) ∧ s.planner.scanDue = false

/-- PRIMING in front of the hole at 4, with byte 0 of an AUDIO frame in reception, as a cut leaves it. -/
def primingState : State :=
  { presentState .priming 4 6 [(4, .missing 4), (5, block 5)] with
    intake := { playingState.intake with rx := ⟨.header, [1], true⟩ } }

/-- A block at E, at the top of the window, in a hole, in a VOID slot and in a slot P that is not open; one that goes on from
5, its address sent or not. -/
theorem witness_AcceptedBlockIsWritten :
    ∀ s ∈ [playingState, runState, voidState, waitingState 5, primingState], Takes s := by decide

theorem witness_AcceptedBlockIsWritten_frames :
    goodAudio atE 6 true ∧ goodAudio atTop 514 true ∧ goodAudio atHole 4 true ∧ goodAudio goingOn 6 false ∧
    goodButAddress (unaddressed 0) false ∧
    (∀ bytes ∈ [atE, atTop, atHole, goingOn, unaddressed 0], bytes.take 1 = [1]) := by decide +kernel

theorem witness_AcceptedBlockIsWritten_slots :
    (∀ s ∈ [playingState, voidState, waitingState 5, primingState], s.intake.run = none) ∧
    runState.intake.run = some ⟨.verified, 5, 9⟩ ∧ RunState.verified ≠ .rejected ∧
    (∀ a ∈ [4, 6, 514], playingState.ring.p ≤ a ∧ a ≠ playingState.ring.p ∧
      a < playingState.ring.p + playingState.ring.len ∧ a < playingState.t ∧
      (playingState.ring.e ≤ a ∨ (playingState.slot a).isMissing = true)) ∧
    voidState.ring.p ≤ 4 ∧ voidState.ring.p ≠ 4 ∧ (voidState.slot 4).isVoid = true ∧
    (∀ s ∈ [waitingState 5, primingState], s.ring.p = 4 ∧ s.engine.slotOpen = false ∧ (s.slot 4).isMissing = true) := by
  decide

/-- R49, R29: a frame without an address goes on from the run's last one. -/
theorem test_inferred_address :
    after (fun t => (t.ring.e, t.intake.run, (t.slot 6).isEmpty)) (exec (.streamFrame true (unaddressed 0)) runState) =
      some (7, some ⟨.verified, 6, 9⟩, false) := by decide +kernel

/-- R71, R100: the block for the hole at which play starves ends both the entry and STARVED. -/
theorem test_arrival_ends_starved :
    after (fun t => (t.engine.play, t.planner.queue, t.events.dSet.map Latched.ev))
      (exec (.streamFrame true atHole) { waitingState 5 with
        planner := { playingState.planner with queue := [holeOrder 1 (some anIssue)] } }) =
      some (Play.playing, [], [DEvent.orderComplete 255]) := by decide +kernel

/-- Frames cut or spoilt before their audio: a frame held in reception and none, too short, a bad check, kind and length, no
whole payload, RDY_B low, and a directory whose length is not 5 + 3n. -/
theorem witness_DiscardedFramesCount :
    (∀ s ∈ [playingState, primingState, idleState, runningState], s.power.powered = true ∧ s.planner.scanDue = false) ∧
    primingState.intake.rx.inFrame = true ∧ playingState.intake.rx.inFrame = false ∧
    (goingOn.take 9).length < 10 ∧ (readHeader (List.replicate 10 0)).crcGood = false ∧
    (readHeader (framed [3, 0, 0, 0, 0, 0, 0x53, 7] 0)).crcGood = true ∧
    (readHeader (framed [3, 0, 0, 0, 0, 0, 0x53, 7] 0)).kind = 3 ∧
    (readHeader (framed [1, 0, 0, 0, 0, 0, 0x54, 7] 0)).crcGood = true ∧
    (readHeader (framed [1, 0, 0, 0, 0, 0, 0x54, 7] 0)).length ≠ playingState.rate.payloadBytes ∧
    readHeader (goingOn.take 100) = readHeader goingOn ∧ 10 ≤ (goingOn.take 100).length ∧
    (goingOn.take 100).length < 10 + (readHeader goingOn).length ∧
    playingState.rdyB = true ∧ idleState.rdyB = false ∧ runningState.rdyB = true ∧
    (let bytes := framed [2, 0, 0, 0, 0, 0, 8, 0] 8;
      (readHeader bytes).crcGood = true ∧ (readHeader bytes).kind = 2 ∧ (readHeader bytes).length = 8 ∧
        10 + 8 ≤ bytes.length ∧ 8 ≠ 5 + 3 * (bytes.getD 11 0).toNat) := by decide +kernel

/-- PLAYING with the header and a part of the payload of a frame in reception. -/
def cutState : State := { playingState with intake := { playingState.intake with rx := ⟨.payload, goingOn.take 100, true⟩ } }

/-- A frame in reception that the next one ends, and byte 0 of the next one, which it goes on from. -/
theorem witness_DiscardedFramesCount_other : cutState.power.powered = true ∧ cutState.planner.scanDue = false ∧
    cutState.intake.rx.inFrame = true ∧ cutState.intake.rx.stage ≠ .header ∧ goingOn.head? = some 1 ∧
    primingState.intake.rx.stage = .header ∧ primingState.intake.rx.bytes = goingOn.take 1 := by decide +kernel

/-- R20, R24: the marked byte of the next frame ends the one in reception, which is counted, and that frame is judged. -/
theorem test_frame_ends_another :
    after (fun t => (t.counter .blocksDiscarded, t.intake.rx.stage)) (exec (.streamFrame true (goingOn.take 100)) cutState) =
      some (1, RxStage.payload) := by decide +kernel

/-- R21: an AUDIO header of the other rate's length is bad with its tenth byte, with no payload behind it. -/
theorem test_header_judged_alone :
    after (fun t => (t.intake.rx.stage, t.counter .blocksDiscarded))
      (exec (.streamFrame true (framed [1, 1, 9, 0, 0, 0, 0xF8, 7] 0)) playingState) = some (RxStage.skip, 1) := by
  decide +kernel

/-- AUDIO outside PRESENT, in STOPPED, without an address to go by, and in runs that go on REJECTED, LATE or BEYOND. -/
theorem witness_DiscardedFramesCount_runs :
    goodAudio atBlock 5 true ∧ goodAudio goingOn 6 false ∧ goodButAddress (unaddressed 2) true ∧
    goodButAddress (unaddressed 0) false ∧
    runningState.session.state ≠ .present ∧ runningState.rdyB = true ∧
    (presentState .stopped 3 6 []).session.state = .present ∧ (presentState .stopped 3 6 []).engine.play = .stopped ∧
    playingState.session.state = .present ∧ playingState.engine.play ≠ .stopped ∧ playingState.intake.run = none ∧
    (withRun playingState .rejected 5).intake.run = some ⟨.rejected, 5, 9⟩ ∧
    (withRun playingState .verified 2).intake.run = some ⟨.verified, 2, 9⟩ ∧
    2 + 1 = playingState.ring.p ∧ playingState.engine.slotOpen = true ∧ 1 + 1 < playingState.ring.p ∧
    playingState.ring.p + playingState.ring.len ≤ 514 + 1 := by decide +kernel

/-- First frames at the four bounds of R31 and R32: behind P, at an open slot P, at P + L, and at T. -/
theorem witness_DiscardedFramesCount_bounds : goodAudio atHole 4 true ∧ goodAudio atTop 514 true ∧
    (∀ s ∈ [nextState, presentState .playing 2 6 [(2, block 2)]], s.InPlay ∧ s.engine.play ≠ .stopped ∧
      s.intake.rx.inFrame = false ∧ s.planner.scanDue = false ∧ s.intake.run = none ∧ s.engine.slotOpen = true) ∧
    4 < nextState.ring.p ∧ 5 = nextState.ring.p ∧
    (presentState .playing 2 6 [(2, block 2)]).ring.p + (presentState .playing 2 6 [(2, block 2)]).ring.len ≤ 514 ∧
    (let s := { playingState with session := { playingState.session with directory := some ⟨.r44100, 514, [0, 5]⟩ } };
      s.InPlay ∧ s.engine.play ≠ .stopped ∧ s.intake.rx.inFrame = false ∧
        s.planner.scanDue = false ∧ s.intake.run = none ∧ s.t = 514) := by decide +kernel

theorem witness_DiscardedFramesCount_slot : playingState.slot 5 = block 5 ∧
    (List.replicate 882 (100 : Word)).length = 882 ∧ playingState.w = 882 ∧ (readHeader atBlock).length = 1875 ∧
    ¬ (5 < playingState.ring.p ∨ 5 = playingState.ring.p ∧ playingState.engine.slotOpen = true) ∧
    ¬ (playingState.ring.p + playingState.ring.len ≤ 5 ∨ playingState.t ≤ 5) := by decide +kernel

/-- The words 0 of the frame and 100 of the slot differ, so d is above the threshold of 4. -/
theorem witness_DiscardedFramesCount_seam : playingState.params.seamThreshold <
    ((List.range 882).filter fun i => !(List.replicate 882 false).getD i false &&
      !(readBlock 882 ((atBlock.drop 10).take 1875)).marks.getD i false &&
        (List.replicate 882 (100 : Word)).getD i 0 !=
          (readBlock 882 ((atBlock.drop 10).take 1875)).words.getD i 0).length := by
  have h : ∀ i ∈ List.range 5, (!(List.replicate 882 false).getD i false &&
      !(readBlock 882 ((atBlock.drop 10).take 1875)).marks.getD i false &&
      (List.replicate 882 (100 : Word)).getD i 0 !=
        (readBlock 882 ((atBlock.drop 10).take 1875)).words.getD i 0) = true := by decide +kernel
  have hr : List.range 882 = List.range 5 ++ List.range' 5 877 := by
    rw [List.range_eq_range', List.range_eq_range']
    exact (List.range'_append (s := 0) (m := 5) (n := 877) (step := 1)).symm
  rw [hr, List.filter_append, List.length_append, List.filter_eq_self.mpr h, List.length_range]
  exact Nat.lt_of_lt_of_le (by decide : playingState.params.seamThreshold < 5) (Nat.le_add_right _ _)

/-- R31, R50: the frame of a REJECTED run moves its last address on and is counted. -/
theorem test_rejected_run_goes_on :
    after (fun t => (t.intake.run, t.ring.e, t.counter .blocksDiscarded))
      (exec (.streamFrame true goingOn) (withRun playingState .rejected 5)) =
      some (some ⟨.rejected, 6, 9⟩, 6, 1) := by decide +kernel

/-- The block that the frame at address 5 carries. -/
def sentBlock : Block := readBlock 882 ((atBlock.drop 10).take 1875)

/-- Slot 5 holds the words of that frame, CLEAN or with the first one flawed. -/
def seamState (flawed : Bool) : State :=
  presentState .playing 3 6 [(3, block 3), (4, .missing 4),
    (5, if flawed then .flawed 5 (true :: List.replicate 881 false) sentBlock.words .stream false
      else .clean 5 sentBlock.words .stream)]

/-- A run that begins at 5, and one that comes there from 4 with its address sent or not. -/
theorem witness_SeamVerifiesRun : (∀ b ∈ [false, true], let s := seamState b
      Takes s ∧ Takes (withRun s .unverified 4) ∧ s.ring.p < 5 ∧
      5 < s.ring.p + s.ring.len ∧ 5 < s.t ∧ s.w = 882) ∧
    (seamState true).intake.run = none := by decide +kernel

theorem witness_SeamVerifiesRun_frames :
    goodAudio atBlock 5 true ∧ goodAudio (framed ([1, 1, 9] ++ le24 5 ++ [0x53, 7]) 1875) 5 false ∧
    goodButAddress (unaddressed 0) false ∧ RunState.unverified ≠ .rejected ∧ sentBlock.words.length = 882 ∧
    (true :: List.replicate 881 false).length = 882 := by decide +kernel

theorem witness_SeamVerifiesRun_slots : (seamState false).slot 5 = .clean 5 sentBlock.words .stream ∧
    (seamState true).slot 5 = .flawed 5 (true :: List.replicate 881 false) sentBlock.words .stream false := ⟨rfl, rfl⟩

theorem witness_SeamVerifiesRun_count (marks : List Bool) : ((List.range 882).filter fun i =>
    !marks.getD i false && !sentBlock.marks.getD i false &&
      sentBlock.words.getD i 0 != sentBlock.words.getD i 0).length ≤ 4 := by
  simp

/-- A slot P that is not open takes a held block too. -/
theorem witness_SeamVerifiesRun_atP : let s := { presentState .paused 5 6 [(5, flawedBlock 5)] with
      engine := { playingState.engine with play := .paused, slotOpen := false } }
    Takes s ∧ s.ring.p = 5 ∧ s.engine.slotOpen = false := by decide

/-- R44, R45: the run that begins on the held block is VERIFIED. -/
theorem test_seam_verifies : after (fun t => (t.intake.run, t.ring.e))
    (exec (.streamFrame true atBlock) (seamState true)) = some (some ⟨.verified, 5, 9⟩, 6) := by decide +kernel

/-- IDENTIFYING with nothing in the Resume Table. -/
def identifyingState : State := { runningState with session := { runningState.session with state := .identifying } }

/-- The directory of `disc` as R137 lays it out. -/
def discPayload : List Byte := [0, 2, 0xE8, 3, 0, 0, 0, 0, 5, 0, 0]

/-- IDENTIFYING with an entry for `disc` and the ring that its last session left. -/
def matchState (address p e : Nat) (slots : List (Nat × Slot)) (intent : StoredIntent) : State :=
  { identifyingState with
    ring := { runningState.ring with p := p, e := e, slots := slots, owner := some (crc32 discPayload) }
    session := { identifyingState.session with
      table := [⟨crc32 discPayload, 2, 1000, address, 7, intent, some .x2⟩] } }

theorem witness_DirectoryStartsSession : ([0, 0, 0] : List Byte).length = 3 ∧ disc.starts.length = 2 ∧
    (∀ s ∈ [identifyingState, { identifyingState with params := { identifyingState.params with autoPlay := false } }],
      s.Ready ∧ s.planner.scanDue = false ∧ s.intake.rx.inFrame = false ∧ s.session.state = .identifying ∧
      s.engine.play = .halted ∧ 1 ≤ s.params.startDepth ∧ s.session.TableLaw ∧ s.planner.queue = [] ∧
      s.session.table = []) ∧
    identifyingState.params.autoPlay = true ∧ runningState.Ready ∧ runningState.session.state ≠ .identifying := by decide

/-- A valid directory, and one that fails each check of R137 first. -/
theorem witness_DirectoryStartsSession_checks :
    (¬ 1 < (0 : Byte).toNat ∧ disc.starts.length ≠ 0 ∧ ¬ 99 < disc.starts.length ∧ disc.t ≠ 0 ∧ ¬ 1048576 < disc.t ∧
      disc.starts.Pairwise (· < ·) ∧ ¬ ∃ x ∈ disc.starts, disc.t ≤ x) ∧
    1 < (2 : Byte).toNat ∧ ([] : List (BitVec 24)).length = 0 ∧ 99 < (List.replicate 100 (0 : BitVec 24)).length ∧
    (List.replicate 100 (0 : BitVec 24)).length ≤ 255 ∧ (0 : BitVec 24).toNat = 0 ∧
    1048576 < (1048577 : BitVec 24).toNat ∧ ¬ [5, 5].Pairwise (· < ·) ∧
    ([0, 1000].Pairwise (· < ·) ∧ ∃ x ∈ [0, 1000], disc.t ≤ x) := by decide

/-- The rows of R140 and R141: the ring at the entry's address with a playable slot there, with a hole under two hole waits,
with nothing, and at T; the ring elsewhere; another disc's entry. -/
theorem witness_DirectoryStartsSession_match :
    (∀ i ∈ [StoredIntent.playing, .paused],
      ∀ s ∈ [matchState 3 3 4 [(3, block 3)] i, matchState 3 3 4 [(3, .missing 3)] i, matchState 3 3 3 [] i,
        matchState 1000 1000 1000 [] i, matchState 3 5 5 [] i, matchState 1000 5 5 [] i],
      s.Ready ∧ s.planner.scanDue = false ∧ s.session.state = .identifying ∧ s.engine.play = .halted ∧
      1 ≤ s.params.startDepth ∧ s.session.TableLaw ∧ s.planner.queue = [] ∧ s.ring.Law ∧ s.params.autoResume = true ∧
      s.ring.owner = some (crc32 discPayload)) ∧
    ((matchState 3 3 4 [(3, block 3)] .playing).slot 3).playable = true ∧
    ((matchState 3 3 4 [(3, .missing 3)] .playing).slot 3).isMissing = true ∧
    ((matchState 3 3 4 [(3, .missing 3)] .playing).slot 3).playable = false ∧
    ((matchState 3 3 3 [] .playing).slot 3).playable = false ∧
    ((matchState 3 3 3 [] .playing).slot 3).isMissing = false ∧
    0 < identifyingState.params.holeWait * (44100 : Nat) / 1000 ∧ 0 * disc.rate.hz / 1000 = 0 ∧
    0 :: byteOf 2 :: (le24 1000 ++ [0, 5].flatMap le24) = discPayload ∧ crc32 discPayload ≠ 7 := by decide +kernel

/-- The directory of `disc` as a whole frame. -/
def directoryFrame : List Byte := [2, 0, 0, 0, 0, 0, 11, 0, 0x62, 0x62] ++ discPayload

/-- R139, R141: the directory of `disc` starts its first program, PRIMING at block 0. -/
theorem test_directory_starts :
    after (fun t => (t.session.state, t.session.directory, t.ring.p, t.engine.play, t.rdyB))
      (exec (.streamFrame true directoryFrame) identifyingState) =
      some (SessionState.present, some disc, 0, Play.priming, true) := by decide +kernel

/-- IDENTIFYING with rates above 1x kept from the session before. -/
def keptRates : State := { identifyingState with rates := ⟨some ⟨⟨true, true⟩, .x4, .x4⟩, 0, none⟩ }

theorem witness_DirectoryStartsSession_rates : keptRates.Ready ∧ keptRates.planner.scanDue = false ∧
    keptRates.intake.rx.inFrame = false ∧ keptRates.session.state = .identifying ∧ keptRates.engine.play = .halted ∧
    1 ≤ keptRates.params.startDepth ∧ keptRates.session.TableLaw ∧ keptRates.planner.queue = [] ∧
    keptRates.session.table = [] ∧ keptRates.rates.agreed ≠ .x1 := by decide

/-- R88, R89, R96: the entry to PRESENT drops the rates and says so with cause RESET on both ports; program 1 is told. -/
theorem test_entry_drops_rates :
    after (fun t => (t.rates, [DEvent.rateChanged .x1 .x1 .none .reset].all fun x => x ∈ t.events.dSet.map Latched.ev,
        [SEvent.rateChanged .x1 .x1 .none .reset, .programChanged 1 0].all fun x => x ∈ t.events.sSet.map Latched.ev))
      (exec (.streamFrame true directoryFrame) keptRates) = some (⟨none, 0, none⟩, true, true) := by decide +kernel

/-- R140: a WARM_START goes on from the entry's frame in the ring as it was kept. -/
theorem test_warm_start :
    after (fun t => (t.ring.e, t.engine.f, t.engine.play, t.conceal.gp))
      (exec (.streamFrame true directoryFrame) (matchState 3 3 4 [(3, block 3)] .playing)) =
      some (4, 7, Play.playing, 0) := by decide +kernel

/-- R33: a block placed at E raises it. -/
theorem test_block_placed :
    after (fun t => (t.ring.p, t.ring.e)) (exec (.streamFrame true atE) playingState) = some (3, 7) := by decide +kernel

/-- PLAYING with one block below the fullness of L − 8, and the block for E. -/
def nearlyFull : State := presentState .playing 3 506 ((3, block 3) :: (List.range' 4 502).map fun a => (a, .void a))
def atPause : List Byte := framed [1, 3, 9, 0xFA, 1, 0, 0x53, 7] 1875

theorem witness_AcceptedBlockIsWritten_pause : Takes nearlyFull ∧ nearlyFull.intake.run = none ∧
    nearlyFull.ring.fullness + 1 = nearlyFull.ring.len - 8 ∧ nearlyFull.pauseFlag = false ∧ goodAudio atPause 506 true ∧
    506 < nearlyFull.ring.p + nearlyFull.ring.len ∧ 506 < nearlyFull.t := by decide +kernel

/-- R36, R37: the placement that brings fullness to L − 8 asserts the flag and tells of it. -/
theorem test_placement_asserts_pause :
    after (fun t => (t.intake.latch, t.pauseFlag, t.events.dSet.map Latched.ev))
      (exec (.streamFrame true atPause) nearlyFull) = some (true, true, [.pauseChanged true]) := by decide +kernel

/-- A step runs a state that meets every law: for the statements StepKeeps… and StrapsReadAtClearOnly. -/
def lawfulState : State :=
  { orderState 1 (some anIssue) with
    ring := { playingState.ring with owner := some 7 }, pending := [.wakeEdge] }

theorem witness_Laws : let s := lawfulState
    s.ring.Law ∧ s.ring.MarkLaw ∧ s.planner.Law ∧ s.planner.scanDue = false ∧ s.rates.Law s.params ∧
    s.conceal.Law ∧ s.events.Law ∧ s.session.TableLaw ∧ ParamLaw s.ring.len s.params ∧ s.ModeLaw ∧
    s.RegionLaw ∧ s.DiscLaw ∧ AlertLaw s ∧ step s = .next { s with pending := [] } := by
  refine ⟨by decide, by decide, by decide, by decide, by decide, by decide, by decide, by decide, by decide,
    by decide, by decide, by decide, by decide, rfl⟩

theorem witness_Laws_full : lawfulState.FullLaw := by
  refine ⟨fun _ a h1 h2 => ?_, by decide⟩
  have h : a = 3 ∨ a = 4 ∨ a = 5 := by
    have h1' : 3 ≤ a := h1
    have h2' : a < 6 := h2
    omega
  rcases h with rfl | rfl | rfl <;> decide

end Sys2Proof.Tests
end

section
/-! PROOF. RESET, the laws right after reset, and the end of a ring clear. -/

namespace Sys2Proof.Machine

/-! ### RESET and the laws at reset -/

/-- The reset of the blocks as the statements write it: no ring clear, the straps and the Resume Table kept. -/
theorem resetBlocks_eq (s : State) : resetBlocks s = afterReset s s.ring.straps none s.session.table := rfl

/-- A ring clear right after a reset shows in the ring alone: the default parameters fit every L. -/
theorem startClear_resetBlocks (msz : BitVec 2) (s : State) :
    startClear msz (resetBlocks s) = afterReset s msz (some ⟨s.now⟩) s.session.table := by
  have fits : ∀ m : BitVec 2, (clampTo 1 (ringLength m / 2) 50 = 50 ∧ clampTo 16 (ringLength m / 2) 200 = 200) := by
    decide
  simp only [startClear, fitParams, resetBlocks, State.reset, paramDefaults, Ring.len, fits msz]
  rfl

/-- Settles O3: the assertion resets the blocks, the release resets them again and starts the ring clear. -/
theorem resetLineResets : Obligations.ResetLineResets := by
  intro msz s hp
  refine ⟨⟨_, rfl, ?_, ?_⟩, fun hr => ?_, fun hr => ?_⟩
  · simp [hp, resetBlocks_eq, afterReset]
  · simp [hp, resetBlocks, State.rdyB, State.busy, State.shownMode, State.attention]
  · simp only [exec, execResetLineReleased, hr, hp, Bool.and_self, if_true, startClear_resetBlocks, afterReset]
  · simp only [exec, execResetLineReleased, hr, Bool.false_and, Bool.false_eq_true, if_false]
    rw [← hr]

/-- Settles O53: each law is a finite check of the reset state, and its window holds no address. -/
theorem resetKeepsLaws : Obligations.ResetKeepsLaws := by
  refine ⟨by decide, by decide, by decide, by decide, by decide, by decide, by decide, by decide, by decide, rfl,
    ⟨fun _ a _ hlt => absurd hlt (Nat.not_lt_zero a), fun _ => rfl⟩, by decide, by decide, by decide⟩

/-! ### The end of a ring clear -/

/-- An event that clears the fill latch and touches neither the queue nor the play state ends with PAUSE_CHANGED where
the latch alone held the pause flag (R36, R37). -/
theorem finish_latchCleared {b s : State} (hd : s.planner.scanDue = false) (hq : s.planner = b.planner)
    (hp : s.engine = b.engine) (hl : s.intake.latch = false) :
    finish b s = if b.intake.latch = true ∧ b.engine.play ≠ .stopped then raiseD (.pauseChanged false) s else s := by
  have hw : tellWork b s s = s := tellWork_quiet (by rw [hq]; cases b.planner.workWaits <;> simp)
  have hf : scanIfDue s = s := by simp [scanIfDue, hd]
  rw [finish, hf, hw]
  have hflag : s.pauseFlag = (b.engine.play == .stopped) := by simp [State.pauseFlag, hl, hp]
  rw [tellPause, hflag, State.pauseFlag]
  by_cases hs : b.engine.play = .stopped
  · simp [hs]
  · have hs' : (b.engine.play == .stopped) = false := by simpa using hs
    cases b.intake.latch <;> simp [hs', hs]

/-- The part as the ring clear `c` ends: the timebase at its end, the clear over, the fill latch clear (R17, R36). -/
def clearEnded (c : RingClear) (s : State) : State :=
  { elapseTo (c.since + 2 * s.ring.len) s with
    ring := { s.ring with clear := none }
    intake := { s.intake with latch := false } }

/-- Where no wake from SLEEPING waits for it, the end of a ring clear changes no mode. -/
theorem execRingClearEnd_stays {c : RingClear} {s : State} (hc : s.ring.clear = some c)
    (hm : s.power.mode ≠ .sleeping ∨ s.power.wake = none) :
    execRingClearEnd s = .next (finish s (clearEnded c s)) := by
  unfold execRingClearEnd
  rw [hc]
  dsimp only
  split
  · rename_i hsleep hwake
    rcases hm with hm | hm
    · exact absurd hsleep hm
    · rw [hwake] at hm; cases hm
  · rfl

/-- After a wake from SLEEPING it ends the wake (R170). -/
theorem execRingClearEnd_wakes {c : RingClear} {s : State} {w : WakeSource} (hc : s.ring.clear = some c)
    (hm : s.power.mode = .sleeping) (hw : s.power.wake = some w) :
    execRingClearEnd s = .next (finish s (wakeEnd w (clearEnded c s))) := by
  simp only [execRingClearEnd, hc, hm, hw]
  rfl

/-- A look at the tray with NO_DISC: a CLOSED one starts an identification (R133, R134). -/
theorem lookAtTray_noDisc {s : State} (h : s.session.state = .noDisc) :
    lookAtTray s = { s with session := if s.session.tray = some .closed
      then { s.session with state := .identifying, identify := some ⟨s.now, false⟩ } else s.session } := by
  unfold lookAtTray
  split <;> simp [loadDisc, h, startIdentify]

/-- Settles O6: PAUSE_CHANGED by `finish_latchCleared`, the wake by `lookAtTray_noDisc`. -/
theorem ringClearEnds : Obligations.RingClearEnds := by
  intro s
  refine ⟨fun hn => by simp [exec, execRingClearEnd, hn], fun c hc hd => ⟨fun hm => ?_, fun w hm hw hs => ?_⟩⟩
  · have hm' : s.power.mode ≠ .sleeping ∨ s.power.wake = none := hm.imp_left fun h => by simp [h]
    refine ⟨_, execRingClearEnd_stays hc hm', ?_⟩
    rw [finish_latchCleared (b := s) (s := clearEnded c s) hd rfl rfl rfl]
    split <;> simp +contextual [clearEnded, raiseD, elapseTo, State.busy]
  · refine ⟨_, execRingClearEnd_wakes hc hm hw, ?_⟩
    rw [finish_latchCleared (b := s) (s := wakeEnd w (clearEnded c s)) (by simpa [clearEnded] using hd)
      (by simp [clearEnded]) (by simp [clearEnded]) (by simp [clearEnded])]
    have hwake : wakeEnd w (clearEnded c s) = _ := lookAtTray_noDisc (by simpa [clearEnded] using hs)
    rw [hwake]
    split <;> simp +contextual [clearEnded, raiseD, raiseS, elapseTo, State.busy, State.rdyB]

end Sys2Proof.Machine
end

section
/-! PROOF. What every move of the ring store keeps: the window and its form (R3, R8, R9), the marks (R5), fullness of the
window, E within T and the owner (R8, R16). -/

namespace Sys2Proof.Machine

/-! ### The slot list as a function -/

theorem slotsGet_of_mem {i : Nat} {v : Slot} {l : List (Nat × Slot)} (hl : slotsWf l = true) (h : (i, v) ∈ l) :
    slotsGet i l = v := by
  induction l with
  | nil => cases h
  | cons x rest ih =>
    obtain ⟨j, u⟩ := x
    obtain ⟨-, habove, hrest⟩ := (slotsWf_cons j u rest).mp hl
    rcases List.mem_cons.mp h with heq | hin
    · cases heq; simp [slotsGet]
    · have hlt : j < i := habove _ hin
      simp [slotsGet, Nat.ne_of_gt hlt, ih hrest hin]

theorem mem_of_slotsGet {i : Nat} {l : List (Nat × Slot)} (h : (slotsGet i l).isEmpty = false) :
    (i, slotsGet i l) ∈ l := by
  induction l with
  | nil => cases h
  | cons x rest ih =>
    obtain ⟨j, u⟩ := x
    by_cases hij : i = j
    · simp [slotsGet, hij]
    · simp only [slotsGet, hij, if_false] at h ⊢
      exact List.mem_cons_of_mem _ (ih h)

theorem isEmpty_of_mem {x : Nat × Slot} {l : List (Nat × Slot)} (hl : slotsWf l = true) (h : x ∈ l) :
    x.2.isEmpty = false := by
  simp only [slotsWf, Bool.and_eq_true, List.all_eq_true, Bool.not_eq_true'] at hl
  exact hl.2 x h

/-- Emptying an index takes it off the list and lists nothing new. -/
theorem mem_slotsPut_empty {i : Nat} {l : List (Nat × Slot)} {x : Nat × Slot} (hl : slotsWf l = true)
    (h : x ∈ slotsPut i .empty l) : x ∈ l ∧ x.1 ≠ i := by
  have hwf := slotsPut_wf i .empty l hl
  have hne := isEmpty_of_mem hwf h
  have hread := slotsGet_of_mem (i := x.1) (v := x.2) hwf h
  constructor
  · rcases mem_slotsPut h with rfl | hin
    · cases hne
    · exact hin
  · intro hi
    rw [hi, slotsGet_put_same i .empty l hl] at hread
    rw [← hread] at hne
    cases hne

/-! ### The slots of an address range -/

/-- Every listed slot holds an address of lo..hi−1, at its index. -/
def Ring.Within (lo hi : Nat) (r : Ring) : Prop :=
  ∀ x ∈ r.slots, ∃ a, x.2.tag = some a ∧ lo ≤ a ∧ a < hi ∧ x.1 = a % r.len

/-- No slot of lo..hi−1 is EMPTY. -/
def Ring.Filled (lo hi : Nat) (r : Ring) : Prop := ∀ a, lo ≤ a → a < hi → (r.slot a).isEmpty = false

/-- No slot of the window P..E−1 is EMPTY (R9). -/
abbrev Ring.Full (r : Ring) : Prop := r.Filled r.p r.e

theorem inWindow_iff (r : Ring) (x : Nat × Slot) :
    inWindow r x = true ↔ ∃ a, x.2.tag = some a ∧ r.p ≤ a ∧ a < r.e ∧ x.1 = a % r.len := by
  unfold inWindow
  cases x.2.tag <;> simp [and_assoc]

/-- The law of the ring, its slots by address. -/
theorem law_iff (r : Ring) :
    r.Law ↔ slotsWf r.slots = true ∧ r.p ≤ r.e ∧ r.e ≤ r.p + r.len ∧ r.Within r.p r.e := by
  simp only [Ring.Law, Ring.Within, inWindow_iff]

theorem slot_mem {r : Ring} {a : Nat} (h : (r.slot a).isEmpty = false) : (a % r.len, r.slot a) ∈ r.slots :=
  mem_of_slotsGet h

theorem isEmpty_of_tag {v : Slot} {a : Nat} (h : v.tag = some a) : v.isEmpty = false := by
  cases v <;> simp_all [Slot.tag, Slot.isEmpty]

/-- A held address lies in P..E−1. -/
theorem holds_window {r : Ring} {a : Nat} (hr : r.Law) (h : r.holds a = true) : r.p ≤ a ∧ a < r.e := by
  simp only [Ring.holds, Bool.and_eq_true, beq_iff_eq] at h
  obtain ⟨-, htag⟩ := h
  obtain ⟨-, -, -, hin⟩ := (law_iff r).mp hr
  obtain ⟨b, hb, hlo, hhi, -⟩ := hin _ (slot_mem (isEmpty_of_tag htag))
  cases htag.symm.trans hb
  exact ⟨hlo, hhi⟩

theorem holds_tag {r : Ring} {a : Nat} (h : r.holds a = true) : (r.slot a).tag = some a := by
  simp only [Ring.holds, Bool.and_eq_true, beq_iff_eq] at h
  exact h.2

/-! ### One slot written -/

theorem Ring.Within.setSlot {lo hi a : Nat} {v : Slot} {r : Ring} (h : r.Within lo hi) (hv : v.tag = some a)
    (hlo : lo ≤ a) (hhi : a < hi) : (r.setSlot a v).Within lo hi := fun x hx =>
  match mem_slotsPut hx with
  | .inl heq => heq ▸ ⟨a, hv, hlo, hhi, rfl⟩
  | .inr hin => h x hin

theorem Ring.MarkLaw.setSlot {a : Nat} {v : Slot} {r : Ring} (h : r.MarkLaw) (hv : v.marksGood = true) :
    (r.setSlot a v).MarkLaw := fun x hx =>
  match mem_slotsPut hx with
  | .inl heq => heq ▸ hv
  | .inr hin => h x hin

/-- A slot that is not EMPTY is not EMPTY after a write that empties nothing. -/
theorem slot_setSlot_nonempty {a b : Nat} {v : Slot} {r : Ring} (hw : slotsWf r.slots = true)
    (hv : v.isEmpty = false) (hb : (r.slot b).isEmpty = false) : ((r.setSlot a v).slot b).isEmpty = false := by
  by_cases hab : b % r.len = a % r.len
  · have hsame : (r.setSlot a v).slot b = (r.setSlot a v).slot a := by
      show slotsGet (b % r.len) _ = slotsGet (a % r.len) _
      rw [hab]
    rw [hsame, slot_setSlot_same a v hw, hv]
  · rw [slot_setSlot_other v hab, hb]

theorem Ring.Filled.setSlot {lo hi a : Nat} {v : Slot} {r : Ring} (h : r.Filled lo hi) (hw : slotsWf r.slots = true)
    (hv : v.isEmpty = false) : (r.setSlot a v).Filled lo hi := fun b hlo hhi =>
  slot_setSlot_nonempty hw hv (h b hlo hhi)

/-! ### Ranges of slots written -/

theorem markMissing_within {lo hi n a : Nat} {r : Ring} (h : r.Within lo hi) (hlo : lo ≤ a) (hhi : a + n ≤ hi) :
    (markMissing n a r).Within lo hi := by
  induction n generalizing a r with
  | zero => exact h
  | succ n ih =>
    refine ih ?_ (by omega) (by omega)
    split
    · exact h.setSlot rfl hlo (by omega)
    · exact h

theorem markMissing_marks {n a : Nat} {r : Ring} (h : r.MarkLaw) : (markMissing n a r).MarkLaw := by
  induction n generalizing a r with
  | zero => exact h
  | succ n ih =>
    refine ih ?_
    split
    · exact h.setSlot rfl
    · exact h

/-- The addresses passed over are held after it, beside those that were held before (R10). -/
theorem markMissing_filled {lo n a : Nat} {r : Ring} (hw : slotsWf r.slots = true) (h : r.Filled lo a) :
    (markMissing n a r).Filled lo (a + n) := by
  induction n generalizing a r with
  | zero => exact h
  | succ n ih =>
    have hnext : ∀ {r' : Ring}, slotsWf r'.slots = true → r'.Filled lo a → (r'.slot a).isEmpty = false →
        (markMissing n (a + 1) r').Filled lo (a + (n + 1)) := fun {r'} hw' hf ha => by
      have := ih (a := a + 1) hw' fun b hlo hhi => if hb : b = a then hb ▸ ha else hf b hlo (by omega)
      rwa [Nat.add_right_comm, Nat.add_assoc] at this
    unfold markMissing
    split
    · exact hnext (setSlot_wf _ _ hw) (h.setSlot hw rfl) (by rw [slot_setSlot_same a _ hw]; rfl)
    · rename_i hne
      exact hnext hw h (by simpa using hne)

/-- Emptying the low end of the window leaves the rest (R13, R14). -/
theorem emptySlots_within {hi n a : Nat} {r : Ring} (hw : slotsWf r.slots = true) (h : r.Within a hi) :
    (emptySlots n a r).Within (a + n) hi := by
  induction n generalizing a r with
  | zero => exact h
  | succ n ih =>
    have hstep : (r.setSlot a .empty).Within (a + 1) hi := fun x hx => by
      obtain ⟨hin, hne⟩ := mem_slotsPut_empty hw hx
      obtain ⟨b, hb, hlo, hhi, hidx⟩ := h x hin
      have hba : b ≠ a := fun hba => hne (by rw [hidx, hba])
      exact ⟨b, hb, by omega, hhi, hidx⟩
    have := ih (setSlot_wf a .empty hw) hstep
    rwa [Nat.add_right_comm, Nat.add_assoc] at this

theorem emptySlots_marks {n a : Nat} {r : Ring} (hw : slotsWf r.slots = true) (h : r.MarkLaw) :
    (emptySlots n a r).MarkLaw := by
  induction n generalizing a r with
  | zero => exact h
  | succ n ih => exact ih (setSlot_wf a .empty hw) fun x hx => h x (mem_slotsPut_empty hw hx).1

theorem emptySlots_filled {hi n a : Nat} {r : Ring} (hlen : hi ≤ a + r.len) (h : r.Filled a hi) :
    (emptySlots n a r).Filled (a + n) hi := by
  induction n generalizing a r with
  | zero => exact h
  | succ n ih =>
    have hstep : (r.setSlot a .empty).Filled (a + 1) hi := fun b hlo hhi => by
      have hidx : b % r.len ≠ a % r.len := fun heq => by
        have := mod_injective (len := r.len) (p := a) ⟨by omega, by omega⟩ ⟨le_refl a, by omega⟩ heq
        omega
      rw [slot_setSlot_other _ hidx]
      exact h b (by omega) hhi
    have := ih (r := r.setSlot a .empty) (a := a + 1) (by show hi ≤ a + 1 + r.len; omega) hstep
    rwa [Nat.add_right_comm, Nat.add_assoc] at this

/-! ### Slots and their marks -/

theorem filled_marksGood (b : Block) (a : Nat) (src : Source) : (b.filled a src).marksGood = true := by
  unfold Block.filled
  split
  · rfl
  · rename_i h; simpa [Slot.marksGood, Nat.one_le_iff_ne_zero] using h

@[simp] theorem filled_tag (b : Block) (a : Nat) (src : Source) : (b.filled a src).tag = some a := by
  unfold Block.filled; split <;> rfl

theorem acceptInto_marksGood (a : Nat) (b : Block) (v : Slot) : (acceptInto a b v).marksGood = true := by
  cases v with
  | empty => rfl
  | missing t => exact filled_marksGood ..
  | clean t p src => rfl
  | flawed t m p src settled =>
    simp only [acceptInto, mergeFlawed]
    split
    · rfl
    · rename_i h; simpa [Slot.marksGood, Nat.one_le_iff_ne_zero] using h
  | void t => exact filled_marksGood ..

theorem acceptInto_tag {a : Nat} {v : Slot} (b : Block) (h : v.tag = some a) : (acceptInto a b v).tag = some a := by
  cases v with
  | empty => cases h
  | missing t => exact filled_tag ..
  | clean t p src => exact h
  | flawed t m p src settled => simp only [acceptInto, mergeFlawed]; split <;> exact h
  | void t => exact filled_tag ..

theorem givenUp_tag (v : Slot) : v.givenUp.tag = v.tag := by cases v <;> rfl

theorem givenUp_marksGood {v : Slot} (h : v.marksGood = true) : v.givenUp.marksGood = true := by
  cases v <;> simp_all [Slot.givenUp, Slot.marksGood]

/-! ### What a move of the ring keeps -/

/-- What a move of the ring store keeps while the disc `fp` of length `t` is in play. A move that is not `live`, as one
that only rewrites held slots, leaves P, E and the owner. -/
structure Moves (live : Prop) (fp : Option (BitVec 32)) (t : Nat) (r r' : Ring) : Prop where
  straps : r'.straps = r.straps
  clear : r'.clear = r.clear
  law : r.Law → r'.Law
  marks : r.Law → r.MarkLaw → r'.MarkLaw
  full : r.Law → r.Full → r'.Full
  bound : r.Law → r.e ≤ t → r'.e ≤ t
  owner : r.owner = fp → r'.owner = fp
  still : ¬ live → r'.p = r.p ∧ r'.e = r.e ∧ r'.owner = r.owner

section
variable {live : Prop} {fp : Option (BitVec 32)} {t : Nat} {r r' r'' : Ring}

theorem Moves.refl (r : Ring) : Moves live fp t r r :=
  ⟨rfl, rfl, id, fun _ => id, fun _ => id, fun _ => id, id, fun _ => ⟨rfl, rfl, rfl⟩⟩

theorem Moves.trans (h : Moves live fp t r r') (h' : Moves live fp t r' r'') : Moves live fp t r r'' where
  straps := h'.straps.trans h.straps
  clear := h'.clear.trans h.clear
  law hr := h'.law (h.law hr)
  marks hr hm := h'.marks (h.law hr) (h.marks hr hm)
  full hr hf := h'.full (h.law hr) (h.full hr hf)
  bound hr hb := h'.bound (h.law hr) (h.bound hr hb)
  owner ho := h'.owner (h.owner ho)
  still hl := by
    obtain ⟨hp, he, ho⟩ := h.still hl
    obtain ⟨hp', he', ho'⟩ := h'.still hl
    exact ⟨hp'.trans hp, he'.trans he, ho'.trans ho⟩

/-- A move that is allowed in fewer cases is allowed in more. -/
theorem Moves.mono {live' : Prop} (h : Moves live fp t r r') (hl : live → live') : Moves live' fp t r r' :=
  { h with still := fun hn => h.still (hn ∘ hl) }

/-- A held slot rewritten in place: it keeps its tag and has a mark when it is FLAWED. -/
theorem moves_setSlot {a : Nat} {v : Slot} (hold : r.holds a = true) (htag : v.tag = some a)
    (hmark : r.MarkLaw → v.marksGood = true) : Moves live fp t r (r.setSlot a v) where
  straps := rfl
  clear := rfl
  law hr := by
    obtain ⟨hlo, hhi⟩ := holds_window hr hold
    obtain ⟨hw, hpe, hel, hin⟩ := (law_iff r).mp hr
    exact (law_iff _).mpr ⟨setSlot_wf a v hw, hpe, hel, hin.setSlot htag hlo hhi⟩
  marks _ hm := hm.setSlot (hmark hm)
  full hr hf := hf.setSlot hr.1 (isEmpty_of_tag htag)
  bound _ := id
  owner := id
  still _ := ⟨rfl, rfl, rfl⟩

theorem moves_accept (a : Nat) (b : Block) (r : Ring) : Moves live fp t r (r.accept a b) := by
  unfold Ring.accept
  split
  · rename_i hold
    exact moves_setSlot hold (acceptInto_tag b (holds_tag hold)) fun _ => acceptInto_marksGood ..
  · exact .refl r

theorem moves_giveUpHole (a : Nat) (r : Ring) : Moves live fp t r (r.giveUpHole a) := by
  unfold Ring.giveUpHole
  split
  · rename_i hold
    simp only [Bool.and_eq_true] at hold
    exact moves_setSlot hold.1 rfl fun _ => rfl
  · exact .refl r

theorem moves_giveUp (a : Nat) (r : Ring) : Moves live fp t r (r.giveUp a) := by
  unfold Ring.giveUp
  split
  · rename_i hold
    have htag := holds_tag hold
    exact moves_setSlot hold ((givenUp_tag _).trans htag)
      fun hm => givenUp_marksGood (hm _ (slot_mem (isEmpty_of_tag htag)))
  · exact .refl r

theorem moves_giveUps (l : List Nat) (r : Ring) : Moves live fp t r (l.foldl (fun r a => r.giveUp a) r) := by
  induction l generalizing r with
  | nil => exact .refl r
  | cons a l ih => exact (moves_giveUp a r).trans (ih _)

/-- A placement at an address of the disc (R10, R32). -/
theorem moves_place {a : Nat} (hlive : live) (hat : a < t) (b : Block) (r : Ring) :
    Moves live fp t r (r.place a b) := by
  unfold Ring.place
  split
  · rename_i h
    simp only [Bool.and_eq_true, decide_eq_true_eq] at h
    obtain ⟨⟨hea, hal⟩, -⟩ := h
    obtain ⟨hstraps, hp, he, howner, hclear⟩ := markMissing_frame (a - r.e) r.e r
    have hlen : (markMissing (a - r.e) r.e r).len = r.len := by rw [Ring.len, hstraps]; rfl
    have hto : r.e + (a - r.e) = a := by omega
    refine ⟨hstraps, hclear, fun hr => ?_, fun hr hm => ?_, fun hr hf => ?_, fun _ _ => hat, fun ho => howner.trans ho,
      fun hn => absurd hlive hn⟩
    · obtain ⟨hw, hpe, hel, hin⟩ := (law_iff r).mp hr
      have hin' : r.Within r.p (a + 1) := fun x hx =>
        let ⟨b, hb, hlo, hhi, hidx⟩ := hin x hx
        ⟨b, hb, hlo, by omega, hidx⟩
      have hset := (markMissing_within (n := a - r.e) hin' hpe (by omega)).setSlot (filled_tag b a .stream)
        (by omega) (by omega)
      refine (law_iff _).mpr ⟨setSlot_wf _ _ (markMissing_wf _ _ hw), ?_, ?_, ?_⟩
      · show (markMissing (a - r.e) r.e r).p ≤ a + 1
        omega
      · show a + 1 ≤ (markMissing (a - r.e) r.e r).p + (markMissing (a - r.e) r.e r).len
        omega
      · rw [← hp] at hset
        exact hset
    · exact (markMissing_marks hm).setSlot (filled_marksGood b a .stream)
    · have hw := markMissing_wf (a - r.e) r.e hr.1
      have hmiss := markMissing_filled (n := a - r.e) hr.1 hf
      rw [hto] at hmiss
      intro c hlo hhi
      show ((((markMissing (a - r.e) r.e r).setSlot a (b.filled a .stream))).slot c).isEmpty = false
      by_cases hca : c = a
      · rw [hca, slot_setSlot_same a _ hw]
        exact isEmpty_of_tag (filled_tag b a .stream)
      · refine slot_setSlot_nonempty hw (isEmpty_of_tag (filled_tag b a .stream)) (hmiss c ?_ ?_)
        · exact hp ▸ hlo
        · have : c < a + 1 := hhi
          omega
  · exact .refl r

/-- P rises inside the window, or to its end, and the slots passed are emptied (R13, R14). -/
theorem moves_advance {a : Nat} (hlive : live) (hpa : r.p ≤ a) (hae : r.Law → a ≤ r.e) :
    Moves live fp t r (r.advance a) := by
  obtain ⟨hstraps, hp, he, howner, hclear⟩ := emptySlots_frame (a - r.p) r.p r
  have hlen : (emptySlots (a - r.p) r.p r).len = r.len := by rw [Ring.len, hstraps]; rfl
  have hto : r.p + (a - r.p) = a := by omega
  refine ⟨hstraps, hclear, fun hr => ?_, fun hr hm => emptySlots_marks hr.1 hm, fun hr hf => ?_, fun _ hb => ?_,
    fun ho => howner.trans ho, fun hn => absurd hlive hn⟩
  · obtain ⟨hw, hpe, hel, hin⟩ := (law_iff r).mp hr
    have hin' := emptySlots_within (n := a - r.p) hw hin
    rw [hto] at hin'
    refine (law_iff _).mpr ⟨emptySlots_wf _ _ hw, ?_, ?_, ?_⟩
    · show a ≤ (emptySlots (a - r.p) r.p r).e
      have := hae hr
      omega
    · show (emptySlots (a - r.p) r.p r).e ≤ a + (emptySlots (a - r.p) r.p r).len
      omega
    · rw [← he] at hin'
      exact hin'
  · have hf' := emptySlots_filled (n := a - r.p) (hr.2.2.1) hf
    rw [hto, ← he] at hf'
    exact hf'
  · exact he.trans_le hb

/-- A slot P that is not EMPTY lies below E. -/
theorem p_lt_e {r : Ring} (hr : r.Law) (h : (r.slot r.p).isEmpty = false) : r.p < r.e := by
  obtain ⟨-, -, -, hin⟩ := (law_iff r).mp hr
  obtain ⟨b, -, hlo, hhi, -⟩ := hin _ (slot_mem h)
  omega

theorem moves_release (hlive : live) (r : Ring) : Moves live fp t r r.release := by
  unfold Ring.release
  split
  · exact .refl r
  · rename_i h
    have hstep : r.advance (r.p + 1) = { r.setSlot r.p .empty with p := r.p + 1 } := by
      have hn : r.p + 1 - r.p = 1 := by omega
      simp [Ring.advance, hn, emptySlots]
    exact hstep ▸ moves_advance hlive (Nat.le_succ _) fun hr => p_lt_e hr (by simpa using h)

/-- A flush for the disc in play, to P or to an address of the disc (R15, R16). -/
theorem moves_flush {a : Nat} (hlive : live) (ha : a = r.p ∨ a ≤ t) : Moves live fp t r (r.flush a fp) where
  straps := rfl
  clear := rfl
  law _ := (law_iff _).mpr ⟨rfl, le_refl _, Nat.le_add_right _ _, fun _ hx => nomatch hx⟩
  marks _ _ := fun _ hx => nomatch hx
  full _ _ := fun _ hlo hhi => absurd hhi (Nat.not_lt.mpr hlo)
  bound hr hb := by
    have := hr.2.1
    show a ≤ t
    omega
  owner _ := rfl
  still hn := absurd hlive hn

end

end Sys2Proof.Machine
end

section
/-! PROOF. The operations that work within a session: each leaves the session, the mode, an entry, the parameters and the
queue of commands, moves the ring by `Moves`, and takes a play state of PRESENT or none. -/

namespace Sys2Proof.Machine

/-! ### Operations within a session -/

/-- PRESENT, or a play state that only PRESENT allows: where the play commands act. -/
def State.CanPlay (s : State) : Prop := s.session.state = .present ∨ playFits .present s.engine.play = true

/-- PRESENT, or a play state other than HALTED: where P, E and the owner may move. -/
def State.Live (s : State) : Prop := s.session.state = .present ∨ s.engine.play ≠ .halted

/-- What an operation within a session leaves and keeps. -/
structure Works (s t : State) : Prop where
  session : t.session = s.session
  mode : t.power.mode = s.power.mode
  entry : t.power.entry = s.power.entry
  params : t.params = s.params
  pending : t.pending = s.pending
  play : t.engine.play = s.engine.play ∨ s.CanPlay ∧ playFits .present t.engine.play = true
  ring : Moves s.Live s.session.fingerprint s.t s.ring t.ring

theorem State.CanPlay.live {s : State} (h : s.CanPlay) : s.Live :=
  h.imp_right fun hp hh => by rw [hh] at hp; cases hp

/-- T follows from the session. -/
theorem t_of_session {s t : State} (h : t.session = s.session) : t.t = s.t := by rw [State.t, State.t, h]

/-- An operation that leaves all that `Works` speaks of. -/
theorem Works.of_same {s t : State} (h : t.ring = s.ring ∧ t.session = s.session ∧ t.power.mode = s.power.mode ∧
    t.power.entry = s.power.entry ∧ t.params = s.params ∧ t.pending = s.pending ∧
    t.engine.play = s.engine.play) : Works s t := by
  obtain ⟨ring, session, mode, entry, params, pending, play⟩ := h
  exact ⟨session, mode, entry, params, pending, .inl play, ring ▸ .refl _⟩

/-- An operation that moves the ring alone. -/
theorem Works.of_moves {s t : State} (ring : Moves s.Live s.session.fingerprint s.t s.ring t.ring)
    (h : t.session = s.session ∧ t.power.mode = s.power.mode ∧ t.power.entry = s.power.entry ∧
      t.params = s.params ∧ t.pending = s.pending ∧ t.engine.play = s.engine.play) : Works s t := by
  obtain ⟨session, mode, entry, params, pending, play⟩ := h
  exact ⟨session, mode, entry, params, pending, .inl play, ring⟩

/-- An operation that takes a play state of PRESENT. -/
theorem Works.of_play {s t : State} (hcan : s.CanPlay) (play : playFits .present t.engine.play = true)
    (h : t.ring = s.ring ∧ t.session = s.session ∧ t.power.mode = s.power.mode ∧
      t.power.entry = s.power.entry ∧ t.params = s.params ∧ t.pending = s.pending) : Works s t := by
  obtain ⟨ring, session, mode, entry, params, pending⟩ := h
  exact ⟨session, mode, entry, params, pending, .inr ⟨hcan, play⟩, ring ▸ .refl _⟩

theorem Works.refl (s : State) : Works s s := .of_same (by simp)

theorem Works.canPlay {s t : State} (h : Works s t) (ht : t.CanPlay) : s.CanPlay := by
  rcases ht with hs | hp
  · exact .inl (h.session ▸ hs)
  · rcases h.play with heq | ⟨hs, -⟩
    · exact .inr (heq ▸ hp)
    · exact hs

theorem Works.live {s t : State} (h : Works s t) (ht : t.Live) : s.Live := by
  rcases ht with hs | hp
  · exact .inl (h.session ▸ hs)
  · rcases h.play with heq | ⟨hs, -⟩
    · exact .inr (heq ▸ hp)
    · exact hs.live

theorem Works.trans {s t u : State} (h : Works s t) (h' : Works t u) : Works s u where
  session := h'.session.trans h.session
  mode := h'.mode.trans h.mode
  entry := h'.entry.trans h.entry
  params := h'.params.trans h.params
  pending := h'.pending.trans h.pending
  play := by
    rcases h'.play with heq | ⟨ht, hu⟩
    · rw [heq]; exact h.play
    · exact .inr ⟨h.canPlay ht, hu⟩
  ring := by
    have hring := h'.ring
    rw [h.session, t_of_session h.session] at hring
    exact h.ring.trans (hring.mono h.live)

/-- A fold of operations that each work within a session does. -/
theorem works_foldl {α : Type} (g : State → α → State) (h : ∀ s x, Works s (g s x)) :
    ∀ (l : List α) (s : State), Works s (l.foldl g s)
  | [], s => .refl s
  | x :: l, s => (h s x).trans (works_foldl g h l _)

/-! ### The play state after the small operations -/

@[simp] theorem setIntent_play (i : Intent) (s : State) : (setIntent i s).engine.play = s.engine.play := rfl
@[simp] theorem setFrame_play (f : Nat) (s : State) : (setFrame f s).engine.play = s.engine.play := rfl
@[simp] theorem closeSlot_play (s : State) : (closeSlot s).engine.play = s.engine.play := rfl
@[simp] theorem dropWaits_play (s : State) : (dropWaits s).engine.play = s.engine.play := rfl
@[simp] theorem startStall_play (s : State) : (startStall s).engine.play = s.engine.play := rfl
@[simp] theorem judgeAnticipation_play (s : State) : (judgeAnticipation s).engine.play = s.engine.play := rfl

@[simp] theorem openSlot_play (s : State) : (openSlot s).engine.play = s.engine.play := by simp [openSlot]

@[simp] theorem restartStall_play (s : State) : (restartStall s).engine.play = s.engine.play := by
  unfold restartStall; split <;> simp

@[simp] theorem judgeProgram_play (s : State) : (judgeProgram s).engine.play = s.engine.play := by
  unfold judgeProgram; dsimp only; split <;> simp

@[simp] theorem flush_play (a : Nat) (s : State) : (flush a s).engine.play = s.engine.play := by simp [flush]

@[simp] theorem releaseSlot_play (s : State) : (releaseSlot s).engine.play = s.engine.play := by simp [releaseSlot]

@[simp] theorem produceSilence_play (s : State) : (produceSilence s).engine.play = s.engine.play := by
  simp [produceSilence]

@[simp] theorem setPlay_play (p : Play) (s : State) : (setPlay p s).engine.play = p := by
  unfold setPlay; dsimp only; split <;> simp

@[simp] theorem startConceal_play (s : State) : (startConceal s).engine.play = s.engine.play := by simp [startConceal]

/-! ### The ring after the operations that move it -/

@[simp] theorem flush_ring (a : Nat) (s : State) : (flush a s).ring = s.ring.flush a s.session.fingerprint := by
  simp [flush]

@[simp] theorem releaseSlot_ring (s : State) : (releaseSlot s).ring = s.ring.release := by simp [releaseSlot]

@[simp] theorem giveUpOrder_ring (o : Order) (s : State) :
    (giveUpOrder o s).ring = (s.badIn o.first o.count).foldl (fun r a => r.giveUp a) s.ring := by
  unfold giveUpOrder; dsimp only; split <;> simp

/-! ### The planner -/

theorem works_giveUpOrder (o : Order) (s : State) : Works s (giveUpOrder o s) :=
  .of_moves (by rw [giveUpOrder_ring]; exact moves_giveUps _ _) (by simp)

theorem works_failAttempt (o : Order) (s : State) : Works s (failAttempt o s).1 := by
  have hcount : Works s (countFailure s) := .of_same (by simp)
  unfold failAttempt
  dsimp only
  split
  · exact hcount.trans (.of_same (by simp))
  · exact hcount.trans (works_giveUpOrder o _)

/-! ### The output engine -/

theorem works_setPlay {p : Play} {s : State} (h : s.CanPlay) (hp : playFits .present p = true) :
    Works s (setPlay p s) :=
  .of_play h (by simpa using hp) (by simp)

theorem works_flush {a : Nat} {s : State} (h : s.Live) (ha : a = s.ring.p ∨ a ≤ s.t) : Works s (flush a s) :=
  .of_moves (by rw [flush_ring]; exact moves_flush h ha) (by simp)

theorem works_enterStopped {s : State} (h : s.CanPlay) : Works s (enterStopped s) := by
  have hplay : Works s (s |> setPlay .stopped |> dropWaits) := .of_play h (by simp [playFits]) (by simp)
  have hcan : (s |> setPlay .stopped |> dropWaits).CanPlay := .inr (by simp [playFits])
  have hflush := hplay.trans (works_flush (a := s.ring.p) hcan.live (.inl (by simp)))
  unfold enterStopped
  exact hflush.trans (.of_same (by simp))

@[simp] theorem enterStopped_play (s : State) : (enterStopped s).engine.play = .stopped := by simp [enterStopped]

theorem works_endOfDisc {s : State} (h : s.CanPlay) : Works s (endOfDisc s) := by
  have hcan : (setIntent .stop s).CanPlay := h
  have hstop : Works s (enterStopped (setIntent .stop s)) := .trans (.of_same (by simp)) (works_enterStopped hcan)
  unfold endOfDisc
  exact hstop.trans (.of_same (by simp))

@[simp] theorem endOfDisc_play (s : State) : (endOfDisc s).engine.play = .stopped := by simp [endOfDisc]

theorem works_exitStarved {s : State} (h : s.CanPlay) : Works s (exitStarved s) :=
  .of_play h (by simp [exitStarved, playFits]) (by simp)

theorem works_expireHole {s : State} (h : s.CanPlay) : Works s (expireHole s) := by
  have hring : Works s { s with ring := s.ring.giveUpHole s.ring.p } := .of_moves (moves_giveUpHole _ _) (by simp)
  have htold : Works s ({ s with ring := s.ring.giveUpHole s.ring.p }
    |> raiseS (.slotAbandoned s.ring.p s.ring.p) |> rise .slotsAbandoned 1) := hring.trans (.of_same (by simp))
  exact htold.trans (works_exitStarved (h.imp (by simp) (by simp)))

theorem works_judgeHoleWait (s : State) : Works s (judgeHoleWait s) := by
  unfold judgeHoleWait
  split
  · rename_i h
    simp only [holeWaitOver, Bool.and_eq_true, beq_iff_eq] at h
    exact works_expireHole (.inr (by rw [h.1.1]; rfl))
  · exact .refl s

/-- STARVED, or PLAYING when the wait at a hole has ended at once. -/
theorem judgeHoleWait_play (s : State) :
    (judgeHoleWait s).engine.play = s.engine.play ∨ (judgeHoleWait s).engine.play = .playing := by
  unfold judgeHoleWait
  split
  · exact .inr (by simp [expireHole, exitStarved])
  · exact .inl rfl

theorem works_enterStarved {s : State} (h : s.CanPlay) : Works s (enterStarved s) := by
  unfold enterStarved
  extract_lets e u v
  have hu : Works s u := by simp only [u]; exact .of_play h (by simp [playFits]) (by simp)
  have hv : Works s v := by
    simp only [v]
    split
    · exact hu
    · exact hu.trans (.of_same (by simp))
  split
  · exact hv.trans (works_judgeHoleWait v)
  · exact hv

theorem enterStarved_fits (s : State) : playFits .present (enterStarved s).engine.play = true := by
  unfold enterStarved
  extract_lets e u v
  have hu : u.engine.play = .starved := by simp [u]
  have hv : v.engine.play = .starved := by simp only [v]; split <;> simp [hu]
  split
  · rcases judgeHoleWait_play v with hp | hp <;> rw [hp]
    · rw [hv]; rfl
    · rfl
  · rw [hv]; rfl

theorem works_endPriming {s : State} (h : s.CanPlay) : Works s (endPriming s) := by
  unfold endPriming
  split
  · exact works_endOfDisc h
  · exact .of_play h (by simp [playFits]) (by simp)

theorem endPriming_fits (s : State) : playFits .present (endPriming s).engine.play = true := by
  unfold endPriming; split <;> simp [playFits]

theorem works_react (s : State) : Works s (react s) := by
  unfold react
  split
  · rename_i h
    split
    · exact works_exitStarved (.inr (by rw [h]; rfl))
    · exact .refl s
  · rename_i h
    split
    · exact works_endPriming (.inr (by rw [h]; rfl))
    · exact .refl s
  · exact .refl s

theorem works_enterPriming {s : State} (h : s.CanPlay) : Works s (enterPriming s) := by
  unfold enterPriming
  exact Works.trans (.of_play h (by simp [playFits]) (by simp)) (works_react _)

theorem enterPriming_fits (s : State) : playFits .present (enterPriming s).engine.play = true := by
  unfold enterPriming
  extract_lets
  unfold react
  split <;> rename_i h
  · simp at h
  · split
    · exact endPriming_fits _
    · rw [h]; rfl
  · simp [playFits]

theorem works_landJump {s : State} (h : s.CanPlay) : Works s (landJump s) := by
  unfold landJump
  split
  · exact .of_play h (by simp [playFits]) (by simp)
  · exact works_enterStarved h

theorem works_jump {a : Nat} (f : Nat) {s : State} (h : s.CanPlay) (hpa : s.ring.p ≤ a) (hae : a < s.ring.e) :
    Works s (jump a f s) := by
  have hring : Works s { s with ring := s.ring.advance a } := .of_moves (moves_advance h.live hpa fun _ => hae.le) (by simp)
  unfold jump
  exact (hring.trans (.of_same (by simp))).trans (works_landJump (h.imp (by simp) (by simp)))

theorem works_seek {a : Nat} (f : Nat) {s : State} (h : s.CanPlay) (hat : a ≤ s.t) : Works s (seek a f s) := by
  unfold seek
  exact ((works_flush h.live (.inr hat)).trans (.of_same (by simp))).trans (works_enterPriming (h.imp (by simp) (by simp)))

theorem works_playTo {a : Nat} (f : Nat) {s : State} (h : s.CanPlay) (hat : a ≤ s.t) : Works s (playTo a f s) := by
  have hint : Works s (setIntent .play s) := .of_same (by simp)
  unfold playTo
  dsimp only
  split
  · rename_i hwin
    exact hint.trans (works_jump f h hwin.1 hwin.2)
  · exact hint.trans (works_seek f h hat)

theorem works_openAndPlay {s : State} (h : s.CanPlay) : Works s (openAndPlay s) :=
  .of_play h (by simp [openAndPlay, playFits]) (by simp)

/-! ### The stream intake -/

theorem works_writeBlock {a : Nat} (b : Block) {s : State} (h : s.Live) (hat : a < s.t) :
    Works s (writeBlock a b s) := by
  unfold writeBlock
  split
  · exact .of_moves (by simpa using moves_place h hat b s.ring) (by simp)
  · exact .of_moves (moves_accept a b s.ring) (by simp)

theorem works_acceptBlock (r : Run) {a : Nat} (b : Block) {s : State} (h : s.Live) (hat : a < s.t) :
    Works s (acceptBlock r a b s) := by
  unfold acceptBlock
  extract_lets u
  have hu : Works s u := by simp only [u]; exact (works_writeBlock b h hat).trans (.of_same (by simp))
  refine (Works.trans ?_ (works_react _))
  split
  · exact hu.trans (.of_same (by simp))
  · exact hu

end Sys2Proof.Machine
end

section
/-! PROOF. What a step keeps, packaged: `Keeps` for a step or a part of one, and `Leaves` for the leave procedure, which
begins where the mode's law does not hold. -/

namespace Sys2Proof.Machine

/-! ### Keeping the laws -/

/-- What every part of a step keeps that starts no ring clear: the straps, the commands that wait, and the laws. -/
structure Keeps (s t : State) : Prop where
  straps : t.ring.straps = s.ring.straps
  pending : t.pending = s.pending
  params : ParamLaw s.ring.len s.params → ParamLaw t.ring.len t.params
  law : s.ring.Law → t.ring.Law
  marks : s.ring.Law → s.ring.MarkLaw → t.ring.MarkLaw
  mode : s.ModeLaw → t.ModeLaw
  full : s.ring.Law → s.ModeLaw → s.FullLaw → t.FullLaw
  disc : s.ring.Law → s.ModeLaw → s.DiscLaw → t.DiscLaw

theorem Keeps.refl (s : State) : Keeps s s :=
  ⟨rfl, rfl, id, id, fun _ => id, id, fun _ _ => id, fun _ _ => id⟩

theorem Keeps.trans {s t u : State} (h : Keeps s t) (h' : Keeps t u) : Keeps s u where
  straps := h'.straps.trans h.straps
  pending := h'.pending.trans h.pending
  params hp := h'.params (h.params hp)
  law hr := h'.law (h.law hr)
  marks hr hm := h'.marks (h.law hr) (h.marks hr hm)
  mode hm := h'.mode (h.mode hm)
  full hr hm hf := h'.full (h.law hr) (h.mode hm) (h.full hr hm hf)
  disc hr hm hd := h'.disc (h.law hr) (h.mode hm) (h.disc hr hm hd)

theorem len_of_straps {r r' : Ring} (h : r'.straps = r.straps) : r'.len = r.len := by rw [Ring.len, Ring.len, h]

/-- Outside PRESENT and LEAVING the engine is HALTED (R111). -/
theorem not_live {s : State} (hm : s.ModeLaw) (h : s.session.state = .noDisc ∨ s.session.state = .identifying) :
    ¬ s.Live := by
  obtain ⟨-, hfit, -⟩ := hm
  rintro (hp | hp)
  · rcases h with h | h <;> rw [h] at hp <;> cases hp
  · rcases h with h | h <;> rw [h] at hfit <;> exact hp (by simpa [playFits] using hfit)

/-- While a ring clear runs the session is NO_DISC (R17, R153). -/
theorem clear_noDisc {s : State} (hm : s.ModeLaw) (h : s.ring.clear.isSome = true) : s.session.state = .noDisc := by
  obtain ⟨haway, -, -, -, hclear⟩ := hm
  exact haway (by rcases hclear h with h | h <;> simp [h])

theorem Works.keeps {s t : State} (h : Works s t) : Keeps s t where
  straps := h.ring.straps
  pending := h.pending
  params hp := by rw [len_of_straps h.ring.straps, h.params]; exact hp
  law := h.ring.law
  marks := h.ring.marks
  mode hm := by
    obtain ⟨haway, hfit, hheld, hentry, hclear⟩ := hm
    refine ⟨?_, ?_, ?_, ?_, ?_⟩
    · rwa [h.mode, h.session]
    · rw [h.session]
      rcases h.play with heq | ⟨hcan, hp⟩
      · rwa [heq]
      · rcases hcan with hs | hs
        · rwa [hs]
        · cases hx : s.session.state <;> rw [hx] at hfit <;> simp_all [playFits]
    · rwa [h.session]
    · rwa [h.entry, h.mode, h.session]
    · rwa [h.ring.clear, h.mode]
  full hr hm hf := by
    obtain ⟨hfull, hempty⟩ := hf
    refine ⟨fun ha => h.ring.full hr (hfull (h.mode ▸ ha)), fun hc => ?_⟩
    rw [h.ring.clear] at hc
    obtain ⟨hp, he, -⟩ := h.ring.still (not_live hm (.inl (clear_noDisc hm hc)))
    rw [hp, he]
    exact hempty hc
  disc hr hm hd := by
    obtain ⟨htable, hheld, haway⟩ := hd
    refine ⟨?_, ?_, ?_⟩
    · rwa [h.session]
    · rw [h.session, t_of_session h.session]
      exact fun hs => ⟨h.ring.bound hr (hheld hs).1, h.ring.owner (hheld hs).2⟩
    · rw [h.session]
      intro hs
      obtain ⟨-, he, ho⟩ := h.ring.still (not_live hm hs)
      rw [he, ho]
      exact haway hs

/-- A change beside the ring: the laws of the window stand with the mode, those of the disc with the session. -/
theorem Keeps.of_ring {s t : State} (ring : t.ring = s.ring) (params : t.params = s.params)
    (pending : t.pending = s.pending) (mode : s.ModeLaw → t.ModeLaw)
    (awake : t.power.mode ≠ .sleeping → s.power.mode ≠ .sleeping)
    (table : ∀ x ∈ t.session.table, x ∈ s.session.table)
    (held : t.session.state = .present ∨ t.session.state = .leaving →
      (s.session.state = .present ∨ s.session.state = .leaving) ∧ t.session.directory = s.session.directory ∧
      t.session.fingerprint = s.session.fingerprint)
    (away : t.session.state = .noDisc ∨ t.session.state = .identifying →
      s.session.state = .noDisc ∨ s.session.state = .identifying) : Keeps s t where
  straps := by rw [ring]
  pending := pending
  params hp := by rwa [ring, params]
  law hr := by rwa [ring]
  marks _ hm := by rwa [ring]
  mode := mode
  full _ _ hf := by
    obtain ⟨hfull, hempty⟩ := hf
    refine ⟨fun ha => ?_, ?_⟩
    · show t.ring.Full
      rw [ring]
      exact hfull (awake ha)
    · rwa [ring]
  disc _ _ hd := by
    obtain ⟨htable, hheld, haway⟩ := hd
    refine ⟨fun x hx => htable x (table x hx), fun hs => ?_, fun hs x hx => ?_⟩
    · obtain ⟨hs', hdir, hfp⟩ := held hs
      rw [ring, hfp, State.t, hdir]
      exact hheld hs'
    · rw [ring]
      exact haway (away hs) x (table x hx)

/-- A change of the session that leaves its state, disc and table. -/
theorem Keeps.of_session {s t : State} (h : t.ring = s.ring ∧ t.params = s.params ∧ t.pending = s.pending ∧
    t.power.mode = s.power.mode ∧ t.power.entry = s.power.entry ∧ t.engine.play = s.engine.play ∧
    t.session.state = s.session.state ∧ t.session.directory = s.session.directory ∧
    t.session.fingerprint = s.session.fingerprint) (table : ∀ x ∈ t.session.table, x ∈ s.session.table) :
    Keeps s t := by
  obtain ⟨ring, params, pending, mode, entry, play, state, directory, fingerprint⟩ := h
  refine .of_ring ring params pending ?_ (by rw [mode]; exact id) table ?_ (by rw [state]; exact id)
  · simp only [State.ModeLaw, ring, mode, entry, play, state, directory, fingerprint]
    exact id
  · rw [state]
    exact fun hs => ⟨hs, directory, fingerprint⟩

/-! ### Resets and ring clears -/

/-- The defaults lie in their ranges for each L (R154). -/
theorem paramLaw_defaults (straps : BitVec 2) : ParamLaw (ringLength straps) paramDefaults := by
  revert straps; decide

/-- A part as after a reset, with no ring clear running, meets every law. -/
theorem keeps_reset {s t : State} (ring : t.ring = { ringReset with straps := s.ring.straps })
    (state : t.session.state = .noDisc) (table : ∀ x ∈ t.session.table, x ∈ s.session.table)
    (mode : t.power.mode = .unconfigured) (entry : t.power.entry = none) (play : t.engine.play = .halted)
    (params : t.params = paramDefaults) (pending : t.pending = s.pending) : Keeps s t where
  straps := by rw [ring]
  pending := pending
  params _ := by rw [ring, params]; exact paramLaw_defaults _
  law _ := by
    rw [ring]
    exact ⟨rfl, le_refl _, Nat.zero_le _, fun _ hx => nomatch hx⟩
  marks _ _ := by rw [ring]; exact fun _ hx => nomatch hx
  mode _ := by simp [State.ModeLaw, state, mode, entry, play, ring, ringReset, playFits]
  full _ _ _ := by
    refine ⟨fun _ a _ hlt => ?_, fun _ => by rw [ring]; rfl⟩
    rw [ring] at hlt
    exact absurd hlt (Nat.not_lt_zero a)
  disc _ _ hd := by
    refine ⟨fun x hx => hd.1 x (table x hx), fun hs => ?_, fun _ x _ ho => ?_⟩
    · rcases hs with hs | hs <;> rw [state] at hs <;> cases hs
    · rw [ring] at ho; cases ho

/-- A ring clear has just begun (R17). -/
structure ClearBegun (t : State) : Prop where
  clear : t.ring.clear = some ⟨t.now⟩
  slots : t.ring.slots = []
  window : t.ring.e = t.ring.p
  owner : t.ring.owner = none

/-- What a step keeps that starts a ring clear: the laws of the ring are then those of an empty one. -/
structure ClearStarts (s t : State) : Prop where
  begun : ClearBegun t
  pending : t.pending = s.pending
  params : ParamLaw s.ring.len s.params → ParamLaw t.ring.len t.params
  mode : s.ModeLaw → t.ModeLaw
  table : ∀ x ∈ t.session.table, x ∈ s.session.table

theorem clampTo_range {lo hi : Nat} (h : lo ≤ hi) (v : Nat) : lo ≤ clampTo lo hi v ∧ clampTo lo hi v ≤ hi := by
  unfold clampTo; omega

theorem len_lower (r : Ring) : 512 ≤ r.len := by
  unfold Ring.len ringLength; (repeat' split) <;> omega

/-- The parameters brought into range for a new L meet their ranges again (R2). -/
theorem paramLaw_fitParams {len : Nat} {s : State} (h : ParamLaw len s.params) :
    ParamLaw s.ring.len (fitParams s).params := by
  have hlen := len_lower s.ring
  have hdepth := clampTo_range (show 1 ≤ s.ring.len / 2 by omega) s.params.startDepth
  have hmargin := clampTo_range (show 16 ≤ s.ring.len / 2 by omega) s.params.releaseMargin
  obtain ⟨-, hlmax, hrd, hru, hrp, hhole, hrepair, hseam, hlead, hretry, htimeout, hdown, hup, hceil, -, hrest⟩ := h
  exact ⟨hdepth, hlmax, hrd, hru, hrp, hhole, hrepair, hseam, hlead, hretry, htimeout, hdown, hup, hceil, hmargin,
    hrest⟩

@[simp] theorem startClear_play (msz : BitVec 2) (s : State) :
    (startClear msz s).engine.play = s.engine.play := rfl

/-- The ring clear that ends a step which has kept the laws so far, outside RUNNING. -/
theorem clearStarts_startClear {s u : State} (msz : BitVec 2) (h : Keeps s u)
    (table : ∀ x ∈ u.session.table, x ∈ s.session.table)
    (away : u.power.mode = .unconfigured ∨ u.power.mode = .sleeping) : ClearStarts s (startClear msz u) where
  begun := ⟨rfl, rfl, rfl, rfl⟩
  pending := by simpa using h.pending
  params hp := by
    have hfit := paramLaw_fitParams (s := { u with ring := (startClear msz u).ring }) (h.params hp)
    exact hfit
  mode hm := by
    obtain ⟨hnoDisc, hfit, hheld, hentry, -⟩ := h.mode hm
    refine ⟨by simpa using hnoDisc, by simpa using hfit, by simpa using hheld, by simpa using hentry, fun _ => ?_⟩
    simpa using away
  table := by simpa using table

/-! ### The leave procedure -/

/-- In RUNNING with no ring clear, a directory and its fingerprint held: where a leave begins, whatever it has done to the
session state and the play state. -/
def State.Open (s : State) : Prop :=
  s.power.mode = .running ∧ s.ring.clear = none ∧ s.session.directory.isSome = true ∧
    s.session.fingerprint.isSome = true

/-- The disc in play owns the ring, with E within T (R8, R16), beside a table in order (R143). -/
def State.DiscHeld (s : State) : Prop :=
  (∀ x ∈ s.session.table, x.address ≤ x.t) ∧ s.ring.e ≤ s.t ∧ s.ring.owner = s.session.fingerprint

/-- What a part of the leave procedure that leads from `s` to the law-abiding `t` makes of the laws. -/
structure Leaves (s t : State) : Prop where
  straps : t.ring.straps = s.ring.straps
  pending : t.pending = s.pending
  params : ParamLaw s.ring.len s.params → ParamLaw t.ring.len t.params
  law : s.ring.Law → t.ring.Law
  marks : s.ring.Law → s.ring.MarkLaw → t.ring.MarkLaw
  mode : s.Open → t.ModeLaw
  full : s.Open → s.ring.Law → s.ring.Full → t.FullLaw
  disc : s.Open → s.ring.Law → s.DiscHeld → t.DiscLaw

theorem open_of_modeLaw {s : State} (hm : s.ModeLaw) (h : s.session.state = .present ∨ s.session.state = .leaving) :
    s.Open := by
  obtain ⟨haway, -, hheld, -, hclear⟩ := hm
  have hrun : s.power.mode = .running := by
    by_contra hn
    rcases h with h | h <;> rw [haway hn] at h <;> cases h
  refine ⟨hrun, ?_, hheld h⟩
  cases hc : s.ring.clear with
  | none => rfl
  | some c => rcases hclear (by rw [hc]; rfl) with hx | hx <;> rw [hrun] at hx <;> cases hx

/-- Where the session is PRESENT or LEAVING the leave procedure keeps the laws. -/
theorem Leaves.keeps {s t : State} (h : Leaves s t)
    (hs : s.ModeLaw → s.session.state = .present ∨ s.session.state = .leaving) : Keeps s t where
  straps := h.straps
  pending := h.pending
  params := h.params
  law := h.law
  marks := h.marks
  mode hm := h.mode (open_of_modeLaw hm (hs hm))
  full hr hm hf := by
    have hopen := open_of_modeLaw hm (hs hm)
    exact h.full hopen hr (hf.1 (by simp [hopen.1]))
  disc hr hm hd := h.disc (open_of_modeLaw hm (hs hm)) hr ⟨hd.1, hd.2.1 (hs hm)⟩

theorem Leaves.keep {s t u : State} (h : Leaves s t) (h' : Keeps t u) : Leaves s u where
  straps := h'.straps.trans h.straps
  pending := h'.pending.trans h.pending
  params hp := h'.params (h.params hp)
  law hr := h'.law (h.law hr)
  marks hr hm := h'.marks (h.law hr) (h.marks hr hm)
  mode ho := h'.mode (h.mode ho)
  full ho hr hf := h'.full (h.law hr) (h.mode ho) (h.full ho hr hf)
  disc ho hr hd := h'.disc (h.law hr) (h.mode ho) (h.disc ho hr hd)

/-- The leave may begin in another state that agrees on the ring, the mode and the disc. -/
theorem Leaves.of_same {s u t : State} (h : Leaves u t) (hsame : u.ring = s.ring ∧ u.power.mode = s.power.mode ∧
    u.params = s.params ∧ u.pending = s.pending ∧ u.session.directory = s.session.directory ∧
    u.session.fingerprint = s.session.fingerprint ∧ u.session.table = s.session.table) : Leaves s t := by
  obtain ⟨ring, mode, params, pending, directory, fingerprint, table⟩ := hsame
  have hopen : u.Open ↔ s.Open := by simp only [State.Open, ring, mode, directory, fingerprint]
  have hheld : u.DiscHeld ↔ s.DiscHeld := by simp only [State.DiscHeld, State.t, ring, directory, fingerprint, table]
  obtain ⟨hstraps, hpending, hparams, hlaw, hmarks, hmode, hfull, hdisc⟩ := h
  rw [hopen] at hmode hfull hdisc
  rw [hheld] at hdisc
  rw [ring] at hstraps hparams hlaw hmarks hfull hdisc
  rw [params] at hparams
  exact ⟨hstraps, hpending.trans pending, hparams, hlaw, hmarks, hmode, hfull, hdisc⟩

theorem mem_storeEntry {e x : ResumeEntry} {table : List ResumeEntry} (h : x ∈ storeEntry e table) :
    x = e ∨ x ∈ table ∧ x.fingerprint ≠ e.fingerprint := by
  have hmem := List.mem_of_mem_take h
  simpa using hmem

/-- With a directory and its fingerprint held the entry stored is theirs, at P. -/
theorem resumeEntryNow_open {s : State} (h : s.Open) : ∃ e, resumeEntryNow s = some e ∧
    s.session.fingerprint = some e.fingerprint ∧ e.t = s.t ∧ e.address = s.ring.p := by
  obtain ⟨-, -, hdir, hfp⟩ := h
  obtain ⟨d, hd⟩ := Option.isSome_iff_exists.mp hdir
  obtain ⟨fp, hf⟩ := Option.isSome_iff_exists.mp hfp
  exact ⟨⟨fp, d.starts.length, d.t, s.ring.p, s.engine.f, s.engine.intent.stored, learnedCap s⟩,
    by simp only [resumeEntryNow, hd, hf], hf, by simp only [State.t, hd], rfl⟩

@[simp] theorem halt_play (s : State) : (halt s).engine.play = .halted := by simp [halt]

/-- The power controller and the ring as an entry completes (R167, R19). -/
theorem completeEntry_cases (target : LowMode) (s : State) :
    (completeEntry target s).power.entry = none ∧
    ((completeEntry target s).power.mode = .held ∧ (completeEntry target s).ring = s.ring ∨
      (completeEntry target s).power.mode = .sleeping ∧ (completeEntry target s).ring = s.ring.loseSlots) := by
  cases target
  · exact ⟨rfl, .inl ⟨rfl, rfl⟩⟩
  · exact ⟨rfl, .inr ⟨rfl, rfl⟩⟩

/-- How a leave can end: in the mode it found, or in a low-power mode with NO_DISC (R143 step 4, R166). -/
theorem leaveEnd_cases (s : State) :
    (leaveEnd s).engine.play = .halted ∧ (leaveEnd s).power.entry = none ∧
    (leaveEnd s).session.table = (storeResume s).session.table ∧
    ((leaveEnd s).ring = s.ring ∧ (leaveEnd s).power.mode = s.power.mode ∧
        ((leaveEnd s).session.state = .noDisc ∨ (leaveEnd s).session.state = .identifying) ∨
      (leaveEnd s).session.state = .noDisc ∧
        ((leaveEnd s).power.mode = .held ∧ (leaveEnd s).ring = s.ring ∨
          (leaveEnd s).power.mode = .sleeping ∧ (leaveEnd s).ring = s.ring.loseSlots)) := by
  unfold leaveEnd
  generalize hu : raiseD .sessionChanged (tellEnded (resumeEntryNow s) (halt (storeResume s))) = u
  have hplay : u.engine.play = .halted := by simp [← hu]
  have hring : u.ring = s.ring := by simp [← hu]
  have hpower : u.power = s.power := by simp [← hu]
  have htable : u.session.table = (storeResume s).session.table := by simp [← hu]
  unfold endSession
  dsimp only
  cases hentry : u.power.entry with
  | none =>
    dsimp only
    split
    · exact ⟨hplay, hentry, htable, .inl ⟨hring, by rw [← hpower]; rfl, .inr rfl⟩⟩
    · exact ⟨hplay, hentry, htable, .inl ⟨hring, by rw [← hpower], .inl rfl⟩⟩
  | some e =>
    dsimp only
    obtain ⟨hnone, hcases⟩ := completeEntry_cases e.target
      { u with session := { u.session with state := .noDisc, pendingLoad := false } }
    rw [show Ring.loseSlots _ = s.ring.loseSlots from congrArg _ hring] at hcases
    exact ⟨by simpa using hplay, hnone, by simpa using htable, .inr ⟨by simp, by simpa [hring] using hcases⟩⟩

theorem loseSlots_law {r : Ring} (h : r.Law) : r.loseSlots.Law :=
  ⟨rfl, h.2.1, h.2.2.1, fun _ hx => nomatch hx⟩

theorem leaves_leaveEnd (s : State) : Leaves s (leaveEnd s) := by
  obtain ⟨hplay, hentry, htable, hcases⟩ := leaveEnd_cases s
  have hring : (leaveEnd s).ring = s.ring ∨ (leaveEnd s).power.mode = .sleeping ∧ (leaveEnd s).ring = s.ring.loseSlots := by
    tauto
  have haway : (leaveEnd s).session.state = .noDisc ∨ (leaveEnd s).session.state = .identifying := by tauto
  have hwindow : (leaveEnd s).ring.straps = s.ring.straps ∧ (leaveEnd s).ring.clear = s.ring.clear ∧
      (leaveEnd s).ring.e = s.ring.e ∧ (leaveEnd s).ring.owner = s.ring.owner := by
    rcases hring with h | ⟨-, h⟩ <;> simp [h]
  obtain ⟨hstraps, hclear, he, howner⟩ := hwindow
  have hnot : ¬ ((leaveEnd s).session.state = .present ∨ (leaveEnd s).session.state = .leaving) := by
    rcases haway with h | h <;> simp [h]
  refine ⟨hstraps, by simp, fun hp => ?_, fun hr => ?_, fun _ hm => ?_, fun ho => ?_, fun ho _ hf => ?_, fun ho hr hd => ?_⟩
  · rw [len_of_straps hstraps]; simpa using hp
  · rcases hring with h | ⟨-, h⟩ <;> rw [h]
    · exact hr
    · exact loseSlots_law hr
  · rcases hring with h | ⟨-, h⟩ <;> rw [h]
    · exact hm
    · exact fun _ hx => nomatch hx
  · obtain ⟨hrun, hnone, -⟩ := ho
    refine ⟨fun hmode => ?_, ?_, fun h => absurd h hnot, by simp [hentry], by simp [hclear, hnone]⟩
    · rcases hcases with ⟨-, hsame, -⟩ | ⟨hno, -⟩
      · exact absurd (hsame.trans hrun) hmode
      · exact hno
    · rw [hplay]; rcases haway with h | h <;> rw [h] <;> rfl
  · refine ⟨fun hmode => ?_, by simp [hclear, ho.2.1]⟩
    rcases hring with h | ⟨hsleep, -⟩
    · show (leaveEnd s).ring.Full
      rw [h]; exact hf
    · exact absurd hsleep hmode
  · obtain ⟨hold, hbound, hown⟩ := hd
    obtain ⟨e, hnow, hfp, ht, ha⟩ := resumeEntryNow_open ho
    have hstored : ∀ x ∈ (leaveEnd s).session.table, x = e ∨ x ∈ s.session.table ∧ x.fingerprint ≠ e.fingerprint := by
      intro x hx
      rw [htable, storeResume, hnow] at hx
      exact mem_storeEntry hx
    refine ⟨fun x hx => ?_, fun h => absurd h hnot, fun _ x hx hox => ?_⟩
    · rcases hstored x hx with rfl | ⟨hin, -⟩
      · rw [ht, ha]; exact hr.2.1.trans hbound
      · exact hold x hin
    · rcases hstored x hx with rfl | ⟨-, hne⟩
      · rw [he, ht]; exact hbound
      · rw [howner, hown, hfp] at hox
        exact absurd (Option.some.inj hox).symm hne

/-- A leave that waits for its fade: RAMP_DOWN to LEAVE in LEAVING (R111, R142). -/
theorem leaves_ramp {s t : State} (hs : s.session.state = .leaving) (play : t.engine.play = .rampDown .leave)
    (h : t.ring = s.ring ∧ t.session = s.session ∧ t.power = s.power ∧ t.params = s.params ∧
      t.pending = s.pending) : Leaves s t := by
  obtain ⟨ring, session, power, params, pending⟩ := h
  exact {
    straps := by rw [ring]
    pending := pending
    params hp := by rwa [ring, params]
    law hr := by rwa [ring]
    marks _ hm := by rwa [ring]
    mode ho := by
      obtain ⟨hrun, hnone, hheld⟩ := ho
      simp [State.ModeLaw, ring, session, power, play, hs, hrun, hnone, hheld, playFits]
    full ho _ hf := by
      refine ⟨fun _ => ?_, by simp [ring, ho.2.1]⟩
      show t.ring.Full
      rwa [ring]
    disc _ _ hd := by
      obtain ⟨hold, hbound⟩ := hd
      simp only [State.DiscLaw, ring, session, t_of_session session, hs]
      exact ⟨hold, fun _ => hbound, by simp⟩ }

theorem leaves_leavePlay {s : State} (hs : s.session.state = .leaving) : Leaves s (leavePlay s) := by
  unfold leavePlay
  split
  · exact leaves_ramp hs (by simp) (by simp)
  · exact leaves_ramp hs (by simp) (by simp)
  · exact leaves_leaveEnd s

theorem leaves_beginLeave (s : State) : Leaves s (beginLeave s) := by
  unfold beginLeave
  exact (leaves_leavePlay (by simp [setSession])).of_same (by simp [setSession])

end Sys2Proof.Machine
end

section
/-! PROOF. The composite operations keep the laws: loads and releases, the start of a session, a frame of play, the stream
intake, the order of CONFIGURE's parameters, wakes and entries. -/

namespace Sys2Proof.Machine

/-- The end of an event works within a session (log 15). -/
theorem works_finish (b s : State) : Works s (finish b s) := .of_same (by simp)

/-! ### Loads, releases and wakes -/

/-- A load in RUNNING (R134). -/
theorem keeps_loadDisc {s : State} (hrun : s.power.mode = .running) : Keeps s (loadDisc s) := by
  unfold loadDisc
  split <;> rename_i hs
  · refine .of_ring (by simp) (by simp) (by simp) ?_ (by simp) (by simp [startIdentify]) ?_ (by simp [hs])
    · simp_all [State.ModeLaw, startIdentify, playFits]
    · simp [startIdentify]
  · refine .of_ring (by simp) (by simp) (by simp) ?_ (by simp) (by simp [startIdentify]) ?_ (by simp [hs])
    · simp_all [State.ModeLaw, startIdentify, playFits]
    · simp [startIdentify]
  · exact .refl s
  · exact .of_session (by simp) (by simp)

theorem keeps_lookAtTray {s : State} (hrun : s.power.mode = .running) : Keeps s (lookAtTray s) := by
  unfold lookAtTray
  split
  · exact keeps_loadDisc hrun
  · exact .refl s

theorem keeps_beginLeave {s : State} (hs : s.session.state = .present) : Keeps s (beginLeave s) :=
  (leaves_beginLeave s).keeps fun _ => .inl hs

theorem keeps_releaseDisc (s : State) : Keeps s (releaseDisc s) := by
  unfold releaseDisc
  split <;> rename_i hs
  · exact .refl s
  · refine .of_ring rfl rfl rfl ?_ id (fun _ => id) ?_ (by simp [hs])
    · simp_all [State.ModeLaw, playFits]
    · simp
  · exact keeps_beginLeave hs
  · exact .of_session (by simp) (by simp)

/-- A wake source leaves the mode and an entry as they are. -/
@[simp] theorem beginWake_mode (source : WakeSource) (s : State) :
    (beginWake source s).power.mode = s.power.mode ∧ (beginWake source s).power.entry = s.power.entry := by
  unfold beginWake; split <;> exact ⟨rfl, rfl⟩

theorem works_beginWake (source : WakeSource) (s : State) : Works s (beginWake source s) := .of_same (by simp)

/-- The mode becomes RUNNING from one that keeps the slots, with no ring clear (R153, R170). -/
theorem keeps_running {s t : State} (clear : s.ring.clear = none) (mode : s.power.mode ≠ .sleeping)
    (h : t.ring = s.ring ∧ t.session = s.session ∧ t.power.mode = .running ∧ t.power.entry = s.power.entry ∧
      t.engine = s.engine ∧ t.params = s.params ∧ t.pending = s.pending) : Keeps s t := by
  obtain ⟨ring, session, running, entry, engine, params, pending⟩ := h
  refine .of_ring ring params pending ?_ (fun _ => mode) (by simp [session]) (by simp [session]) (by simp [session])
  simp only [State.ModeLaw, ring, session, running, entry, engine, clear]
  rintro ⟨-, hfit, hheld, hentry, -⟩
  exact ⟨by simp, hfit, hheld, fun h => ⟨trivial, (hentry h).2⟩, by simp⟩

theorem keeps_wakeEnd (source : WakeSource) {s : State} (clear : s.ring.clear = none) (mode : s.power.mode = .held) :
    Keeps s (wakeEnd source s) := by
  unfold wakeEnd
  exact (keeps_running clear (by simp [mode]) (by simp)).trans (keeps_lookAtTray (by simp))

/-- The end of a ring clear that no wake waits for (R17). -/
theorem keeps_clearEnded (c : RingClear) (s : State) : Keeps s (clearEnded c s) where
  straps := rfl
  pending := rfl
  params := id
  law := id
  marks _ := id
  mode := fun ⟨haway, hfit, hheld, hentry, _⟩ => ⟨haway, hfit, hheld, hentry, by simp [clearEnded]⟩
  full _ _ := fun ⟨hfull, _⟩ => ⟨hfull, by simp [clearEnded]⟩
  disc _ _ := id

/-- The end of the ring clear after a wake from SLEEPING: the window is empty, and the mode becomes RUNNING (R170). -/
theorem keeps_clearEnded_wakeEnd {c : RingClear} (source : WakeSource) {s : State} (hc : s.ring.clear = some c) :
    Keeps s (wakeEnd source (clearEnded c s)) := by
  refine Keeps.trans ?_ (keeps_lookAtTray (by simp))
  have hnone : (clearEnded c s).ring.clear = none := rfl
  refine ⟨rfl, rfl, id, id, fun _ => id, fun hm => ?_, fun _ _ hf => ?_, fun _ _ => id⟩
  · obtain ⟨-, hfit, hheld, hentry, -⟩ := hm
    exact ⟨by simp, hfit, hheld, fun h => ⟨rfl, (hentry h).2⟩, by simp [hnone]⟩
  · have hempty : s.ring.e = s.ring.p := hf.2 (by rw [hc]; rfl)
    refine ⟨fun _ a hlo hhi => ?_, by simp [hnone]⟩
    have hlo' : s.ring.p ≤ a := hlo
    have hhi' : a < s.ring.e := hhi
    omega

/-! ### Entries to the low-power modes -/

/-- An entry with no disc to leave completes at once (R166). -/
theorem keeps_completeEntry (target : LowMode) {s u : State}
    (hs : s.session.state = .noDisc ∨ s.session.state = .identifying) (state : u.session.state = .noDisc)
    (hrun : s.power.mode = .running) (h : u.ring = s.ring ∧ u.session.table = s.session.table ∧
      u.engine.play = s.engine.play ∧ u.params = s.params ∧ u.pending = s.pending) :
    Keeps s (completeEntry target u) := by
  obtain ⟨ring, table, play, params, pending⟩ := h
  obtain ⟨hentry, hcases⟩ := completeEntry_cases target u
  have hwindow : (completeEntry target u).ring.straps = s.ring.straps ∧
      (completeEntry target u).ring.clear = s.ring.clear ∧ (completeEntry target u).ring.e = s.ring.e ∧
      (completeEntry target u).ring.owner = s.ring.owner := by
    rcases hcases with ⟨-, h⟩ | ⟨-, h⟩ <;> simp [h, ring]
  obtain ⟨hstraps, hclear, he, howner⟩ := hwindow
  have hnone : s.ModeLaw → s.ring.clear = none := fun hm => by
    by_contra hc
    rcases hm.2.2.2.2 (Option.isSome_iff_ne_none.mpr hc) with h | h <;> rw [hrun] at h <;> cases h
  refine ⟨hstraps, by simpa using pending, fun hp => ?_, fun hr => ?_, fun _ hm => ?_, fun hm => ?_, fun _ hm hf => ?_,
    fun _ _ hd => ?_⟩
  · rw [len_of_straps hstraps]; simpa [params] using hp
  · rcases hcases with ⟨-, h⟩ | ⟨-, h⟩ <;> rw [h, ring]
    · exact hr
    · exact loseSlots_law hr
  · rcases hcases with ⟨-, h⟩ | ⟨-, h⟩ <;> rw [h, ring]
    · exact hm
    · exact fun _ hx => nomatch hx
  · have hfit : playFits .noDisc u.engine.play = true := by
      rw [play]; rcases hs with h | h <;> simpa [h, playFits] using hm.2.1
    simp [State.ModeLaw, state, hfit, hentry, hclear, hnone hm]
  · refine ⟨fun hmode => ?_, by simp [hclear, hnone hm]⟩
    rcases hcases with ⟨-, h⟩ | ⟨h, -⟩
    · show (completeEntry target u).ring.Full
      rw [h, ring]; exact hf.1 (by simp [hrun])
    · exact absurd h hmode
  · obtain ⟨hold, -, haway⟩ := hd
    simp only [State.DiscLaw, completeEntry_frame, table, state, he, howner]
    exact ⟨hold, by simp, fun _ => haway hs⟩

/-- HOLD and SLEEP in RUNNING (R166). -/
theorem keeps_enterLow (target : LowMode) {s : State} (hrun : s.power.mode = .running) :
    Keeps s (enterLow target s) := by
  unfold enterLow
  extract_lets r w u
  refine Keeps.trans ?_ (works_finish s _).keeps
  have hring : u.ring = s.ring := rfl
  have hsession : u.session = s.session := rfl
  split <;> rename_i hs
  · exact ((leaves_beginLeave u).of_same ⟨hring, rfl, rfl, rfl, rfl, rfl, rfl⟩).keeps fun _ => .inl hs
  · refine .of_ring hring rfl rfl ?_ id (fun _ => id) (fun h => ⟨h, rfl, rfl⟩) id
    rintro ⟨-, hfit, hheld, -, hclear⟩
    exact ⟨fun h => absurd hrun h, hfit, hheld, fun _ => ⟨hrun, hs⟩, hclear⟩
  · exact keeps_completeEntry target (.inr hs) rfl hrun ⟨hring, rfl, rfl, rfl, rfl⟩
  · exact keeps_completeEntry target (.inl hs) hs hrun ⟨hring, rfl, rfl, rfl, rfl⟩

/-! ### The start of a session -/

/-- Where a start has come once the ring is `r`, the one it found or one that it has flushed: the rest works from there to
the end `t`, in a play state of PRESENT (R139 to R141). -/
structure Begins (r : Ring) (s t : State) : Prop where
  fits : playFits .present t.engine.play = true
  works : ∃ u, Works u t ∧ u.ring = r ∧ u.session = s.session ∧ u.power = s.power ∧ u.params = s.params ∧
    u.pending = s.pending

theorem works_startWarmPlay {s : State} (h : s.CanPlay) : Works s (startWarmPlay s) := by
  have hint : Works s (setIntent .play s) := .of_same (by simp)
  unfold startWarmPlay
  dsimp only
  split
  · exact hint.trans (works_endOfDisc h)
  split
  · exact (hint.trans (works_openAndPlay h)).trans (.of_same (by simp))
  · exact (hint.trans (.of_same (by simp))).trans (works_enterStarved (h.imp (by simp) (by simp)))

theorem startWarmPlay_fits (s : State) : playFits .present (startWarmPlay s).engine.play = true := by
  unfold startWarmPlay
  dsimp only
  split
  · simp [playFits]
  split
  · simp [openAndPlay, playFits]
  · exact enterStarved_fits _

theorem works_startPaused {s : State} (h : s.CanPlay) : Works s (startPaused s) :=
  .of_play h (by simp [startPaused, playFits]) (by simp)

theorem startPaused_fits (s : State) : playFits .present (startPaused s).engine.play = true := by
  simp [startPaused, playFits]

/-- A start on a match keeps the ring that this disc owns, with P at the stored address, and flushes any other (R140). -/
theorem begins_startMatched (e : ResumeEntry) {s : State} (hs : s.session.state = .present) :
    s.ring.owner = s.session.fingerprint ∧ Begins s.ring s (startMatched e s) ∨
      Begins (s.ring.flush e.address s.session.fingerprint) s (startMatched e s) := by
  unfold startMatched
  dsimp only
  split
  · rename_i hwarm
    generalize hu : judgeProgram (setFrame e.frame (startConceal s)) = u
    have hsession : u.session = s.session := by simp [← hu]
    have hcan : u.CanPlay := .inl (by rw [hsession, hs])
    refine .inl ⟨hwarm.1, ?_, u, ?_, by simp [← hu], hsession, by simp [← hu], by simp [← hu], by simp [← hu]⟩
    · split
      · exact startWarmPlay_fits u
      · exact startPaused_fits u
    · split
      · exact works_startWarmPlay hcan
      · exact works_startPaused hcan
  · generalize hu : setFrame e.frame (startConceal (flush e.address s)) = u
    have hsession : u.session = s.session := by simp [← hu]
    have hcan : u.CanPlay := .inl (by rw [hsession, hs])
    refine .inr ⟨?_, u, ?_, by simp [← hu], hsession, by simp [← hu], by simp [← hu], by simp [← hu]⟩
    · split
      · exact enterPriming_fits _
      · exact startPaused_fits u
    · split
      · exact Works.trans (.of_same (by simp)) (works_enterPriming (s := setIntent .play u) hcan)
      · exact works_startPaused hcan

/-- A start without a match flushes to the first program (R141). -/
theorem begins_startUnmatched (first : Nat) {s : State} (hs : s.session.state = .present) :
    Begins (s.ring.flush first s.session.fingerprint) s (startUnmatched first s) := by
  unfold startUnmatched
  generalize hu : (s |> flush first |> startConceal |> setFrame 0) = u
  have hsession : u.session = s.session := by simp [← hu]
  have hcan : u.CanPlay := .inl (by rw [hsession, hs])
  dsimp only
  refine ⟨?_, u, ?_, by simp [← hu], hsession, by simp [← hu], by simp [← hu], by simp [← hu]⟩
  · split
    · exact enterPriming_fits _
    · simp [playFits]
  · split
    · exact Works.trans (.of_same (by simp)) (works_enterPriming (s := setIntent .play u) hcan)
    · exact Works.trans (.of_same (by simp)) (works_enterStopped (s := setIntent .stop u) hcan)

/-- A start goes on from a state that agrees on what it takes over, and to one that works on from its end. -/
theorem Begins.of_same {r : Ring} {s v t t' : State} (h : Begins r v t) (h' : Works t t')
    (play : t'.engine.play = t.engine.play) (hsame : v.session = s.session ∧ v.power = s.power ∧
      v.params = s.params ∧ v.pending = s.pending) : Begins r s t' := by
  obtain ⟨session, power, params, pending⟩ := hsame
  obtain ⟨hfits, u, hworks, hr, hs, hw, hp, hq⟩ := h
  exact ⟨play ▸ hfits, u, hworks.trans h', hr, hs.trans session, hw.trans power, hp.trans params, hq.trans pending⟩

/-- The session unit as PRESENT is entered with a directory (R139). -/
def presentWith (d : Directory) (fp : BitVec 32) (s : State) : State :=
  { s with session := { s.session with
    state := .present, directory := some d, fingerprint := some fp, identify := none } }

theorem matchEntry_mem {fp : BitVec 32} {n t rank : Nat} {table : List ResumeEntry} {e : ResumeEntry}
    (h : matchEntry fp n t table = some (e, rank)) : e ∈ table ∧ e.fingerprint = fp ∧ e.t = t := by
  have hmem := List.mem_of_find?_eq_some h
  have hmatch := List.find?_some h
  simp only [Bool.and_eq_true, beq_iff_eq] at hmatch
  obtain ⟨⟨hfp, -⟩, ht⟩ := hmatch
  refine ⟨?_, hfp, ht⟩
  obtain ⟨i, hi, heq⟩ := List.mem_iff_getElem.mp hmem
  rw [List.getElem_zipIdx] at heq
  cases heq
  exact List.getElem_mem _

/-- The start of a session on a directory, on a match or without one, before the scan and SEEK_REQUESTED (R139). -/
def startOn (d : Directory) (fp : BitVec 32) (s : State) : State :=
  let v := setFails 0 (clearCounters (presentWith d fp s))
  match matchEntry fp d.starts.length d.t s.session.table with
  | some (e, rank) =>
    v |> ratesToNone e.cap |> raiseS (.discMatched rank e.address e.frame e.intent) |> startMatched e
  | none => v |> ratesToNone none |> raiseS (.discIdentified fp d.rate d.starts.length d.t) |> startUnmatched (d.startOf 1)

theorem enterPresent_eq (d : Directory) (fp : BitVec 32) (s : State) :
    enterPresent d fp s = (startOn d fp s |> dueScan |> raiseD (.seekRequested (startOn d fp s).ring.e)) := rfl

/-- The ring with which PRESENT is entered on a directory: that of the disc itself, which a stored entry of it names, or one
flushed for it to a stored address or to the first program (R138 to R141). -/
theorem begins_enterPresent (d : Directory) (fp : BitVec 32) (s : State) :
    ∃ r, Begins r (presentWith d fp s) (enterPresent d fp s) ∧
      ((∃ e ∈ s.session.table, e.fingerprint = fp ∧ e.t = d.t ∧
          (r = s.ring ∧ s.ring.owner = some fp ∨ r = s.ring.flush e.address (some fp))) ∨
        r = s.ring.flush (d.startOf 1) (some fp)) := by
  have htold : Works (startOn d fp s) (enterPresent d fp s) := by rw [enterPresent_eq]; exact .of_same (by simp)
  have hplay : (enterPresent d fp s).engine.play = (startOn d fp s).engine.play := by simp [enterPresent_eq]
  suffices h : ∃ r, Begins r (presentWith d fp s) (startOn d fp s) ∧ _ from
    h.imp fun r hr => ⟨hr.1.of_same htold hplay ⟨rfl, rfl, rfl, rfl⟩, hr.2⟩
  have hsession : (setFails 0 (clearCounters (presentWith d fp s))).session = (presentWith d fp s).session := by simp
  unfold startOn
  dsimp only
  split
  · rename_i e rank hm
    obtain ⟨hin, hfp, ht⟩ := matchEntry_mem hm
    generalize hv : raiseS (.discMatched rank e.address e.frame e.intent)
      (ratesToNone e.cap (setFails 0 (clearCounters (presentWith d fp s)))) = v
    have hsession : v.session = (presentWith d fp s).session := by simp [← hv]
    have hring : v.ring = s.ring := by simp [← hv]; rfl
    rcases begins_startMatched e (s := v) (by rw [hsession]; rfl) with ⟨howner, hb⟩ | hb
    · rw [hring, hsession] at howner
      rw [hring] at hb
      exact ⟨_, hb.of_same (.refl _) rfl (by simp [← hv]),
        .inl ⟨e, hin, hfp, ht, .inl ⟨rfl, howner⟩⟩⟩
    · rw [hring, hsession] at hb
      exact ⟨_, hb.of_same (.refl _) rfl (by simp [← hv]),
        .inl ⟨e, hin, hfp, ht, .inr rfl⟩⟩
  · generalize hv : raiseS (.discIdentified fp d.rate d.starts.length d.t)
      (ratesToNone none (setFails 0 (clearCounters (presentWith d fp s)))) = v
    have hsession : v.session = (presentWith d fp s).session := by simp [← hv]
    have hring : v.ring = s.ring := by simp [← hv]; rfl
    have hb := begins_startUnmatched (d.startOf 1) (s := v) (by rw [hsession]; rfl)
    rw [hring, hsession] at hb
    exact ⟨_, hb.of_same (.refl _) rfl (by simp [← hv]), .inr rfl⟩

/-- Such a start from IDENTIFYING keeps the laws, when the ring it takes is within the disc's T. -/
theorem Begins.keeps {r : Ring} {d : Directory} {fp : BitVec 32} {s t : State}
    (h : Begins r (presentWith d fp s) t) (hs : s.session.state = .identifying)
    (hr : r = s.ring ∨ ∃ a, r = s.ring.flush a (some fp))
    (hd : s.DiscLaw → r.e ≤ d.t ∧ r.owner = some fp) : Keeps s t := by
  obtain ⟨hfits, u, hworks, hring, hsession, hpower, hparams, hpending⟩ := h
  have hstate : t.session.state = .present := by rw [hworks.session, hsession]; rfl
  have hkept : r.straps = s.ring.straps ∧ r.clear = s.ring.clear ∧ (s.ring.Law → r.Law) ∧
      (s.ring.MarkLaw → r.MarkLaw) ∧ (s.ring.Full → r.Full) := by
    rcases hr with rfl | ⟨a, rfl⟩
    · exact ⟨rfl, rfl, id, id, id⟩
    · have hflush : Moves True (some fp) a s.ring (s.ring.flush a (some fp)) := moves_flush trivial (.inr (le_refl a))
      exact ⟨rfl, rfl, hflush.law, fun _ x hx => absurd hx List.not_mem_nil, fun _ _ hlo hhi => absurd hhi (Nat.not_lt.mpr hlo)⟩
  obtain ⟨hstraps, hclear, hlaw, hmarks, hfull⟩ := hkept
  have hmoves := hworks.ring
  rw [hring] at hmoves
  have hmode : t.power.mode = s.power.mode := by rw [hworks.mode, hpower]; rfl
  have hstill : s.ModeLaw → s.power.mode = .running ∧ t.ring.clear = none ∧ t.power.entry = none := by
    rintro ⟨haway, -, -, hentry, hcl⟩
    have hrun : s.power.mode = .running := by
      by_contra hn
      have := haway hn
      rw [hs] at this; cases this
    refine ⟨hrun, ?_, ?_⟩
    · rw [hmoves.clear, hclear]
      by_contra hc
      rcases hcl (Option.isSome_iff_ne_none.mpr hc) with h | h <;> rw [hrun] at h <;> cases h
    · rw [hworks.entry, hpower]
      by_contra he
      have := (hentry (Option.isSome_iff_ne_none.mpr he)).2
      rw [hs] at this; cases this
  refine ⟨hmoves.straps.trans hstraps, hworks.pending.trans hpending, fun hp => ?_, fun hl => hmoves.law (hlaw hl),
    fun hl hm => hmoves.marks (hlaw hl) (hmarks hm), fun hm => ?_, fun hl hm hf => ?_, fun hl hm hdisc => ?_⟩
  · rw [len_of_straps (hmoves.straps.trans hstraps), hworks.params, hparams]; exact hp
  · obtain ⟨hrun, hnone, hentry⟩ := hstill hm
    refine ⟨fun hn => absurd (hmode.trans hrun) hn, by rw [hstate]; exact hfits, fun _ => ?_, by simp [hentry],
      by simp [hnone]⟩
    rw [hworks.session, hsession]; exact ⟨rfl, rfl⟩
  · obtain ⟨hrun, hnone, -⟩ := hstill hm
    exact ⟨fun _ => hmoves.full (hlaw hl) (hfull (hf.1 (by simp [hrun]))), by simp [hnone]⟩
  · obtain ⟨hbound, howner⟩ := hd hdisc
    have ht : u.t = d.t := by rw [State.t, hsession]; rfl
    refine ⟨?_, fun _ => ⟨?_, ?_⟩, by simp [hstate]⟩
    · rw [hworks.session, hsession]; exact hdisc.1
    · rw [t_of_session hworks.session]
      exact hmoves.bound (hlaw hl) (by rw [ht]; exact hbound)
    · rw [hworks.session]
      exact hmoves.owner (by rw [hsession]; exact howner)

/-- In an ascending list the first element is at most the last. -/
theorem headD_le_getLastD {l : List Nat} (h : ascending l = true) : l.getD 0 0 ≤ l.getLastD 0 := by
  induction l with
  | nil => exact le_refl _
  | cons a rest ih =>
    cases rest with
    | nil => exact le_refl _
    | cons b rest =>
      simp only [ascending, Bool.and_eq_true, decide_eq_true_eq] at h
      have := ih h.2
      simp only [List.getD_cons_zero, List.getLastD_cons] at this ⊢
      omega

/-- The first program of a valid directory starts within T (R137). -/
theorem validateDirectory_start {x : RawDirectory} {d : Directory} (h : validateDirectory x = .ok d) :
    d.startOf 1 ≤ d.t := by
  unfold validateDirectory at h
  iterate 5 (split at h; · cases h)
  rename_i hasc hlast
  cases h
  have := headD_le_getLastD (by simpa using hasc)
  show x.starts.getD 0 0 ≤ x.t
  omega

theorem keeps_takeDirectory (payload : List Byte) (s : State) : Keeps s (takeDirectory payload s) := by
  unfold takeDirectory
  split
  · rename_i hs
    split
    · exact (Works.of_same (by simp)).keeps
    · rename_i d hd
      obtain ⟨r, hb, hr⟩ := begins_enterPresent d (crc32 payload) s
      refine hb.keeps hs ?_ fun hdisc => ?_
      · rcases hr with ⟨e, -, -, -, ⟨rfl, -⟩ | rfl⟩ | rfl
        · exact .inl rfl
        · exact .inr ⟨_, rfl⟩
        · exact .inr ⟨_, rfl⟩
      · obtain ⟨htable, -, haway⟩ := hdisc
        rcases hr with ⟨e, hin, hfp, ht, ⟨rfl, howner⟩ | rfl⟩ | rfl
        · exact ⟨ht ▸ haway (.inr hs) e hin (hfp.symm ▸ howner), howner⟩
        · exact ⟨ht ▸ htable e hin, rfl⟩
        · exact ⟨validateDirectory_start hd, rfl⟩
  · exact .refl s

/-! ### Frames of play -/

theorem works_silentTick (s : State) : Works s (silentTick s) := by
  have hsilent : Works s (produceSilence s) := .of_same (by simp)
  unfold silentTick
  dsimp only
  split
  · exact (hsilent.trans (.of_same (by simp))).trans (works_judgeHoleWait _)
  · exact hsilent

/-- The end of a leave ramp, where the mode's law has the session LEAVING (R143). -/
theorem keeps_leaveEnd {s : State} (h : s.engine.play = .rampDown .leave) : Keeps s (leaveEnd s) :=
  (leaves_leaveEnd s).keeps fun ⟨_, hfit, _⟩ => by
    rw [h] at hfit
    cases hs : s.session.state with
    | leaving => exact .inr rfl
    | noDisc | identifying | present => rw [hs] at hfit; cases hfit

theorem keeps_rampEnd {dest : Dest} {s : State} (h : s.engine.play = .rampDown dest) : Keeps s (rampEnd dest s) := by
  cases dest
  · exact (works_setPlay (.inr (by rw [h]; rfl)) rfl).keeps
  · exact (works_enterStopped (.inr (by rw [h]; rfl))).keeps
  · exact keeps_leaveEnd h

theorem keeps_afterFrame (s : State) : Keeps s (afterFrame s) := by
  unfold afterFrame
  split
  · rename_i h
    split
    · exact keeps_rampEnd h
    · exact .refl s
  · exact .refl s

theorem keeps_boundaryEndOfDisc {s : State} (h : s.engine.play.producing = true) :
    Keeps s (boundaryEndOfDisc s) := by
  have hgain : Works s (setPlayGain 0 0 s) := .of_same (by simp)
  unfold boundaryEndOfDisc
  split
  · rename_i hp
    exact hgain.keeps.trans (keeps_leaveEnd (by simpa using hp))
  · rename_i hp
    refine (works_endOfDisc (.inr ?_)).keeps
    cases hplay : s.engine.play <;> simp_all [Play.producing, playFits]

theorem keeps_boundaryNext {s : State} (h : s.engine.play.producing = true) : Keeps s (boundaryNext s) := by
  have hgain : Works s (setPlayGain 0 0 s) := .of_same (by simp)
  have hopen : Works s (openSlot s) := .of_same (by simp)
  unfold boundaryNext
  split
  · rename_i hp
    split
    · exact keeps_rampEnd hp
    split
    · exact hopen.keeps
    · exact hgain.keeps.trans (keeps_rampEnd (by simpa using hp))
  · rename_i hp
    split
    · exact hopen.keeps
    · refine (works_enterStarved (.inr ?_)).keeps
      cases hplay : s.engine.play <;> simp_all [Play.producing, playFits]

theorem keeps_blockBoundary {s : State} (h : s.engine.play.producing = true) : Keeps s (blockBoundary s) := by
  have hlive : s.Live := .inr fun hn => by rw [hn] at h; cases h
  have hrelease : Works s (releaseSlot s) := .of_moves (by rw [releaseSlot_ring]; exact moves_release hlive _) (by simp)
  unfold blockBoundary
  dsimp only
  split
  · exact hrelease.keeps.trans (keeps_boundaryEndOfDisc (by simpa using h))
  · exact (hrelease.trans (.of_same (by simp))).keeps.trans (keeps_boundaryNext (by simpa using h))

theorem keeps_playFrame {s : State} (h : s.engine.play.producing = true) : Keeps s (playFrame s) := by
  unfold playFrame
  extract_lets u v
  have hv : Works s v := by simp only [v, u]; exact .of_same (by simp)
  have hplay : v.engine.play = s.engine.play := by simp [v, u]
  split
  · exact hv.keeps.trans (keeps_blockBoundary (by rw [hplay]; exact h))
  · exact hv.keeps.trans (keeps_afterFrame v)

/-! ### The stream intake -/

theorem works_discardEndingRun (s : State) : Works s (discardEndingRun s) := .of_same (by simp)

theorem works_seamCheck {a : Nat} (tag : Byte) (b : Block) {s : State} (h : s.Live) (hat : a < s.t) :
    Works s (seamCheck a tag b s) := by
  unfold seamCheck
  have hnew : Works s (acceptBlock ⟨.unverified, a, tag⟩ a b (rise .unverifiedRuns 1 s)) :=
    Works.trans (.of_same (by simp)) (works_acceptBlock _ b (h.imp (by simp) (by simp)) (by simpa [State.t] using hat))
  split
  · dsimp only
    split
    · exact works_acceptBlock _ b h hat
    · exact .of_same (by simp)
  · dsimp only
    split
    · exact works_acceptBlock _ b h hat
    · exact .of_same (by simp)
  · exact hnew

/-- An address that is not BEYOND lies below T (R32). -/
theorem lt_t_of_not_beyond {s : State} {a : Nat} (h : isBeyond s a = false) : a < s.t := by
  simp only [isBeyond, Bool.or_eq_false_iff, decide_eq_false_iff_not, not_le] at h
  exact h.2

theorem works_audioBegins (a : Nat) (tag : Byte) (b : Block) {s : State} (h : s.Live) :
    Works s (audioBegins a tag b s) := by
  unfold audioBegins
  split
  · exact works_discardEndingRun s
  · rename_i hwin
    exact works_seamCheck tag b h (lt_t_of_not_beyond (by simp_all))

theorem works_audioContinues (r : Run) (a : Nat) (b : Block) {s : State} (h : s.Live) :
    Works s (audioContinues r a b s) := by
  unfold audioContinues
  split
  · exact .of_same (by simp)
  · rename_i hwin
    exact works_acceptBlock r b h (lt_t_of_not_beyond (by simp_all))

theorem works_audioFrame (hd : Header) (b : Block) {s : State} (h : s.Live) : Works s (audioFrame hd b s) := by
  unfold audioFrame
  split
  · split
    · exact works_audioBegins _ _ b h
    · exact works_audioContinues _ _ b h
  · exact works_audioBegins _ _ b h
  · exact works_audioContinues _ _ b h
  · exact .of_same (by simp)
  · exact works_discardEndingRun s
  · exact .of_same (by simp)

theorem keeps_goodHeaderFrame (h : Header) (payload : List Byte) (s : State) :
    Keeps s (goodHeaderFrame h payload s) := by
  unfold goodHeaderFrame
  split
  · split
    · exact keeps_takeDirectory payload s
    · exact (works_discardEndingRun s).keeps
  split
  · exact (Works.of_same (by simp)).keeps
  · rename_i hs
    split
    · exact (Works.of_same (by simp)).keeps
    · exact (works_audioFrame h _ (.inl (by simpa using hs))).keeps

theorem works_cutFrame (ready : Bool) (byte0 : Byte) (s : State) : Works s (cutFrame ready byte0 s) := by
  unfold cutFrame
  exact .of_same (by simp)

theorem works_takeMarked (ready : Bool) (bytes : List Byte) (s : State) : Works s (takeMarked ready bytes s) := by
  obtain h | ⟨byte0, _, _, _, h⟩ := takeMarked_cases ready bytes s <;> rw [h]
  · exact .refl s
  · exact works_cutFrame ready byte0 s

theorem keeps_receiveFrame (ready : Bool) (bytes : List Byte) (s : State) : Keeps s (receiveFrame ready bytes s) := by
  unfold receiveFrame
  extract_lets u low h
  have hu : Works s u := works_takeMarked ready bytes s
  refine hu.keeps.trans ?_
  split
  · exact (Works.of_same (by simp)).keeps
  split
  · exact (Works.of_same (by simp)).keeps
  split
  · exact (Works.of_same (by simp)).keeps
  · have hrx : Works u (setRx rxHunt u) := .of_same (by simp)
    split
    · exact (hrx.trans (works_discardEndingRun _)).keeps
    · exact hrx.keeps.trans (keeps_goodHeaderFrame h _ _)

end Sys2Proof.Machine
end

section
/-! PROOF. Each command of the table keeps the laws or starts a ring clear, and the laws that every step keeps. -/

namespace Sys2Proof.Machine

/-! ### CONFIGURE -/

theorem works_applyThreshold (s : State) : Works s (applyThreshold s) := by
  unfold applyThreshold
  have hfold := works_foldl (fun s o => if o.isIssued then s else judgeArrival o s)
    (fun s o => by split; exacts [.refl s, .of_same (by simp)]) s.planner.queue s
  exact hfold.trans (.of_same (by simp))

theorem works_applyRetryLimit (old : Nat) (s : State) : Works s (applyRetryLimit old s) := by
  unfold applyRetryLimit
  dsimp only
  split
  · exact .refl s
  · refine (works_foldl _ (fun s o => ?_) _ s).trans (works_react _)
    split
    · exact .of_same (by simp)
    split
    · exact works_giveUpOrder o s
    · exact .refl s

theorem works_applyAlert (s : State) : Works s (applyAlert s) := by
  unfold applyAlert; dsimp only; split <;> exact .of_same (by simp)

theorem works_applySMask (old : Params) (s : State) : Works s (applySMask old s) := by
  unfold applySMask; split <;> exact .of_same (by simp)

theorem works_applyDMask (old : Params) (s : State) : Works s (applyDMask old s) := by
  unfold applyDMask; split <;> exact .of_same (by simp)

theorem works_applySMode (old : Params) (s : State) : Works s (applySMode old s) := by
  unfold applySMode; split <;> exact .of_same (by simp)

theorem works_applyDMode (old : Params) (s : State) : Works s (applyDMode old s) := by
  unfold applyDMode; split <;> exact .of_same (by simp)

/-- A parameter stored in its range, with an effect that works within a session. -/
theorem keeps_setParams {p : Params} {s : State} (effect : State → State) (works : ∀ u, Works u (effect u))
    (h : ParamLaw s.ring.len s.params → ParamLaw s.ring.len p) : Keeps s (effect (setParams p s)) := by
  refine Keeps.trans ?_ (works (setParams p s)).keeps
  exact ⟨rfl, rfl, h, id, fun _ => id, id, fun _ _ => id, fun _ _ => id⟩

/-- Each pair of a CONFIGURE stores a value brought into its range (R154). -/
theorem keeps_applyParam (i v : Nat) (s : State) : Keeps s (applyParam i (inRange s.ring.len i v) s) := by
  have hlen := len_lower s.ring
  unfold applyParam inRange
  dsimp only
  split
  case' h_1 => refine keeps_setParams applyStartDepth works_react ?_
  case' h_6 => refine keeps_setParams applyHoleWait works_judgeHoleWait ?_
  case' h_7 => refine keeps_setParams applyThreshold works_applyThreshold ?_
  case' h_10 => refine keeps_setParams (applyRetryLimit _) (works_applyRetryLimit _) ?_
  case' h_12 => refine keeps_setParams judgeFails (fun _ => .of_same (by simp)) ?_
  case' h_13 => refine keeps_setParams applyInterval (fun _ => by unfold applyInterval; exact .of_same (by simp)) ?_
  case' h_14 => refine keeps_setParams applyCeiling (fun _ => .of_same (by simp)) ?_
  case' h_15 => refine keeps_setParams applyMargin (fun _ => by unfold applyMargin; exact .of_same (by simp)) ?_
  case' h_17 => refine keeps_setParams applyAlert works_applyAlert ?_
  case' h_20 => refine keeps_setParams (applySMask _) (works_applySMask _) ?_
  case' h_21 => refine keeps_setParams (applyDMask _) (works_applyDMask _) ?_
  case' h_22 => refine keeps_setParams (applySMode _) (works_applySMode _) ?_
  case' h_23 => refine keeps_setParams (applyDMode _) (works_applyDMode _) ?_
  case h_24 => exact .refl s
  case' h_2 | h_3 | h_4 | h_5 | h_8 | h_9 | h_11 | h_16 | h_18 | h_19 => refine keeps_setParams id .refl ?_
  all_goals
    intro h
    simp only [ParamLaw, clampTo] at h ⊢
    omega

theorem keeps_applyPairs (pairs : List (Nat × Nat)) (s : State) : Keeps s (applyPairs pairs s).1 := by
  induction pairs generalizing s with
  | nil => exact .refl s
  | cons x rest ih => exact (keeps_applyParam x.1 x.2 s).trans (ih _)

theorem keeps_configureAct (params : List Byte) (s : State) : Keeps s (configureAct params s) := by
  unfold configureAct
  dsimp only
  split
  · refine (keeps_applyPairs (readPairs params) s).trans (Works.keeps ?_)
    exact (works_finish s _).trans (.of_same (by simp))
  · exact (Works.of_same (by simp)).keeps

/-! ### Transactions on the ports -/

/-- A transaction works within a session, or reaches what it carries on a free part outside the low-power modes (R148). -/
theorem transaction_cases {port : Port} {n : Nat} {act : State → State} {s t : State}
    (h : transaction port n act s = t) :
    Works s t ∨ s.power.mode.isLow = false ∧ t = act (sendStatus port (n - 1) s) := by
  subst h
  unfold transaction
  split
  · exact .inl (.refl s)
  split
  · exact .inl (.of_same (by simp))
  split
  · refine .inl ?_
    unfold lowPowerBus
    cases port
    · exact .of_same (by simp)
    · exact .of_same (by simp)
  · rename_i hlow
    exact .inr ⟨by simpa using hlow, rfl⟩

/-- A transaction that carries work within a session is that. -/
theorem works_transaction (port : Port) (n : Nat) {act : State → State} (works : ∀ u, Works u (act u)) (s : State) :
    Works s (transaction port n act s) := by
  generalize ht : transaction port n act s = t
  obtain h | ⟨-, rfl⟩ := transaction_cases ht
  · exact h
  · exact Works.trans (.of_same (by simp)) (works _)

/-- What the judgement has found of a frame that it lets through (R149). -/
theorem judgement_none {code : Byte} {fr : Frame} {known fits early : Bool} {s : State}
    (h : judgement code fr known fits early s = none) :
    s.busy = false ∧ (s.power.mode = .unconfigured → early = true) := by
  unfold judgement at h
  split at h
  · cases h
  split at h
  · cases h
  rename_i hbusy
  iterate 3 (split at h; · cases h)
  rename_i hmode
  exact ⟨by simpa using hbusy, fun hm => by simpa [hm] using hmode⟩

/-- A port command works within a session, or it is taken: nothing shows BUSY, and the mode is RUNNING, or UNCONFIGURED for
one that this mode takes (R149). -/
theorem command_cases (port : Port) (code : Byte) (fr : Frame) (fits early : Bool) (act : State → State) (s : State) :
    Works s (command port code fr fits early act s) ∨ ∃ u, Works s u ∧ u.session.table = s.session.table ∧
      u.busy = false ∧ (u.power.mode = .running ∨ u.power.mode = .unconfigured ∧ early = true) ∧
      command port code fr fits early act s = act u := by
  unfold command
  generalize ht : transaction port (frameClocked fr) _ s = t
  obtain h | ⟨hlow, rfl⟩ := transaction_cases ht
  · exact .inl h
  · generalize hu : sendStatus port (frameClocked fr - 1) s = u
    have hworks : Works s u := hu ▸ .of_same (by simp)
    cases hj : judgement code fr true fits early u with
    | some refusal => exact .inl (hworks.trans (.of_same (by simp)))
    | none =>
      have hmode : u.power.mode.isLow = false := by rw [hworks.mode]; exact hlow
      obtain ⟨hbusy, hearly⟩ := judgement_none hj
      refine .inr ⟨u, hworks, by rw [hworks.session], hbusy, ?_, rfl⟩
      cases hm : u.power.mode with
      | unconfigured => exact .inr ⟨rfl, hearly hm⟩
      | running => exact .inl rfl
      | held => rw [hm] at hmode; cases hmode
      | sleeping => rw [hm] at hmode; cases hmode

theorem keeps_command {port : Port} {code : Byte} {fr : Frame} {fits early : Bool} {act : State → State}
    (h : ∀ u, u.busy = false → (u.power.mode = .running ∨ u.power.mode = .unconfigured ∧ early = true) → Keeps u (act u))
    (s : State) : Keeps s (command port code fr fits early act s) := by
  obtain hw | ⟨u, hw, -, hbusy, hmode, heq⟩ := command_cases port code fr fits early act s
  · exact hw.keeps
  · rw [heq]; exact hw.keeps.trans (h u hbusy hmode)

/-- A command that UNCONFIGURED refuses is taken in RUNNING. -/
theorem keeps_command_running {port : Port} {code : Byte} {fr : Frame} {fits : Bool} {act : State → State}
    (h : ∀ u, u.power.mode = .running → Keeps u (act u)) (s : State) :
    Keeps s (command port code fr fits false act s) :=
  keeps_command (fun u _ hm => h u (by simpa using hm)) s

/-- A command that needs the disc works within a session when it does in PRESENT. -/
theorem works_withDisc {port : Port} {act : State → State} {s : State}
    (h : s.session.state = .present → Works s (act s)) : Works s (withDisc port act s) := by
  unfold withDisc
  split
  · rename_i hs; exact h hs
  · exact .of_same (by simp)

end Sys2Proof.Machine
end

section
/-! PROOF. The commands of the table, one by one, and with them the laws that every step keeps. -/

namespace Sys2Proof.Machine

/-! ### Commands of the supply, the lines and the timers -/

/-- A command ends in a next state that keeps the laws. -/
def EndsKept (o : Host.Outcome State Fault Refusal) (s : State) : Prop := ∃ t, o = .next t ∧ Keeps s t

/-- A command ends in a next state that keeps the laws, or in one whose ring clear has just begun. -/
def Ends (o : Host.Outcome State Fault Refusal) (s : State) : Prop :=
  ∃ t, o = .next t ∧ (Keeps s t ∨ ClearStarts s t)

theorem EndsKept.ends {o : Host.Outcome State Fault Refusal} {s : State} (h : EndsKept o s) : Ends o s :=
  h.imp fun _ ht => ⟨ht.1, .inl ht.2⟩

theorem EndsKept.of_works {s t : State} (h : Works s t) : EndsKept (.next t) s := ⟨t, rfl, h.keeps⟩

theorem EndsKept.of_keeps {s t : State} (h : Keeps s t) : EndsKept (.next t) s := ⟨t, rfl, h⟩

/-- The answer at the end of an event, after what it has worked within a session. -/
theorem Works.answered {s t : State} (h : Works s t) (b : State) (port : Port) (data : List Byte) :
    Works s (respondOk port data (finish b t)) :=
  (h.trans (works_finish b t)).trans (.of_same (by simp))

theorem Keeps.answered {s t : State} (h : Keeps s t) (b : State) (port : Port) (data : List Byte) :
    Keeps s (respondOk port data (finish b t)) :=
  h.trans ((Works.refl t).answered b port data).keeps

theorem keeps_resetBlocks (s : State) : Keeps s (resetBlocks s) :=
  keeps_reset rfl rfl (fun _ => id) rfl rfl rfl rfl rfl

theorem ends_powerOn (msz : BitVec 2) (s : State) : Ends (execPowerOn msz s) s := by
  refine ⟨_, rfl, ?_⟩
  generalize hu : State.mk _ _ _ _ _ _ _ _ _ _ _ _ _ _ _ = u
  have hk : Keeps s u := hu ▸ keeps_reset rfl rfl (fun _ hx => nomatch hx) rfl rfl rfl rfl rfl
  have htable : u.session.table = [] := hu ▸ rfl
  have hmode : u.power.mode = .unconfigured := hu ▸ rfl
  unfold clearAfterReset
  split
  · exact .inl hk
  · exact .inr (clearStarts_startClear msz hk (by simp [htable]) (.inl hmode))

theorem endsKept_powerLost (s : State) : EndsKept (execPowerLost s) s := by
  unfold execPowerLost
  split
  · exact .of_keeps (.refl s)
  · exact .of_keeps (keeps_reset rfl rfl (fun _ hx => nomatch hx) rfl rfl rfl rfl rfl)

theorem endsKept_resetLineAsserted (s : State) : EndsKept (execResetLineAsserted s) s := by
  refine .of_keeps ?_
  dsimp only
  split
  · exact keeps_reset rfl rfl (fun _ => id) rfl rfl rfl rfl rfl
  · exact (Works.of_same (by simp)).keeps

theorem ends_resetLineReleased (msz : BitVec 2) (s : State) : Ends (execResetLineReleased msz s) s := by
  refine ⟨_, rfl, ?_⟩
  have hfree : Works s { s with power := { s.power with resetLine := false } } := .of_same (by simp)
  dsimp only
  split
  · exact .inr (clearStarts_startClear msz (hfree.keeps.trans (keeps_resetBlocks _)) (fun _ => id) (.inl rfl))
  · exact .inl hfree.keeps

theorem endsKept_ringClearEnd (s : State) : EndsKept (execRingClearEnd s) s := by
  cases hc : s.ring.clear with
  | none => simpa [execRingClearEnd, hc] using EndsKept.of_keeps (.refl s)
  | some c =>
    by_cases hw : s.power.mode ≠ .sleeping ∨ s.power.wake = none
    · rw [execRingClearEnd_stays hc hw]
      exact .of_keeps ((keeps_clearEnded c s).trans (works_finish s _).keeps)
    · rw [not_or, not_not] at hw
      obtain ⟨w, hwake⟩ := Option.ne_none_iff_exists'.mp hw.2
      rw [execRingClearEnd_wakes hc hw.1 hwake]
      exact .of_keeps ((keeps_clearEnded_wakeEnd w hc).trans (works_finish s _).keeps)

theorem endsKept_frameClock (s : State) : EndsKept (execFrameClock s) s := by
  unfold execFrameClock
  split
  · exact .of_keeps (.refl s)
  · refine .of_keeps (Keeps.trans ?_ (works_finish s _).keeps)
    have hedge : Works s { s with power := { s.power with lastSlf := s.now } } := .of_same (by simp)
    split
    · rename_i hp
      exact hedge.keeps.trans (keeps_playFrame hp)
    · exact (hedge.trans (works_silentTick _)).keeps

theorem endsKept_fillStalled (s : State) : EndsKept (execFillStalled s) s := by
  unfold execFillStalled
  split
  · exact .of_keeps (.refl s)
  · dsimp only
    split
    · exact .of_keeps (.refl s)
    · exact .of_works (.of_same (by simp))

theorem endsKept_identifyTimerExpiry (s : State) : EndsKept (execIdentifyTimerExpiry s) s := by
  unfold execIdentifyTimerExpiry
  split
  · exact .of_keeps (.refl s)
  · dsimp only
    split
    · exact .of_keeps (.refl s)
    · exact .of_keeps (.of_session (by simp) (by simp))

theorem keeps_trayActs (old : Option Tray) (s : State) : Keeps s (trayActs old s) := by
  unfold trayActs
  split
  · exact .refl s
  · exact keeps_releaseDisc s
  · rename_i hrun _
    exact keeps_loadDisc hrun
  · exact (works_beginWake _ s).keeps
  · exact (works_beginWake _ s).keeps
  · exact .refl s

theorem endsKept_trayDebounced (s : State) : EndsKept (execTrayDebounced s) s := by
  unfold execTrayDebounced
  split
  · exact .of_keeps (.refl s)
  · refine .of_keeps ?_
    dsimp only
    generalize hu : State.mk _ _ _ _ _ _ _ _ _ _ _ _ _ _ _ = u
    have hk : Keeps s u := hu ▸ .of_session (by simp) (by simp)
    split
    · exact hk
    · exact (hk.trans (keeps_trayActs _ u)).trans (works_finish s _).keeps

theorem ends_wakeDelayEnd (msz : BitVec 2) (s : State) : Ends (execWakeDelayEnd msz s) s := by
  have hlate : Works s (elapseTo (s.power.wakeStart + 3000) s) := .of_same (by simp)
  unfold execWakeDelayEnd
  split
  · rename_i source hm _ hc
    exact ⟨_, rfl, .inl ((hlate.keeps.trans (keeps_wakeEnd source hc hm)).trans (works_finish s _).keeps)⟩
  · rename_i hm _ _
    exact ⟨_, rfl, .inr (clearStarts_startClear msz hlate.keeps (fun _ => id) (.inr hm))⟩
  · exact ⟨_, rfl, .inl (.refl s)⟩

theorem endsKept_holdFadeWatchdog (s : State) : EndsKept (execHoldFadeWatchdog s) s := by
  unfold execHoldFadeWatchdog
  split
  · rename_i e _ hp
    have hlate : Works s (s |> elapseTo (max e.since s.power.lastSlf + 10000) |> setPlayGain 0 0) := .of_same (by simp)
    exact .of_keeps ((hlate.keeps.trans (keeps_leaveEnd (by simpa using hp))).trans (works_finish s _).keeps)
  · exact .of_keeps (.refl s)

theorem endsKept_attentionPulseEnd (port : Port) (s : State) : EndsKept (execAttentionPulseEnd port s) s := by
  unfold execAttentionPulseEnd
  split
  · exact .of_works (.of_same (by simp))
  · exact .of_works (.of_same (by simp))
  · exact .of_keeps (.refl s)

theorem endsKept_trayLineChange (level : Tray) (s : State) : EndsKept (execTrayLineChange level s) s := by
  refine .of_keeps ?_
  split
  · exact .refl s
  · exact .of_session (by simp) (by simp)

theorem endsKept_streamFrame (ready : Bool) (bytes : List Byte) (s : State) :
    EndsKept (execStreamFrame ready bytes s) s := by
  unfold execStreamFrame
  split
  · exact .of_keeps (.refl s)
  · exact .of_keeps ((keeps_receiveFrame ready bytes s).trans (works_finish s _).keeps)

theorem endsKept_frameCutShort (ready : Bool) (byte0 : Byte) (s : State) :
    EndsKept (execFrameCutShort ready byte0 s) s := by
  unfold execFrameCutShort
  split
  · exact .of_keeps (.refl s)
  · exact .of_works ((works_cutFrame ready byte0 s).trans (works_finish s _))

/-! ### Commands of the planner -/

theorem works_closeAttempt (o : Order) (outcome : DoneOutcome) (s : State) : Works s (closeAttempt o outcome s).1 := by
  unfold closeAttempt
  dsimp only
  split
  · exact .of_same (by simp)
  split
  · exact .of_same (by simp)
  · exact (works_failAttempt o s).trans (works_react _)

theorem works_timeoutOrder (o : Order) (s : State) : Works s (timeoutOrder o s) := by
  unfold timeoutOrder
  split
  · exact .of_same (by simp)
  · exact (works_failAttempt o s).trans (works_react _)

theorem endsKept_orderTimeout (s : State) : EndsKept (execOrderTimeout s) s := by
  unfold execOrderTimeout
  split
  · exact .of_works (((Works.of_same (by simp)).trans (works_timeoutOrder _ _)).trans (works_finish s _))
  · exact .of_keeps (.refl s)

theorem works_takeOrderAct (s : State) : Works s (takeOrderAct s) := by
  unfold takeOrderAct
  split
  · exact .of_same (by simp)
  · split
    · exact .of_same (by simp)
    · unfold issueOrder
      exact .of_same (by simp)

theorem works_orderDoneAct (tag : Byte) (outcome : DoneOutcome) (s : State) : Works s (orderDoneAct tag outcome s) := by
  unfold orderDoneAct
  split
  · exact .of_same (by simp)
  · split
    · exact (works_closeAttempt _ outcome s).answered s _ _
    · exact .of_same (by simp)

theorem works_rateOfferAct (b : Byte) (s : State) : Works s (rateOfferAct b s) := by
  unfold rateOfferAct
  split <;> exact .of_same (by simp)

theorem works_driveRestartAct (s : State) : Works s (driveRestartAct s) := by
  unfold driveRestartAct refundIssued
  dsimp only
  split <;> exact .of_same (by simp)

/-! ### Commands of play -/

theorem works_playCommand {a : Nat} (f : Nat) (clamped : Bool) {s : State} (h : s.CanPlay) (hat : a ≤ s.t) :
    Works s (playCommand a f clamped s) := by
  unfold playCommand
  exact ((works_playTo f h hat).trans (works_finish s _)).trans (.of_same (by simp))

theorem works_playAtAct (params : List Byte) {s : State} (h : s.CanPlay) : Works s (playAtAct params s) :=
  works_playCommand _ _ h ((min_le_right _ _).trans (Nat.sub_le _ _))

theorem works_playProgramAct (params : List Byte) {s : State} (h : s.CanPlay) : Works s (playProgramAct params s) := by
  unfold playProgramAct
  split
  · exact .of_same (by simp)
  · exact works_playCommand _ _ h ((min_le_right _ _).trans (Nat.sub_le _ _))

theorem works_pauseAct {s : State} (h : s.CanPlay) : Works s (pauseAct s) := by
  unfold pauseAct
  dsimp only
  split
  · exact Works.answered (.of_play h (by simp [playFits]) (by simp)) s _ _
  · exact Works.answered (.of_play h (by simp [playFits]) (by simp)) s _ _
  · exact Works.answered (.of_play h (by simp [playFits]) (by simp)) s _ _
  · exact Works.answered (.of_same (by simp)) s _ _
  · exact Works.answered (.of_same (by simp)) s _ _
  · exact .of_same (by simp)

theorem works_resumePaused {s : State} (h : s.CanPlay) : Works s (resumePaused s) := by
  have hint : Works s (setIntent .play s) := .of_same (by simp)
  unfold resumePaused
  dsimp only
  split
  · exact hint.trans (works_endOfDisc h)
  split
  · exact (hint.trans (works_openAndPlay h)).trans (.of_same (by simp))
  · exact (hint.trans (.of_same (by simp))).trans (works_enterStarved (h.imp (by simp) (by simp)))

theorem works_resumeAct {s : State} (h : s.CanPlay) : Works s (resumeAct s) := by
  unfold resumeAct
  split
  · exact (works_resumePaused h).answered s _ _
  · exact Works.answered (.of_play h (by simp [playFits]) (by simp)) s _ _
  · exact .of_same (by simp)

theorem works_stopAct {s : State} (h : s.CanPlay) : Works s (stopAct s) := by
  have hint : Works s (setIntent .stop s) := .of_same (by simp)
  have hcan : (setIntent .stop s).CanPlay := h
  unfold stopAct
  refine (hint.trans ?_).answered s _ _
  unfold stopPlay
  split
  · exact .of_play hcan (by simp [playFits]) (by simp)
  · exact works_setPlay hcan rfl
  · exact works_enterStopped hcan
  · exact works_enterStopped hcan
  · exact works_enterStopped hcan
  · exact .refl _

/-! ### Commands of the ports, the session and the mode -/

theorem works_pollBus (port : Port) (clocked : Nat) (s : State) : Works s (pollBus port clocked s) := by
  unfold pollBus
  split
  · exact .refl s
  · exact .of_same (by simp)

theorem works_readEventsAct (port : Port) (s : State) : Works s (readEventsAct port s) := by
  unfold readEventsAct
  cases port <;> exact .of_same (by simp)

theorem works_readCountersAct (params : List Byte) (s : State) : Works s (readCountersAct params s) := by
  unfold readCountersAct
  split <;> exact .of_same (by simp)

theorem works_queryDirectoryAct (params : List Byte) (s : State) : Works s (queryDirectoryAct params s) := by
  unfold queryDirectoryAct
  split <;> exact .of_same (by simp)

theorem works_queryResumeAct (params : List Byte) (s : State) : Works s (queryResumeAct params s) := by
  unfold queryResumeAct
  split <;> exact .of_same (by simp)

/-- A part of the Resume Table left keeps the laws. -/
theorem keeps_setTable (table : List ResumeEntry) {s : State} (h : ∀ x ∈ table, x ∈ s.session.table) :
    Keeps s (setTable table s) :=
  .of_session ⟨rfl, rfl, rfl, rfl, rfl, rfl, rfl, rfl, rfl⟩ h

theorem keeps_forgetResumeAct (params : List Byte) (s : State) : Keeps s (forgetResumeAct params s) := by
  unfold forgetResumeAct
  dsimp only
  split
  · exact (keeps_setTable [] fun _ hx => absurd hx List.not_mem_nil).trans (Works.of_same (by simp)).keeps
  · split
    · have herase := keeps_setTable (s.session.table.eraseIdx (ofLe params - 1)) fun _ => List.mem_of_mem_eraseIdx
      exact herase.trans (Works.of_same (by simp)).keeps
    · exact (Works.of_same (by simp)).keeps

theorem keeps_discLoadedAct {s : State} (hrun : s.power.mode = .running) : Keeps s (discLoadedAct s) := by
  unfold discLoadedAct
  split
  · exact (Works.of_same (by simp)).keeps
  · exact (keeps_loadDisc hrun).answered s _ _

theorem keeps_discReleaseAct (s : State) : Keeps s (discReleaseAct s) := by
  unfold discReleaseAct
  exact (keeps_releaseDisc s).answered s _ _

theorem keeps_startAct {s : State} (hbusy : s.busy = false) : Keeps s (startAct s) := by
  unfold startAct
  split
  · rename_i hm
    have hclear : s.ring.clear = none := by
      simp only [State.busy, Bool.or_eq_false_iff, Option.isSome_eq_false_iff, Option.isNone_iff_eq_none] at hbusy
      exact hbusy.1.1
    have hrun : Keeps s { s with power := { s.power with mode := .running } } :=
      keeps_running hclear (by simp [hm]) (by simp)
    exact (hrun.trans (keeps_lookAtTray rfl)).answered s _ _
  · exact (Works.of_same (by simp)).keeps

theorem ends_softReset (msz : BitVec 2) (fr : ResetFrame) (s : State) : Ends (execSoftReset msz fr s) s := by
  refine ⟨_, rfl, ?_⟩
  obtain hw | ⟨u, hw, htable, -, -, heq⟩ := command_cases .s 0x03 fr.frame (frameN fr.frame == 0) true
    (softResetAct msz fr.dFrame) s
  · exact .inl hw.keeps
  · rw [heq]
    have hdrop : Works u (dropFrame fr.dFrame u) := by rw [dropFrame_frame]; exact .of_same (by simp)
    have hreset := (hw.trans hdrop).keeps.trans (keeps_resetBlocks _)
    obtain ⟨hbegun, hpending, hparams, hmode, htab⟩ := clearStarts_startClear msz hreset
      (fun x hx => by rw [← htable, ← hdrop.session]; exact hx) (.inl rfl)
    exact .inr ⟨⟨hbegun.clear, hbegun.slots, hbegun.window, hbegun.owner⟩, hpending, hparams, hmode, htab⟩

/-! ### Every command -/

/-- A port command ends in the laws when what it does, once taken, keeps them. -/
theorem ends_command {port : Port} {code : Byte} {fr : Frame} {fits early : Bool} {act : State → State} {s : State}
    (h : ∀ u, u.busy = false → Keeps u (act u)) : Ends (.next (command port code fr fits early act s)) s :=
  (EndsKept.of_keeps (keeps_command (fun u hbusy _ => h u hbusy) s)).ends

theorem ends_command_running {port : Port} {code : Byte} {fr : Frame} {fits : Bool} {act : State → State} {s : State}
    (h : ∀ u, u.power.mode = .running → Keeps u (act u)) : Ends (.next (command port code fr fits false act s)) s :=
  (EndsKept.of_keeps (keeps_command_running h s)).ends

theorem ends_command_works {port : Port} {code : Byte} {fr : Frame} {fits early : Bool} {act : State → State}
    {s : State} (h : ∀ u, Works u (act u)) : Ends (.next (command port code fr fits early act s)) s :=
  ends_command fun u _ => (h u).keeps

/-- A port command that needs the disc (R104). -/
theorem ends_command_withDisc {port : Port} {code : Byte} {fr : Frame} {fits early : Bool} {act : State → State}
    {s : State} (h : ∀ u, u.session.state = .present → Works u (act u)) :
    Ends (.next (command port code fr fits early (withDisc port act) s)) s :=
  ends_command_works fun u => works_withDisc (h u)

/-- Each command of the table keeps the laws or starts a ring clear. -/
theorem ends_exec (c : Instr) (s : State) : Ends (exec c s) s := by
  cases c with
  | powerOn msz => exact ends_powerOn msz s
  | resetLineAsserted => exact (endsKept_resetLineAsserted s).ends
  | resetLineReleased msz => exact ends_resetLineReleased msz s
  | ringClearEnd => exact (endsKept_ringClearEnd s).ends
  | streamFrame ready bytes => exact (endsKept_streamFrame ready bytes s).ends
  | frameCutShort ready byte0 => exact (endsKept_frameCutShort ready byte0 s).ends
  | stepUp => exact (EndsKept.of_works (t := judgeUpgrade s) (.of_same (by simp))).ends
  | stepDown => exact (EndsKept.of_works (t := judgeFails s) (.of_same (by simp))).ends
  | frameClock => exact (endsKept_frameClock s).ends
  | holeWaitExpiry => exact (EndsKept.of_works ((works_judgeHoleWait s).trans (works_finish s _))).ends
  | fillStalled => exact (endsKept_fillStalled s).ends
  | orderTimeout => exact (endsKept_orderTimeout s).ends
  | identifyTimerExpiry => exact (endsKept_identifyTimerExpiry s).ends
  | trayDebounced => exact (endsKept_trayDebounced s).ends
  | wakeEdge =>
    refine (EndsKept.of_works ?_).ends
    split
    · exact works_beginWake _ s
    · exact .refl s
  | wakeDelayEnd msz => exact ends_wakeDelayEnd msz s
  | holdFadeWatchdog => exact (endsKept_holdFadeWatchdog s).ends
  | attentionPulseEnd port => exact (endsKept_attentionPulseEnd port s).ends
  | poll port clocked => exact (EndsKept.of_works (works_transaction _ _ (works_pollBus port clocked) s)).ends
  | transactionCutShort port bytes =>
    exact (EndsKept.of_works (works_transaction _ _ (fun _ => .of_same (by simp)) s)).ends
  | unknownCommand port code fr =>
    refine (EndsKept.of_works (works_transaction _ _ (fun u => ?_) s)).ends
    split
    · exact .of_same (by simp)
    · exact .refl u
  | lowPowerTransaction port clocked => exact (EndsKept.of_works (works_transaction _ _ .refl s)).ends
  | start fr => exact ends_command fun _ => keeps_startAct
  | configure fr => exact ends_command fun u _ => keeps_configureAct _ u
  | softReset msz fr => exact ends_softReset msz fr s
  | queryStatus fr => exact ends_command_works fun _ => .of_same (by simp)
  | readEvents port fr => exact ends_command_works (works_readEventsAct port)
  | readCounters fr => exact ends_command_works (works_readCountersAct _)
  | queryPosition fr => exact ends_command_works fun _ => .of_same (by simp)
  | playAt fr => exact ends_command_withDisc fun _ hs => works_playAtAct _ (.inl hs)
  | playProgram fr => exact ends_command_withDisc fun _ hs => works_playProgramAct _ (.inl hs)
  | pause fr => exact ends_command_withDisc fun _ hs => works_pauseAct (.inl hs)
  | resume fr => exact ends_command_withDisc fun _ hs => works_resumeAct (.inl hs)
  | stop fr => exact ends_command_withDisc fun _ hs => works_stopAct (.inl hs)
  | discLoaded fr => exact ends_command_running fun _ => keeps_discLoadedAct
  | discRelease fr => exact ends_command fun u _ => keeps_discReleaseAct u
  | queryDirectory fr => exact ends_command_withDisc fun u _ => works_queryDirectoryAct _ u
  | queryResume fr => exact ends_command_works (works_queryResumeAct _)
  | forgetResume fr => exact ends_command fun u _ => keeps_forgetResumeAct _ u
  | hold fr => exact ends_command_running fun _ => keeps_enterLow .held
  | sleep fr => exact ends_command_running fun _ => keeps_enterLow .sleeping
  | takeOrder fr => exact ends_command_works works_takeOrderAct
  | orderDone fr => exact ends_command_works (works_orderDoneAct _ _)
  | rateOffer fr => exact ends_command_works (works_rateOfferAct _)
  | skipNotice fr =>
    refine ends_command_works fun _ => ?_
    unfold skipNoticeAct
    exact .of_same (by simp)
  | driveRestart fr => exact ends_command_works works_driveRestartAct
  | queryPlan fr => exact ends_command_works fun _ => .of_same (by simp)
  | powerLost => exact (endsKept_powerLost s).ends
  | trayLineChange level => exact (endsKept_trayLineChange level s).ends

/-! ### Every step -/

/-- A step keeps the laws or starts a ring clear, and takes its own command alone from the queue (log 1). -/
theorem step_cases {s t : State} (h : step s = .next t) :
    ∃ u, u = { s with pending := s.pending.tail } ∧ (Keeps u t ∨ ClearStarts u t) := by
  refine ⟨_, rfl, ?_⟩
  unfold step at h
  cases hq : s.pending with
  | nil =>
    rw [hq] at h
    cases h
    refine .inl (Works.keeps ?_)
    exact .of_same ⟨rfl, rfl, rfl, rfl, rfl, hq, rfl⟩
  | cons c rest =>
    rw [hq] at h
    obtain ⟨t', ht', hcases⟩ := ends_exec c { s with pending := rest }
    cases ht'.symm.trans h
    exact hcases

/-- A ring clear that has just begun leaves an empty window in its form (R17). -/
theorem ClearBegun.law {t : State} (h : ClearBegun t) : t.ring.Law := by
  obtain ⟨-, hslots, hwindow, -⟩ := h
  exact ⟨by rw [hslots]; rfl, hwindow.ge, by omega, by simp [hslots]⟩

theorem ClearBegun.marks {t : State} (h : ClearBegun t) : t.ring.MarkLaw := by
  simp [Ring.MarkLaw, h.slots]

theorem ClearBegun.full {t : State} (h : ClearBegun t) : t.FullLaw := by
  refine ⟨fun _ a hlo hhi => ?_, fun _ => h.window⟩
  have := h.window
  omega

/-- A ring clear leaves the session NO_DISC, a ring without an owner and no new entry in the Resume Table. -/
theorem ClearStarts.disc {s t : State} (h : ClearStarts s t) (hm : s.ModeLaw) (hd : s.DiscLaw) : t.DiscLaw := by
  have hstate := clear_noDisc (h.mode hm) (by rw [h.begun.clear]; rfl)
  refine ⟨fun x hx => hd.1 x (h.table x hx), by simp [hstate], fun _ x _ ho => ?_⟩
  rw [h.begun.owner] at ho
  cases ho

/-- Settles O54: `Keeps` carries the ring's laws through each command, and a ring clear leaves an empty window. -/
theorem stepKeepsRingLaw : Obligations.StepKeepsRingLaw := by
  intro s t h hr
  obtain ⟨u, rfl, hk | hc⟩ := step_cases h
  · exact ⟨hk.law hr, hk.marks hr, hk.full hr, fun hm _ => hk.disc hr hm⟩
  · exact ⟨hc.begun.law, fun _ => hc.begun.marks, fun _ _ => hc.begun.full, fun hm _ => hc.disc hm⟩

/-- Settles O58. -/
theorem stepKeepsModeLaw : Obligations.StepKeepsModeLaw := by
  intro s t h hm
  obtain ⟨u, rfl, hk | hc⟩ := step_cases h
  · exact hk.mode hm
  · exact hc.mode hm

/-- Settles O57: CONFIGURE clamps to the L in force, and a ring clear that reads another L brings its parameters into range. -/
theorem stepKeepsParamLaw : Obligations.StepKeepsParamLaw := by
  intro s t h hp
  obtain ⟨u, rfl, hk | hc⟩ := step_cases h
  · exact hk.params hp
  · exact hc.params hp

/-- Settles O60: the straps change by a ring clear alone. -/
theorem strapsReadAtClearOnly : Obligations.StrapsReadAtClearOnly := by
  intro s t h
  obtain ⟨u, rfl, hk | hc⟩ := step_cases h
  · exact ⟨fun hne => absurd hk.straps hne, hk.pending⟩
  · obtain ⟨hclear, hslots, hwindow, howner⟩ := hc.begun
    exact ⟨fun _ => ⟨hclear, hslots, hwindow, howner, by simp [State.busy, hclear]⟩, hc.pending⟩

end Sys2Proof.Machine
end

section
/-! PROOF. The event unit: what stays latched through later raisings, what each operation adds to either set, and how the
counters of an event add up. -/

namespace Sys2Proof.Machine

/-! ### Latched sets -/

section
variable {α : Type} {pos : α → Nat}

/-- An event just raised is latched. -/
theorem exists_mem_latch (e : α) (l : List (Latched α)) : ∃ n, ⟨e, n⟩ ∈ latch pos e l := by
  induction l with
  | nil => exact ⟨1, by simp [latch]⟩
  | cons x rest ih =>
    unfold latch
    split
    · exact ⟨1, by simp⟩
    split
    · exact ⟨_, List.mem_cons_self⟩
    · exact ih.imp fun _ h => List.mem_cons_of_mem _ h

/-- Raising an event leaves the records of the other positions (R159). -/
theorem mem_latch_other {e : α} {x : Latched α} (h : pos x.ev ≠ pos e) (l : List (Latched α)) :
    x ∈ latch pos e l ↔ x ∈ l := by
  have hnew : ∀ n, x ≠ ⟨e, n⟩ := fun n hx => h (by rw [hx])
  induction l with
  | nil => simp [latch, hnew]
  | cons y rest ih =>
    unfold latch
    split
    · simp [hnew]
    split
    · rename_i hy
      have hxy : x ≠ y := fun hx => h (by rw [hx, hy])
      simp [hnew, hxy]
    · simp [ih]

end

/-! ### What the operations raise -/

@[simp] theorem raiseS_sSet (e : SEvent) (s : State) :
    (raiseS e s).events.sSet = latch SEvent.pos e s.events.sSet := rfl

@[simp] theorem raiseS_rest (e : SEvent) (s : State) :
    (raiseS e s).events.dSet = s.events.dSet ∧ (raiseS e s).events.counters = s.events.counters := ⟨rfl, rfl⟩

@[simp] theorem raiseD_dSet (e : DEvent) (s : State) :
    (raiseD e s).events.dSet = latch DEvent.pos e s.events.dSet := rfl

@[simp] theorem raiseD_rest (e : DEvent) (s : State) :
    (raiseD e s).events.sSet = s.events.sSet ∧ (raiseD e s).events.counters = s.events.counters := ⟨rfl, rfl⟩

/-! ### The counters -/

theorem idx_injective : Function.Injective CounterId.idx :=
  have left : Function.LeftInverse (fun i : Fin 15 => CounterId.ofNat i) CounterId.idx := fun c => by cases c <;> rfl
  left.injective

/-- The rise of a counter, and the flag that it sets (R162, R163). -/
theorem rise_counters {n : Nat} (hn : n ≠ 0) (c : CounterId) (s : State) :
    (rise c n s).events.counters =
      s.events.counters.set c.idx (s.events.counters[c.idx].risen s.params.alertThreshold n) := by
  simp only [rise, hn, if_false]
  split <;> simp

/-- When a rise sets the flag of a counter. -/
theorem risen_alerts_iff (threshold n : Nat) (c : Counter) : ((c.risen threshold n).alerted && !c.alerted) = true ↔
    c.alerted = false ∧ threshold ≤ min (c.value + n) 16777215 := by
  cases h : c.alerted <;> simp [Counter.risen, h]

/-- What a rise raises: COUNTER_ALERT when the counter's flag becomes set, with the flags as they then stand (R163). -/
theorem rise_sSet {n : Nat} (hn : n ≠ 0) (c : CounterId) (s : State) :
    (rise c n s).events.sSet =
      if s.events.counters[c.idx].alerted = false ∧
          s.params.alertThreshold ≤ min (s.events.counters[c.idx].value + n) 16777215
      then latch SEvent.pos (.counterAlert (alertedFlags (rise c n s).events.counters)) s.events.sSet
      else s.events.sSet := by
  rw [rise_counters hn]
  simp only [rise, hn, if_false]
  split <;> rename_i h
  · rw [raiseS_sSet, if_pos ((risen_alerts_iff ..).mp h)]
  · rw [if_neg (mt (risen_alerts_iff ..).mpr h)]

/-- A rise shows in the event unit alone. -/
theorem rise_eq (c : CounterId) (n : Nat) (s : State) : rise c n s = { s with events := (rise c n s).events } := by
  unfold rise
  split
  · rfl
  · dsimp only; split <;> rfl

/-- A rise goes by the event unit, the alert parameters and the timebase. -/
theorem rise_events_congr {s t : State} (he : t.events = s.events) (hp : t.params = s.params) (hn : t.now = s.now)
    (c : CounterId) (n : Nat) : (rise c n t).events = (rise c n s).events := by
  simp only [rise, raiseS, he, hp, hn]
  split
  · exact he
  · split <;> rfl

@[simp] theorem rise_dSet (c : CounterId) (n : Nat) (s : State) : (rise c n s).events.dSet = s.events.dSet := by
  unfold rise; split <;> [rfl; (dsimp only; split <;> simp)]

theorem mem_rise_sSet {x : Latched SEvent} (h : x.ev.pos ≠ 13) (c : CounterId) (n : Nat) (s : State) :
    x ∈ (rise c n s).events.sSet ↔ x ∈ s.events.sSet := by
  by_cases hn : n = 0
  · simp [rise, hn]
  · rw [rise_sSet hn]
    split
    · exact mem_latch_other h _
    · rfl

@[simp] theorem rise_counter_same (c : CounterId) {n : Nat} (hn : n ≠ 0) (s : State) :
    (rise c n s).counter c = min (s.counter c + n) 16777215 := by
  simp [State.counter, rise_counters hn, Counter.risen]

theorem rise_counter_other {c c' : CounterId} (h : c' ≠ c) (n : Nat) (s : State) :
    (rise c n s).counter c' = s.counter c' := by
  by_cases hn : n = 0
  · simp [rise, hn]
  · have hne : (c.idx : Nat) ≠ c'.idx := fun heq => h (idx_injective (Fin.ext heq.symm))
    simp [State.counter, rise_counters hn, Vector.getElem_set_ne, hne]

/-- An operation that leaves the counters counts nothing. -/
theorem counted_of_counters {s t : State} (h : t.events.counters = s.events.counters) : Counted s t fun _ => 0 :=
  fun c => by simp [State.counter, h]

/-- A rise of a counter that has not risen yet in the event. -/
theorem Counted.rise {s t : State} {up : CounterId → Nat} (h : Counted s t up) {c : CounterId} (hc : up c = 0) (n : Nat) :
    Counted s (rise c n t) fun x => if x = c then n else up x := fun x => by
  by_cases hx : x = c
  · subst hx
    have hsame := h x
    simp only [hc, if_true] at hsame
    by_cases hn : n = 0
    · simp [Machine.rise, hn, hsame]
    · simp [hn, hsame]
  · rw [rise_counter_other hx]
    simpa [hx] using h x

/-- What an event counts does not change by what leaves the counters. -/
theorem Counted.congr {s t t' : State} {up up' : CounterId → Nat} (h : Counted s t up)
    (ht : t'.events.counters = t.events.counters) (hup : ∀ c, up' c = up c) : Counted s t' up' := fun c => by
  rw [hup c, show t'.counter c = t.counter c by simp [State.counter, ht]]
  exact h c

end Sys2Proof.Machine
end

section
/-! PROOF. SKIP_NOTICE and DRIVE_RESTART (02 section 2.10). -/

namespace Sys2Proof.Machine

/-- SKIP_NOTICE in RUNNING runs on the D-port (R39). -/
theorem exec_skipNotice {s : State} (h : s.Ready) (g : BitVec 24) :
    exec (.skipNotice (goodFrame 0x24 (le24 g.toNat))) s = .next (skipNoticeAct (sendStatus .d 5 s)) :=
  congrArg Host.Outcome.next (command_ready h .d 0x24 (le24 g.toNat) false (by simp [le24]) skipNoticeAct)

/-- What SKIP_NOTICE leaves: the run ended, the counter risen, the response on the D-port. -/
theorem skipNoticeAct_eq (s : State) : skipNoticeAct (sendStatus .d 5 s) = { s with
    intake := { s.intake with run := none }
    events := (rise .skipNotices 1 s).events
    dPort := answer s .d 3 .ok (0 :: (le24 s.ring.e ++ runData s.intake.run)) } := by
  have hevents : (rise .skipNotices 1 (endRun (sendStatus .d 5 s))).events = (rise .skipNotices 1 s).events :=
    rise_events_congr (s := s) (t := endRun (sendStatus .d 5 s)) rfl rfl rfl _ _
  unfold skipNoticeAct
  rw [rise_eq, hevents]
  rfl

/-- Settles O41: the rise of the counter carries both sets and the alert. -/
theorem skipNoticeEndsRun : Obligations.SkipNoticeEndsRun := by
  intro g s hready
  refine ⟨_, exec_skipNotice hready g, ?_⟩
  rw [skipNoticeAct_eq]
  refine ⟨?_, rise_dSet _ _ _, ?_, rise_counters Nat.one_ne_zero _ _, rise_sSet Nat.one_ne_zero _ _⟩
  · cases s.intake.run <;> rfl
  · exact ((counted_of_counters rfl).rise rfl 1).congr (t := rise .skipNotices 1 s) rfl fun _ => rfl

/-! ### DRIVE_RESTART -/

/-- The queue with its ISSUED entry back at QUEUED, its attempt refunded (R77). -/
def refunded (q : List Order) : List Order :=
  q.map fun o => if o.issue = none then o else { o with attempts := o.attempts - 1, issue := none }

theorem exec_driveRestart {s : State} (h : s.Ready) :
    exec (.driveRestart (goodFrame 0x25 [])) s = .next (driveRestartAct (sendStatus .d 2 s)) :=
  congrArg Host.Outcome.next (command_ready h .d 0x25 [] false (by decide) driveRestartAct)

theorem refundIssued_eq (s : State) : refundIssued s = setQueue (refunded s.planner.queue) s := by
  have hmap : ∀ o : Order, (if o.isIssued then { o with attempts := o.attempts - 1, issue := none } else o) =
      if o.issue = none then o else { o with attempts := o.attempts - 1, issue := none } := fun o => by
    cases h : o.issue <;> simp [Order.isIssued, h]
  simp only [refundIssued, refunded, hmap]

theorem refunded_queued (q : List Order) : ∀ o ∈ refunded q, o.issue = none := by
  simp only [refunded, List.mem_map]
  rintro _ ⟨o, -, rfl⟩
  split
  · assumption
  · rfl

/-- A scan depends on the ring, the slots' judgement and the queue alone. -/
theorem scan_queue_congr {s t : State} (hring : t.ring = s.ring) (hslot : t.engine.slotOpen = s.engine.slotOpen)
    (hsession : t.session = s.session) (hpower : t.power = s.power) (hparams : t.params = s.params)
    (hqueue : t.planner.queue = s.planner.queue) : (scan t).planner.queue = (scan s).planner.queue := by
  have hbad : t.badAt = s.badAt := funext fun a => by
    simp only [State.badAt, State.slot, State.w, State.rate, hring, hsession, hparams]
  have hunc : uncoveredBad t = uncoveredBad s := by
    simp only [uncoveredBad, State.badIn, State.lowestPlaceable, hbad, hring, hslot, hqueue]
  simp only [scan, hpower, hsession]
  split
  · simp only [setQueue, hunc, hqueue]
  · exact hqueue

/-! ### A scan issues nothing -/

theorem joinBelow_queued {first n : Nat} {q : List Order} (h : ∀ o ∈ q, o.issue = none) :
    ∀ o ∈ (joinBelow first n q).1, o.issue = none := by
  induction q with
  | nil => exact h
  | cons x rest ih =>
    obtain ⟨hx, hrest⟩ := List.forall_mem_cons.mp h
    unfold joinBelow
    split
    · exact List.forall_mem_cons.mpr ⟨hx, hrest⟩
    · exact List.forall_mem_cons.mpr ⟨hx, ih hrest⟩

theorem joinAbove_queued {first n : Nat} {q q' : List Order} (h : ∀ o ∈ q, o.issue = none)
    (hq : joinAbove first n q = some q') : ∀ o ∈ q', o.issue = none := by
  induction q generalizing q' with
  | nil => cases hq
  | cons x rest ih =>
    obtain ⟨hx, hrest⟩ := List.forall_mem_cons.mp h
    unfold joinAbove at hq
    split at hq
    · cases hq
      exact List.forall_mem_cons.mpr ⟨hx, hrest⟩
    · obtain ⟨r, hr, rfl⟩ := Option.map_eq_some_iff.mp hq
      exact List.forall_mem_cons.mpr ⟨hx, ih hrest hr⟩

theorem mem_insertOrder {o x : Order} {q : List Order} (h : x ∈ insertOrder o q) : x = o ∨ x ∈ q := by
  induction q with
  | nil => simpa [insertOrder] using h
  | cons y rest ih =>
    unfold insertOrder at h
    split at h
    · simpa using h
    · rcases List.mem_cons.mp h with rfl | hin
      · simp
      · exact (ih hin).imp_right (List.mem_cons_of_mem _)

theorem insertOrder_queued {o : Order} {q : List Order} (ho : o.issue = none) (h : ∀ o ∈ q, o.issue = none) :
    ∀ x ∈ insertOrder o q, x.issue = none := fun x hx =>
  match mem_insertOrder hx with
  | .inl heq => heq ▸ ho
  | .inr hin => h x hin

theorem newEntries_queued {fuel first n : Nat} {q : List Order} (h : ∀ o ∈ q, o.issue = none) :
    ∀ o ∈ (newEntries fuel first n q).1, o.issue = none := by
  induction fuel generalizing first n q with
  | zero => exact h
  | succ fuel ih =>
    unfold newEntries
    split
    · exact h
    split
    · split
      · rename_i q' hq
        exact joinAbove_queued h hq
      split
      · exact insertOrder_queued rfl h
      · exact h
    split
    · exact ih (insertOrder_queued rfl h)
    · exact h

theorem placeRange_queued {first n : Nat} {q : List Order} (h : ∀ o ∈ q, o.issue = none) :
    ∀ o ∈ (placeRange first n q).1, o.issue = none := by
  have hbelow := joinBelow_queued (first := first) (n := n) h
  unfold placeRange
  dsimp only
  split
  · exact hbelow
  split
  · rename_i q' hq
    exact joinAbove_queued hbelow hq
  · exact newEntries_queued hbelow

theorem placeRanges_queued {l : List (Nat × Nat)} {q : List Order} (h : ∀ o ∈ q, o.issue = none) :
    ∀ o ∈ placeRanges l q, o.issue = none := by
  induction l generalizing q with
  | nil => exact h
  | cons x more ih =>
    have hone := placeRange_queued (first := x.1) (n := x.2) h
    unfold placeRanges
    dsimp only
    split
    · exact hone
    · exact ih hone

theorem scan_queued {s : State} (h : ∀ o ∈ s.planner.queue, o.issue = none) :
    ∀ o ∈ (scan s).planner.queue, o.issue = none := by
  unfold scan
  split
  · exact placeRanges_queued h
  · exact h

/-- Work waits in a queue of QUEUED entries when it is not empty (R62). -/
theorem workWaits_queued {p : Planner} (h : ∀ o ∈ p.queue, o.issue = none) :
    p.workWaits = true ↔ p.queue ≠ [] := by
  have hnone : p.queue.any Order.isIssued = false := by
    simpa [Order.isIssued] using h
  simp [Planner.workWaits, hnone]

/-! ### What DRIVE_RESTART leaves -/

/-- Rates that are reported as before are not told of (R89). -/
theorem setRates_same {cause : RateCause} {new : Rates} {s : State} (ha : s.rates.agreed = new.agreed)
    (hr : s.rates.requested = new.requested) : setRates cause new s = { s with rates := new } := by
  simp [setRates, ha, hr]

/-- A reported rate that changes is told of on both ports (R89). -/
theorem setRates_told {cause : RateCause} {new : Rates} {s : State}
    (h : ¬ (s.rates.agreed = new.agreed ∧ s.rates.requested = new.requested)) :
    setRates cause new s = ({ s with rates := new }
      |> raiseS (.rateChanged new.agreed new.requested new.state cause)
      |> raiseD (.rateChanged new.agreed new.requested new.state cause)) := by
  have h' : ¬ (s.rates.agreed = new.agreed && s.rates.requested = new.requested) := by simpa using h
  rw [setRates, if_neg h']

/-- The rates go to NONE, which is told of when a reported rate was above 1x (R88, R89). -/
theorem ratesToNone_eq (cap : Option Rate) (s : State) :
    ratesToNone cap s =
      if s.rates.agreed ≠ .x1 ∨ s.rates.requested ≠ .x1 then
        { s with rates := ⟨none, 0, cap⟩ } |> raiseS (.rateChanged .x1 .x1 .none .reset)
          |> raiseD (.rateChanged .x1 .x1 .none .reset)
      else { s with rates := ⟨none, 0, cap⟩ } := by
  split
  · rename_i h
    exact setRates_told (new := ⟨none, 0, cap⟩) (by simpa [Rates.agreed, Rates.requested, imp_iff_not_or] using h)
  · rename_i h
    obtain ⟨ha, hr⟩ : s.rates.agreed = .x1 ∧ s.rates.requested = .x1 := by simpa using h
    exact setRates_same ha hr

/-- Going to NONE shows in the rates and the event unit alone. -/
theorem ratesToNone_state (cap : Option Rate) (s : State) :
    ratesToNone cap s = { s with rates := ⟨none, 0, cap⟩, events := (ratesToNone cap s).events } := by
  rw [ratesToNone_eq]; split <;> rfl

theorem ratesToNone_events (cap : Option Rate) (s : State) :
    (ratesToNone cap s).events.counters = s.events.counters ∧
    (ratesToNone cap s).events.sSet = (if s.rates.agreed ≠ .x1 ∨ s.rates.requested ≠ .x1
      then latch SEvent.pos (.rateChanged .x1 .x1 .none .reset) s.events.sSet else s.events.sSet) ∧
    (ratesToNone cap s).events.dSet = (if s.rates.agreed ≠ .x1 ∨ s.rates.requested ≠ .x1
      then latch DEvent.pos (.rateChanged .x1 .x1 .none .reset) s.events.dSet else s.events.dSet) := by
  rw [ratesToNone_eq]; split <;> exact ⟨rfl, rfl, rfl⟩

/-- A scan shows in the Order Queue alone. -/
theorem scan_eq (s : State) :
    scan s = { s with planner := { s.planner with queue := (scan s).planner.queue } } := by
  unfold scan; split <;> rfl

theorem scanIfDue_due {s : State} (h : s.planner.scanDue = true) : scanIfDue s =
    { s with planner := { s.planner with queue := (scan s).planner.queue, scanDue := false } } := by
  rw [scanIfDue, if_pos h, scan_eq]

theorem scanIfDue_quiet {s : State} (h : s.planner.scanDue = false) : scanIfDue s = s := by
  simp [scanIfDue, h]

/-- The part as DRIVE_RESTART leaves its scan to find it (R77, R88). -/
def restarted (s : State) : State :=
  s |> endRun |> setQueue (refunded s.planner.queue) |> setFails 0 |> ratesToNone s.rates.cap |> dueScan

/-- The Order Queue that the scan of DRIVE_RESTART leaves. -/
def restartedQueue (s : State) : List Order :=
  (scan { s with planner := { s.planner with queue := refunded s.planner.queue } }).planner.queue

theorem restartedQueue_queued (s : State) : ∀ o ∈ restartedQueue s, o.issue = none :=
  scan_queued (refunded_queued s.planner.queue)

/-- The part after that scan. -/
theorem scanIfDue_restarted (s : State) : scanIfDue (restarted s) = { s with
    intake := { s.intake with run := none }
    planner := { s.planner with queue := restartedQueue s, fails := 0, scanDue := false }
    rates := ⟨none, 0, s.rates.cap⟩
    events := (restarted s).events } := by
  have hqueue : (scan (restarted s)).planner.queue = restartedQueue s := by
    refine scan_queue_congr ?_ ?_ ?_ ?_ ?_ ?_ <;> simp [restarted, dueScan, setFails, setQueue]
  rw [scanIfDue_due rfl, hqueue, restarted, ratesToNone_state]
  rfl

/-- DRIVE_RESTART: the scan, and ORDER_AVAILABLE when its queue holds an entry. -/
theorem driveRestartAct_eq (s : State) : driveRestartAct s = respondOk .d []
    (if restartedQueue s = [] then scanIfDue (restarted s) else raiseD .orderAvailable (scanIfDue (restarted s))) := by
  have hqueue : (scanIfDue (restarted s)).planner.queue = restartedQueue s := by rw [scanIfDue_restarted]
  have hwork := workWaits_queued (p := (scanIfDue (restarted s)).planner) (hqueue ▸ restartedQueue_queued s)
  rw [hqueue] at hwork
  have hdef : driveRestartAct s = respondOk .d [] (if (scanIfDue (restarted s)).planner.workWaits
      then raiseD .orderAvailable (scanIfDue (restarted s)) else scanIfDue (restarted s)) := by
    rw [driveRestartAct, refundIssued_eq]; rfl
  rw [hdef]
  by_cases h : restartedQueue s = []
  · rw [if_pos h, if_neg (by simpa [hwork] using h)]
  · rw [if_neg h, if_pos (by simpa [hwork] using h)]

/-- Settles O37: the scan leaves a QUEUED queue, so that work waits where the queue holds an entry. -/
theorem driveRestartRequeues : Obligations.DriveRestartRequeues := by
  intro s hready
  refine ⟨_, exec_driveRestart hready, ?_⟩
  obtain ⟨hcounters, hsSet, hdSet⟩ := ratesToNone_events s.rates.cap
    (setFails 0 (setQueue (refunded s.planner.queue) (endRun (sendStatus .d 2 s))))
  have hsent : restartedQueue (sendStatus .d 2 s) = restartedQueue s := scan_queue_congr rfl rfl rfl rfl rfl rfl
  rw [driveRestartAct_eq, scanIfDue_restarted, hsent]
  by_cases hq : restartedQueue s = []
  · rw [if_pos hq]
    exact ⟨rfl, rfl, hcounters, hsSet, hdSet.trans (if_pos hq).symm⟩
  · rw [if_neg hq]
    exact ⟨rfl, rfl, hcounters, hsSet, (congrArg _ hdSet).trans (if_neg hq).symm⟩

end Sys2Proof.Machine
end

section
/-! PROOF. The stream link: reception, the checks of R22 in their order, and the frames that leave no block. -/

namespace Sys2Proof.Machine

/-! ### A frame that leaves no block -/

@[simp] theorem isLate_setRx (rx : Receiver) (s : State) (a : Nat) : isLate (setRx rx s) a = isLate s a := rfl
@[simp] theorem isBeyond_setRx (rx : Receiver) (s : State) (a : Nat) : isBeyond (setRx rx s) a = isBeyond s a := rfl

/-- The part once a frame has left no block: the receiver and the run as given, one more block discarded (R22). -/
def lost (s : State) (rx : Receiver) (run : Option Run) : State :=
  { s with intake := { s.intake with rx := rx, run := run }, events := (discardFrame s).events }

/-- What `lost` leaves, counts and raises on the D-port. -/
theorem lost_counts (s : State) (rx : Receiver) (run : Option Run) :
    (lost s rx run = { s with intake := { s.intake with rx := rx, run := run }, events := (lost s rx run).events }) ∧
    (lost s rx run).events.dSet = s.events.dSet ∧
    Counted s (lost s rx run) fun c => if c = .blocksDiscarded then 1 else 0 :=
  ⟨rfl, rise_dSet .blocksDiscarded 1 s,
    ((counted_of_counters rfl).rise rfl 1).congr (t := rise .blocksDiscarded 1 s) rfl fun _ => rfl⟩

/-- A discard that follows a change of the receiver and the run alone. -/
theorem discardFrame_eq_lost {s u : State} {rx : Receiver} {run : Option Run}
    (h : u = { s with intake := { s.intake with rx := rx, run := run } }) : discardFrame u = lost s rx run := by
  have hevents : (discardFrame u).events = (discardFrame s).events :=
    rise_events_congr (by rw [h]) (by rw [h]) (by rw [h]) _ _
  rw [discardFrame, rise_eq, ← discardFrame, hevents, h]
  rfl

theorem cutFrame_eq_lost (ready : Bool) (byte0 : Byte) (s : State) :
    cutFrame ready byte0 s = lost s ⟨.header, [byte0], ready && s.rdyB⟩ none := by
  rw [cutFrame, discardEndingRun, discardFrame_eq_lost (u := endRun s) (rx := s.intake.rx) (run := none) rfl]
  rfl

/-- An event that changes neither the planner nor the pause flag ends as it is. -/
theorem finish_eq_self {b s : State} (hp : s.planner = b.planner) (hd : b.planner.scanDue = false)
    (hf : b.pauseFlag = s.pauseFlag) : finish b s = s :=
  finish_quiet (by rw [hp, hd]) (by rw [hp]) hf

theorem finish_lost {s : State} (hd : s.planner.scanDue = false) (rx : Receiver) (run : Option Run) :
    finish s (lost s rx run) = lost s rx run := finish_eq_self rfl hd rfl

/-! ### Reception (R20, R21) -/

theorem exec_streamFrame {s : State} (hp : s.power.powered = true) (ready : Bool) (bytes : List Byte) :
    exec (.streamFrame ready bytes) s = .next (finish s (receiveFrame ready bytes s)) := by
  simp [exec, execStreamFrame, hp]

/-- FRAME_CUT_SHORT leaves no block. -/
theorem exec_frameCutShort {s : State} (hp : s.power.powered = true) (hd : s.planner.scanDue = false) (ready : Bool)
    (byte0 : Byte) : exec (.frameCutShort ready byte0) s = .next (lost s ⟨.header, [byte0], ready && s.rdyB⟩ none) := by
  simp only [exec, execFrameCutShort, hp, Bool.not_true, Bool.false_eq_true, if_false, cutFrame_eq_lost, finish_lost hd]

/-- The receiver holds a frame other than the one of these bytes (R20, log 7). -/
theorem holdsOther_iff (rx : Receiver) (bytes : List Byte) : rx.holdsOther bytes = true ↔
    rx.inFrame = true ∧ ¬ (rx.stage = .header ∧ rx.bytes = bytes.take 1) := by
  simp [Receiver.holdsOther, imp_iff_not_or]

theorem takeMarked_own {s : State} {bytes : List Byte} (h : s.intake.rx.holdsOther bytes = false) (ready : Bool) :
    takeMarked ready bytes s = s := by
  unfold takeMarked; split <;> simp [h]

theorem takeMarked_other {s : State} {byte0 : Byte} {rest : List Byte}
    (h : s.intake.rx.holdsOther (byte0 :: rest) = true) (ready : Bool) :
    takeMarked ready (byte0 :: rest) s = cutFrame ready byte0 s := by simp [takeMarked, h]

/-- Once byte 0 has ended another frame, the frame is received as after a FRAME_CUT_SHORT (R20). -/
theorem receiveFrame_other {s : State} {byte0 : Byte} {rest : List Byte}
    (h : s.intake.rx.holdsOther (byte0 :: rest) = true) (ready : Bool) :
    receiveFrame ready (byte0 :: rest) s = receiveFrame ready (byte0 :: rest) (cutFrame ready byte0 s) := by
  have hown : (cutFrame ready byte0 s).intake.rx.holdsOther (byte0 :: rest) = false := by
    simp [cutFrame, setRx, Receiver.holdsOther]
  rw [receiveFrame, receiveFrame, takeMarked_other h, takeMarked_own hown]

section
variable {s : State} {ready : Bool} {bytes : List Byte}

/-- A frame of fewer than ten bytes stays in reception (log 7). -/
theorem receiveFrame_short (hown : s.intake.rx.holdsOther bytes = false) (hlen : bytes.length < 10) :
    receiveFrame ready bytes s = setRx ⟨.header, bytes, !notReady ready s⟩ s := by
  simp only [receiveFrame, takeMarked_own hown, if_pos hlen]

/-- A bad header ends the run with its tenth byte (R21). -/
theorem receiveFrame_bad (hown : s.intake.rx.holdsOther bytes = false) (hlen : 10 ≤ bytes.length)
    (hbad : headerGood s (readHeader bytes) = false) :
    receiveFrame ready bytes s = lost s { rxHunt with stage := .skip } none := by
  have hten : ¬ bytes.length < 10 := by omega
  simp only [receiveFrame, takeMarked_own hown, if_neg hten, hbad, Bool.not_false, if_true, discardEndingRun]
  exact discardFrame_eq_lost rfl

/-- A payload that is not all there stays in reception (log 7). -/
theorem receiveFrame_partial (hown : s.intake.rx.holdsOther bytes = false) (hlen : 10 ≤ bytes.length)
    (hgood : headerGood s (readHeader bytes) = true) (hpart : bytes.length < 10 + (readHeader bytes).length) :
    receiveFrame ready bytes s = setRx ⟨.payload, bytes, !notReady ready s⟩ s := by
  have hten : ¬ bytes.length < 10 := by omega
  simp only [receiveFrame, takeMarked_own hown, if_neg hten, hgood, Bool.not_true, Bool.false_eq_true, if_false,
    if_pos hpart]

/-- A whole frame with a good header is judged by the checks that follow (R22), RDY_B first (R23). -/
theorem receiveFrame_whole (hown : s.intake.rx.holdsOther bytes = false)
    (hgood : headerGood s (readHeader bytes) = true) (hlen : 10 + (readHeader bytes).length ≤ bytes.length) :
    receiveFrame ready bytes s = if notReady ready s then discardEndingRun (setRx rxHunt s)
      else goodHeaderFrame (readHeader bytes) ((bytes.drop 10).take (readHeader bytes).length) (setRx rxHunt s) := by
  have hten : ¬ bytes.length < 10 := by omega
  have hall : ¬ bytes.length < 10 + (readHeader bytes).length := by omega
  simp only [receiveFrame, takeMarked_own hown, if_neg hten, hgood, Bool.not_true, Bool.false_eq_true, if_false,
    if_neg hall]

end

/-- What R21 asks of a header, with the payload lengths of the two rate codes in numbers. -/
theorem headerGood_iff (s : State) (h : Header) : headerGood s h = true ↔ h.crcGood = true ∧
    (h.kind = 1 ∧ (if s.session.state = .present then h.length = s.rate.payloadBytes
        else h.length = 1875 ∨ h.length = 2040) ∨
      h.kind = 2 ∧ 5 ≤ h.length ∧ h.length ≤ 770) := by
  have h44 : RateCode.payloadBytes .r44100 = 1875 := rfl
  have h48 : RateCode.payloadBytes .r48000 = 2040 := rfl
  unfold headerGood
  by_cases hk : h.kind = 1
  · rw [if_pos hk]
    split <;> simp [hk, h44, h48]
  · rw [if_neg hk]
    simp only [hk, false_and, false_or, Bool.and_eq_true, beq_iff_eq, decide_eq_true_eq, and_assoc]

/-! ### Addresses and runs (R29, R30) -/

section
variable {h : Header} {b : Block} {s : State}

/-- An address that cannot be known: a new run ends the old one, and no run stays none (R29). -/
theorem audioFrame_unknown (hbad : h.addressGood = false) (hrun : h.runStart = true ∨ s.intake.run = none) :
    audioFrame h b s = discardFrame (endRun s) := by
  have hend : s.intake.run = none → endRun s = s := fun hnone => by
    rw [endRun, ← hnone]
  cases hstart : h.runStart with
  | true => simp [audioFrame, addressOf, hbad, hstart, discardEndingRun]
  | false =>
    have hnone := hrun.resolve_left (by simp [hstart])
    simp [audioFrame, addressOf, hbad, hstart, hnone, hend hnone]

/-- A frame that continues the run, its address its own or inferred (R29, R30); a REJECTED run takes it as well, to discard
it. -/
theorem audioFrame_continues {r : Run} (hrun : s.intake.run = some r) (hstart : h.runStart = false)
    (haddr : h.addressGood = true → h.address = r.last + 1) :
    audioFrame h b s = audioContinues r (r.last + 1) b s := by
  cases hgood : h.addressGood with
  | true => simp [audioFrame, addressOf, hgood, hrun, beginsRun, hstart, haddr hgood]
  | false =>
    by_cases hrej : r.state = .rejected
    · simp [audioFrame, addressOf, hgood, hrun, hstart, hrej, audioContinues]
    · simp [audioFrame, addressOf, hgood, hrun, hstart, hrej]

/-- A frame that begins a run (R30). -/
theorem audioFrame_begins (hgood : h.addressGood = true)
    (hnew : s.intake.run = none ∨ h.runStart = true ∨ ∃ r, s.intake.run = some r ∧ h.address ≠ r.last + 1) :
    audioFrame h b s = audioBegins h.address h.tag b s := by
  cases hrun : s.intake.run with
  | none => simp [audioFrame, addressOf, hgood, hrun]
  | some r =>
    have hbegins : beginsRun h h.address (some r) = true := by
      simpa [hrun, beginsRun] using hnew
    simp [audioFrame, addressOf, hgood, hrun, hbegins]

end

theorem isLate_iff (s : State) (a : Nat) :
    isLate s a = true ↔ a < s.ring.p ∨ a = s.ring.p ∧ s.engine.slotOpen = true := by simp [isLate]

theorem isBeyond_iff (s : State) (a : Nat) : isBeyond s a = true ↔ s.ring.p + s.ring.len ≤ a ∨ s.t ≤ a := by
  simp [isBeyond]

/-! ### The seam check (R43, R44) -/

/-- d as a count of positions: both copies clean, the words different. -/
theorem seamDiff_eq_count : ∀ (hms : List Bool) (hws : List Word) (ams : List Bool) (aws : List Word),
    hws.length = hms.length → ams.length = hms.length → aws.length = hms.length →
    seamDiff hms hws ams aws = ((List.range hms.length).filter fun i =>
      !hms.getD i false && !ams.getD i false && hws.getD i 0 != aws.getD i 0).length
  | [], [], [], [], _, _, _ => rfl
  | hm :: hms, hw :: hws, am :: ams, aw :: aws, h1, h2, h3 => by
    have ih := seamDiff_eq_count hms hws ams aws (by simpa using h1) (by simpa using h2) (by simpa using h3)
    rw [seamDiff, ih, List.length_cons, List.range_succ_eq_map, List.filter_cons, List.filter_map]
    split <;> rename_i hcond
    · have hfirst : (!hm && !am && hw != aw) = true := hcond
      simp [hfirst, Nat.add_comm, Function.comp_def]
    · have hfirst : ¬ (!hm && !am && hw != aw) = true := hcond
      simp [hfirst, Function.comp_def]

theorem words16_length : ∀ bs : List Byte, (words16 bs).length = bs.length / 2
  | [] => rfl
  | [_] => by simp [words16]
  | a :: b :: rest => by
    rw [words16, List.length_cons, words16_length rest, List.length_cons, List.length_cons]; omega

theorem unpackBits_length {n : Nat} {bs : List Byte} (h : n ≤ 8 * bs.length) : (unpackBits n bs).length = n := by
  simp only [unpackBits, List.length_take, List.length_flatMap, List.length_map, List.length_range]
  simp only [List.map_const', List.sum_replicate, smul_eq_mul]
  omega

/-- A whole payload gives W words and W marks (R25). -/
theorem readBlock_length {c : RateCode} {payload : List Byte} (h : payload.length = c.payloadBytes) :
    (readBlock c.words payload).words.length = c.words ∧ (readBlock c.words payload).marks.length = c.words := by
  have hlen : payload.length = 2 * c.words + (c.words + 7) / 8 := h
  constructor
  · simp only [readBlock, words16_length, List.length_take]; omega
  · exact unpackBits_length (by simp only [List.length_drop]; omega)

/-- A slot holds a copy of a block: these marks and words (R4). -/
def Slot.Copies (w : Nat) (marks : List Bool) (words : List Word) (v : Slot) : Prop :=
  (∃ tag source, v = .clean tag words source ∧ marks = List.replicate w false) ∨
    ∃ tag source settled, v = .flawed tag marks words source settled

/-- The positions at which two copies are clean and differ (R44). -/
def differing (w : Nat) (marks : List Bool) (words : List Word) (b : Block) : Nat :=
  ((List.range w).filter fun i => !marks.getD i false && !b.marks.getD i false &&
    words.getD i 0 != b.words.getD i 0).length

theorem diff_of_copies {w : Nat} {marks : List Bool} {words : List Word} {v : Slot} {b : Block}
    (hv : v.Copies w marks words) (hwords : words.length = w) (hmarks : marks.length = w) (hbw : b.words.length = w)
    (hbm : b.marks.length = w) : v.diff w b = differing w marks words b := by
  have hcount : seamDiff marks words b.marks b.words = differing w marks words b := by
    rw [seamDiff_eq_count _ _ _ _ (by omega) (by omega) (by omega), hmarks]; rfl
  obtain ⟨tag, source, rfl, rfl⟩ | ⟨tag, source, settled, rfl⟩ := hv <;> exact hcount

/-- A run that begins on a slot with a block goes by the seam difference (R43 to R46). -/
theorem seamCheck_copies {w : Nat} {marks : List Bool} {words : List Word} {a : Nat} {s : State}
    (hv : (s.slot a).Copies w marks words) (tag : Byte) (b : Block) : seamCheck a tag b s =
      if (s.slot a).diff s.w b ≤ s.params.seamThreshold then acceptBlock ⟨.verified, a, tag⟩ a b s
      else s |> setRun ⟨.rejected, a, tag⟩ |> discardFrame |> rise .seamRejects 1
        |> raiseD (.seamReject a tag ((s.slot a).diff s.w b)) := by
  unfold seamCheck
  obtain ⟨t, source, heq, -⟩ | ⟨t, source, settled, heq⟩ := hv <;> simp only [heq]

end Sys2Proof.Machine
end

section
/-! PROOF. The frames that leave no block, counted (DiscardedFramesCount). -/

namespace Sys2Proof.Machine

/-! ### The checks behind the header (R22 to R28) -/

/-- RDY_B as R23 judges it for a frame. -/
theorem notReady_eq (ready : Bool) (s : State) :
    notReady ready s = !(ready && s.rdyB && !(s.intake.rx.inFrame && !s.intake.rx.synReady)) := by
  simp only [notReady, Bool.not_and (ready && s.rdyB), Bool.not_and ready, Bool.not_not]

theorem goodHeaderFrame_directory {h : Header} (hkind : h.kind = 2) (payload : List Byte) (s : State) :
    goodHeaderFrame h payload s = if h.length = 5 + 3 * (payload.getD 1 0).toNat then takeDirectory payload s
      else discardEndingRun s := if_pos hkind

/-- AUDIO leaves the run where no disc is in play or play is STOPPED (R27, R28). -/
theorem goodHeaderFrame_audio_lost {h : Header} (hkind : h.kind = 1) (payload : List Byte) {s : State}
    (hout : s.session.state ≠ .present ∨ s.engine.play = .stopped) : goodHeaderFrame h payload s = discardFrame s := by
  have hkind2 : h.kind ≠ 2 := by rw [hkind]; decide
  unfold goodHeaderFrame
  rw [if_neg hkind2]
  split
  · rfl
  · exact if_pos (hout.resolve_left ‹_›)

theorem goodHeaderFrame_audio {h : Header} (hkind : h.kind = 1) (payload : List Byte) {s : State}
    (hdisc : s.session.state = .present) (hplay : s.engine.play ≠ .stopped) :
    goodHeaderFrame h payload s = audioFrame h (readBlock s.w payload) s := by
  have hkind2 : h.kind ≠ 2 := by rw [hkind]; decide
  rw [goodHeaderFrame, if_neg hkind2, if_neg (by simpa using hdisc), if_neg hplay]

section
variable {s : State} {ready : Bool} {bytes : List Byte}

/-- A frame that is lost ends its event so. -/
theorem exec_streamFrame_lost (hp : s.power.powered = true) (hd : s.planner.scanDue = false) {rx : Receiver}
    {run : Option Run} (h : receiveFrame ready bytes s = lost s rx run) :
    exec (.streamFrame ready bytes) s = .next (lost s rx run) := by
  rw [exec_streamFrame hp, h, finish_lost hd]

/-- A frame that stays in reception changes the receiver alone (log 7). -/
theorem exec_streamFrame_held (hp : s.power.powered = true) (hd : s.planner.scanDue = false) {rx : Receiver}
    (h : receiveFrame ready bytes s = setRx rx s) : exec (.streamFrame ready bytes) s = .next (setRx rx s) := by
  rw [exec_streamFrame hp, h, finish_eq_self (b := s) (s := setRx rx s) rfl hd rfl]

/-- A whole frame with a good header and RDY_B high. -/
theorem receiveFrame_heard (hown : s.intake.rx.holdsOther bytes = false)
    (hgood : headerGood s (readHeader bytes) = true) (hlen : 10 + (readHeader bytes).length ≤ bytes.length)
    (hready : notReady ready s = false) : receiveFrame ready bytes s =
      goodHeaderFrame (readHeader bytes) ((bytes.drop 10).take (readHeader bytes).length) (setRx rxHunt s) := by
  rw [receiveFrame_whole hown hgood hlen, hready, if_neg Bool.false_ne_true]

end

/-! ### AUDIO frames that are discarded (R31, R32, R46, R50) -/

theorem audioContinues_lost {s : State} {r : Run} {a : Nat} (b : Block)
    (h : r.state = .rejected ∨ isLate s a = true ∨ isBeyond s a = true) :
    audioContinues r a b (setRx rxHunt s) = lost s rxHunt (some { r with last := a }) := by
  have hcond : (r.state = .rejected || isLate (setRx rxHunt s) a || isBeyond (setRx rxHunt s) a) = true := by
    simpa [or_assoc] using h
  rw [audioContinues, if_pos hcond]
  exact discardFrame_eq_lost rfl

theorem audioBegins_lost {s : State} {a : Nat} (tag : Byte) (b : Block)
    (h : isLate s a = true ∨ isBeyond s a = true) : audioBegins a tag b (setRx rxHunt s) = lost s rxHunt none := by
  have hcond : (isLate (setRx rxHunt s) a || isBeyond (setRx rxHunt s) a) = true := by simpa using h
  rw [audioBegins, if_pos hcond]
  exact discardFrame_eq_lost rfl

/-- The part once a seam has rejected the run that begins at `a`: one block discarded, one seam rejected, SEAM_REJECT (R46). -/
def seamRejected (s : State) (a : Nat) (tag : Byte) (d : Nat) : State :=
  lost s rxHunt (some ⟨.rejected, a, tag⟩) |> rise .seamRejects 1 |> raiseD (.seamReject a tag d)

/-- A seam that differs by more than the threshold rejects the run. -/
theorem audioBegins_rejects {s : State} {w a : Nat} {marks : List Bool} {words : List Word} (tag : Byte) {b : Block}
    (hlate : ¬ isLate s a = true) (hbeyond : ¬ isBeyond s a = true) (hv : (s.slot a).Copies w marks words)
    (hd : s.params.seamThreshold < (s.slot a).diff s.w b) :
    audioBegins a tag b (setRx rxHunt s) = seamRejected s a tag ((s.slot a).diff s.w b) := by
  have hcond : ¬ (isLate (setRx rxHunt s) a || isBeyond (setRx rxHunt s) a) = true := by
    simpa [not_or] using And.intro hlate hbeyond
  have hv' : ((setRx rxHunt s).slot a).Copies w marks words := hv
  have hd' : ¬ ((setRx rxHunt s).slot a).diff (setRx rxHunt s).w b ≤ (setRx rxHunt s).params.seamThreshold :=
    Nat.not_le.mpr hd
  have hlost : discardFrame (setRun ⟨.rejected, a, tag⟩ (setRx rxHunt s)) = lost s rxHunt (some ⟨.rejected, a, tag⟩) :=
    discardFrame_eq_lost rfl
  rw [audioBegins, if_neg hcond, seamCheck_copies hv', if_neg hd', hlost]
  rfl

theorem seamRejected_state (s : State) (a : Nat) (tag : Byte) (d : Nat) : seamRejected s a tag d =
    { s with intake := { s.intake with rx := rxHunt, run := some ⟨.rejected, a, tag⟩ }
             events := (seamRejected s a tag d).events } := by
  rw [seamRejected, rise_eq]; rfl

theorem seamRejected_counts (s : State) (a : Nat) (tag : Byte) (d : Nat) :
    (seamRejected s a tag d).events.dSet = latch DEvent.pos (.seamReject a tag d) s.events.dSet ∧
    Counted s (seamRejected s a tag d) fun c => if c = .blocksDiscarded ∨ c = .seamRejects then 1 else 0 := by
  obtain ⟨-, hdSet, hcount⟩ := lost_counts s rxHunt (some ⟨.rejected, a, tag⟩)
  refine ⟨by rw [seamRejected, raiseD_dSet, rise_dSet, hdSet], ?_⟩
  refine (hcount.rise (c := .seamRejects) rfl 1).congr rfl fun c => ?_
  by_cases hc : c = .seamRejects <;> simp [hc]

theorem finish_seamRejected {s : State} (hd : s.planner.scanDue = false) (a : Nat) (tag : Byte) (d : Nat) :
    finish s (seamRejected s a tag d) = seamRejected s a tag d := by
  exact finish_eq_self (by rw [seamRejected_state]) hd (by rw [seamRejected_state]; rfl)

/-- A STREAM_FRAME that finds another frame in reception goes on from where a FRAME_CUT_SHORT with its byte 0 leaves off
(R20). -/
theorem exec_streamFrame_other {s : State} {ready : Bool} {byte0 : Byte} {rest : List Byte}
    (hp : s.power.powered = true) (h : s.intake.rx.holdsOther (byte0 :: rest) = true) :
    exec (.streamFrame ready (byte0 :: rest)) s =
      exec (.streamFrame ready (byte0 :: rest)) (lost s ⟨.header, [byte0], ready && s.rdyB⟩ none) := by
  rw [exec_streamFrame hp, exec_streamFrame (s := lost s _ none) hp, receiveFrame_other h, cutFrame_eq_lost]
  rfl

/-- A whole AUDIO frame heard in play reaches the rules of addresses and runs (R29). -/
theorem receiveFrame_audio {s : State} {ready : Bool} {bytes : List Byte}
    (hown : s.intake.rx.holdsOther bytes = false) (hgood : headerGood s (readHeader bytes) = true)
    (hlen : 10 + (readHeader bytes).length ≤ bytes.length) (hready : notReady ready s = false)
    (hkind : (readHeader bytes).kind = 1) (hdisc : s.session.state = .present) (hplay : s.engine.play ≠ .stopped) :
    receiveFrame ready bytes s = audioFrame (readHeader bytes)
      (readBlock s.w ((bytes.drop 10).take (readHeader bytes).length)) (setRx rxHunt s) := by
  rw [receiveFrame_heard hown hgood hlen hready, goodHeaderFrame_audio (s := setRx rxHunt s) hkind _ hdisc hplay]
  rfl

/-- The payload of a whole frame has the length that its header declares. -/
theorem payload_length {bytes : List Byte} {n : Nat} (h : 10 + n ≤ bytes.length) :
    ((bytes.drop 10).take n).length = n := by
  simp only [List.length_take, List.length_drop]; omega

theorem payload_getD {bytes : List Byte} {n i : Nat} (h : i < n) :
    ((bytes.drop 10).take n).getD i 0 = bytes.getD (10 + i) 0 := by
  simp [List.getD_eq_getElem?_getD, h]

/-- Settles O50: each check that fails leaves the part `lost`, and a seam that fails leaves it rejected besides. -/
theorem discardedFramesCount : Obligations.DiscardedFramesCount := by
  intro s hp hd left discarded late beyond
  refine ⟨fun ready byte => ⟨_, exec_frameCutShort hp hd ready byte, lost_counts ..⟩, fun ready bytes => ?_⟩
  intro c h rdy hunt other good
  have hgood : headerGood s h = true ↔ good := headerGood_iff s h
  have hrdy : notReady ready s = !rdy := notReady_eq ready s
  refine ⟨fun byte0 rest hbytes hother => ⟨_, exec_frameCutShort hp hd ready byte0, ?_⟩, fun hnot => ?_⟩
  · simp only [c, hbytes]
    exact exec_streamFrame_other hp ((holdsOther_iff _ _).mpr (hbytes ▸ hother))
  have hown : s.intake.rx.holdsOther bytes = false := by simpa using mt (holdsOther_iff s.intake.rx bytes).mp hnot
  have hlost : ∀ {u rx run}, receiveFrame ready bytes s = u → u = lost s rx run →
      ∃ t, exec c s = .next t ∧ discarded t rx run :=
    fun hr hu => ⟨_, exec_streamFrame_lost hp hd (hr.trans hu), lost_counts ..⟩
  refine ⟨fun hlen => ?_, fun hlen hbad => hlost (receiveFrame_bad hown hlen (by simpa using mt hgood.mp hbad)) rfl,
    fun hlen hg hpart => ?_, fun hlen hg => ?_⟩
  · rw [exec_streamFrame_held hp hd (receiveFrame_short hown hlen), hrdy, Bool.not_not]; rfl
  · rw [exec_streamFrame_held hp hd (receiveFrame_partial hown hlen (hgood.mpr hg) hpart), hrdy, Bool.not_not]; rfl
  have hlow : rdy = true → notReady ready s = false := fun hhigh => by rw [hrdy, hhigh]; rfl
  refine ⟨fun hnever => hlost (receiveFrame_whole hown (hgood.mpr hg) hlen) ?_, fun hhigh hkind hbad =>
    hlost (receiveFrame_heard hown (hgood.mpr hg) hlen (hlow hhigh)) ?_, fun hhigh hkind hout =>
    hlost (receiveFrame_heard hown (hgood.mpr hg) hlen (hlow hhigh)) ?_, fun hhigh hkind hdisc hplay => ?_⟩
  · rw [hrdy, hnever]
    exact discardFrame_eq_lost rfl
  · have hfive : 5 ≤ h.length := by
      obtain ⟨-, ⟨hkind', -⟩ | ⟨-, hfive, -⟩⟩ := hg
      · rw [hkind] at hkind'; exact absurd hkind' (by decide)
      · exact hfive
    rw [goodHeaderFrame_directory hkind, payload_getD (show 1 < h.length by omega), if_neg hbad]
    exact discardFrame_eq_lost rfl
  · rw [goodHeaderFrame_audio_lost (s := setRx rxHunt s) hkind _ hout]
    exact discardFrame_eq_lost rfl
  have haudio := receiveFrame_audio hown (hgood.mpr hg) hlen (hlow hhigh) hkind hdisc hplay
  refine ⟨fun hbad hrun => hlost haudio ?_, fun r hrun hstart haddr hdrop => hlost haudio ?_,
    fun haddr hnew => ⟨fun hout => hlost haudio ?_, ?_⟩⟩
  · rw [audioFrame_unknown (s := setRx rxHunt s) hbad hrun]
    exact discardFrame_eq_lost rfl
  · rw [audioFrame_continues (s := setRx rxHunt s) hrun hstart haddr]
    exact audioContinues_lost _ (by rwa [isLate_iff, isBeyond_iff])
  · rw [audioFrame_begins (s := setRx rxHunt s) haddr hnew]
    exact audioBegins_lost _ _ (by rwa [isLate_iff, isBeyond_iff])
  · intro hlate hbeyond marks words hv hwords hmarks b d hdiff
    have hsize : h.length = s.rate.payloadBytes := by
      obtain ⟨-, ⟨-, hsize⟩ | ⟨hkind', -⟩⟩ := hg
      · rwa [if_pos hdisc] at hsize
      · rw [hkind] at hkind'; exact absurd hkind' (by decide)
    obtain ⟨hbw, hbm⟩ := readBlock_length ((payload_length hlen).trans hsize)
    have hd' : (s.slot h.address).diff s.w b = d := diff_of_copies hv hwords hmarks hbw hbm
    have hrej := audioBegins_rejects h.tag (mt (isLate_iff s _).mp hlate) (mt (isBeyond_iff s _).mp hbeyond) hv
      (hd'.symm ▸ hdiff : s.params.seamThreshold < (s.slot h.address).diff s.w b)
    rw [hd'] at hrej
    refine ⟨seamRejected s h.address h.tag d, ?_, seamRejected_state .., seamRejected_counts ..⟩
    rw [exec_streamFrame hp, haudio, audioFrame_begins (s := setRx rxHunt s) haddr hnew, hrej, finish_seamRejected hd]

end Sys2Proof.Machine
end

section
/-! PROOF. The slots after an accepted block, by address (R10, R33, R34, R51, R52). -/

namespace Sys2Proof.Machine

/-! ### Slots by address under the ring's law -/

theorem eq_empty_of_isEmpty {v : Slot} (h : v.isEmpty = true) : v = .empty := by
  cases v <;> simp_all [Slot.isEmpty]

/-- In P..P+L−1 a slot that is not EMPTY carries its address, which lies below E (R3, R9). -/
theorem slot_held {r : Ring} (hr : r.Law) {a : Nat} (hlo : r.p ≤ a) (hhi : a < r.p + r.len)
    (hne : (r.slot a).isEmpty = false) : (r.slot a).tag = some a ∧ a < r.e := by
  obtain ⟨-, -, hel, hin⟩ := (law_iff r).mp hr
  obtain ⟨b, htag, hb, hbe, hidx⟩ := hin _ (slot_mem hne)
  have hab : a = b := mod_injective ⟨hlo, hhi⟩ ⟨hb, by omega⟩ hidx
  exact ⟨hab ▸ htag, hab ▸ hbe⟩

theorem holds_of_nonempty {r : Ring} (hr : r.Law) {a : Nat} (hlo : r.p ≤ a) (hhi : a < r.p + r.len)
    (hne : (r.slot a).isEmpty = false) : r.holds a = true := by
  simp [Ring.holds, hlo, hhi, (slot_held hr hlo hhi hne).1]

/-- The slots of E..P+L−1 are EMPTY (R9). -/
theorem slot_empty {r : Ring} (hr : r.Law) {a : Nat} (hlo : r.e ≤ a) (hhi : a < r.p + r.len) : r.slot a = .empty := by
  refine eq_empty_of_isEmpty ?_
  by_contra hne
  have := (slot_held hr (hr.2.1.trans hlo) hhi (by simpa using hne)).2
  omega

/-- A write at one address of a window leaves the others. -/
theorem slot_setSlot_ne {r : Ring} {lo a x : Nat} (v : Slot) (ha : lo ≤ a ∧ a < lo + r.len)
    (hx : lo ≤ x ∧ x < lo + r.len) (hne : x ≠ a) : (r.setSlot a v).slot x = r.slot x :=
  slot_setSlot_other v fun heq => hne (mod_injective hx ha heq)

theorem markMissing_len (n a : Nat) (r : Ring) : (markMissing n a r).len = r.len :=
  len_of_straps (markMissing_frame n a r).1

/-- Marking a range leaves the other addresses of the window. -/
theorem markMissing_other {lo n a x : Nat} {r : Ring} (ha : lo ≤ a ∧ a + n ≤ lo + r.len) (hx : lo ≤ x ∧ x < lo + r.len)
    (hout : x < a ∨ a + n ≤ x) : (markMissing n a r).slot x = r.slot x := by
  induction n generalizing a r with
  | zero => rfl
  | succ n ih =>
    unfold markMissing
    split
    · rw [ih (r := r.setSlot a (.missing a)) ⟨by omega, by show a + 1 + n ≤ lo + r.len; omega⟩ hx (by omega)]
      exact slot_setSlot_ne _ ⟨by omega, by omega⟩ hx (by omega)
    · exact ih ⟨by omega, by omega⟩ hx (by omega)

/-- Each EMPTY slot of the range becomes MISSING (R10). -/
theorem markMissing_slot {lo n a x : Nat} {r : Ring} (hw : slotsWf r.slots = true) (ha : lo ≤ a ∧ a + n ≤ lo + r.len)
    (hx : a ≤ x ∧ x < a + n) (hempty : r.slot x = .empty) : (markMissing n a r).slot x = .missing x := by
  induction n generalizing a r with
  | zero => omega
  | succ n ih =>
    by_cases hxa : x = a
    · subst hxa
      rw [markMissing, if_pos (by rw [hempty]; rfl),
        markMissing_other (lo := lo) (r := r.setSlot x (.missing x)) ⟨by omega, by show x + 1 + n ≤ lo + r.len; omega⟩
          ⟨by omega, by show x < lo + r.len; omega⟩ (by omega)]
      exact slot_setSlot_same x _ hw
    · unfold markMissing
      split
      · refine ih (r := r.setSlot a (.missing a)) (setSlot_wf _ _ hw)
          ⟨by omega, by show a + 1 + n ≤ lo + r.len; omega⟩ (by omega) ?_
        rw [slot_setSlot_ne (lo := lo) _ ⟨by omega, by omega⟩ ⟨by omega, by omega⟩ hxa, hempty]
      · exact ih hw ⟨by omega, by omega⟩ (by omega) hempty

/-! ### The block written -/

/-- What a block written at `a` leaves of the window: the slot `v` at `a`, the addresses passed over MISSING, E behind it. -/
structure Written (a : Nat) (v : Slot) (r r' : Ring) : Prop where
  p : r'.p = r.p
  e : r'.e = max r.e (a + 1)
  owner : r'.owner = r.owner
  straps : r'.straps = r.straps
  slot : r'.slot a = v
  kept : ∀ x, r.p ≤ x → x < r.e → x ≠ a → r'.slot x = r.slot x
  passed : ∀ x, r.e ≤ x → x < a → r'.slot x = .missing x

/-- A block at or beyond E is placed (R33). -/
theorem written_place {r : Ring} (hr : r.Law) {a : Nat} (b : Block) (hea : r.e ≤ a) (hhi : a < r.p + r.len) :
    Written a (b.filled a .stream) r (r.place a b) := by
  have hpe := hr.2.1
  have hlen := markMissing_len (a - r.e) r.e r
  obtain ⟨hstraps, hp, -, howner, -⟩ := markMissing_frame (a - r.e) r.e r
  have hcond : (r.e ≤ a && a < r.p + r.len && (r.slot a).isEmpty) = true := by
    simp [hea, hhi, slot_empty hr hea hhi, Slot.isEmpty]
  have hmark : r.p ≤ r.e ∧ r.e + (a - r.e) ≤ r.p + r.len := ⟨hpe, by omega⟩
  have hother : ∀ x, r.p ≤ x → x < r.p + r.len → x ≠ a →
      (r.place a b).slot x = (markMissing (a - r.e) r.e r).slot x := fun x hx hx' hne => by
    rw [Ring.place, if_pos hcond]
    exact slot_setSlot_ne (lo := r.p) _ (by rw [hlen]; omega) (by rw [hlen]; omega) hne
  have hplace : r.place a b = { (markMissing (a - r.e) r.e r).setSlot a (b.filled a .stream) with e := a + 1 } := by
    rw [Ring.place, if_pos hcond]
  refine ⟨by rw [hplace]; exact hp, by rw [hplace]; show a + 1 = _; omega, by rw [hplace]; exact howner,
    by rw [hplace]; exact hstraps, ?_, fun x hx hx' hne => ?_, fun x hx hx' => ?_⟩
  · rw [hplace]
    exact slot_setSlot_same a _ (markMissing_wf _ _ hr.1)
  · rw [hother x hx (by have := hr.2.2.1; omega) hne]
    exact markMissing_other hmark ⟨hx, by have := hr.2.2.1; omega⟩ (.inl hx')
  · rw [hother x (by omega) (by omega) (by omega)]
    exact markMissing_slot hr.1 hmark ⟨hx, by omega⟩ (slot_empty hr hx (by omega))

/-- A block below E goes into the slot that holds its address (R34). -/
theorem accept_eq {r : Ring} (hr : r.Law) {a : Nat} (b : Block) (hlo : r.p ≤ a) (hhi : a < r.p + r.len)
    (hne : (r.slot a).isEmpty = false) : r.accept a b = r.setSlot a (acceptInto a b (r.slot a)) := by
  rw [Ring.accept, if_pos (holds_of_nonempty hr hlo hhi hne)]

theorem written_accept {r : Ring} (hr : r.Law) {a : Nat} (b : Block) (hlo : r.p ≤ a) (hhi : a < r.p + r.len)
    (hne : (r.slot a).isEmpty = false) : Written a (acceptInto a b (r.slot a)) r (r.accept a b) := by
  have hae := (slot_held hr hlo hhi hne).2
  rw [accept_eq hr b hlo hhi hne]
  refine ⟨rfl, by show r.e = _; omega, rfl, rfl, slot_setSlot_same a _ hr.1, fun x hx hx' hxa => ?_, fun x hx hx' => ?_⟩
  · exact slot_setSlot_ne (lo := r.p) _ ⟨hlo, hhi⟩ ⟨hx, by have := hr.2.2.1; omega⟩ hxa
  · omega

/-- The fill latch near the top of the window (R36). -/
theorem judgeLatchHigh_intake (s : State) : (judgeLatchHigh s).intake =
    { s.intake with latch := s.intake.latch || decide (s.ring.len - 8 ≤ s.ring.fullness) } := by
  unfold judgeLatchHigh
  by_cases h : s.ring.len - 8 ≤ s.ring.fullness <;> simp only [h, if_true, if_false, decide_true, decide_false,
    Bool.or_true, Bool.or_false]

/-- At or beyond E a block is placed, and the fill latch is set near the top of the window (R33, R36). -/
theorem writeBlock_beyond {s : State} {a : Nat} (b : Block) (hea : s.ring.e ≤ a) :
    (writeBlock a b s).ring = s.ring.place a b ∧ (writeBlock a b s).intake = { s.intake with
      latch := s.intake.latch || decide ((s.ring.place a b).len - 8 ≤ (s.ring.place a b).fullness) } := by
  rw [writeBlock, if_pos hea]
  exact ⟨by simp, judgeLatchHigh_intake _⟩

theorem writeBlock_below {s : State} {a : Nat} (b : Block) (hae : a < s.ring.e) :
    writeBlock a b s = { s with ring := s.ring.accept a b } := by
  rw [writeBlock, if_neg (by omega)]

/-- No write moves P (R33, R34). -/
@[simp] theorem writeBlock_p (a : Nat) (b : Block) (s : State) : (writeBlock a b s).ring.p = s.ring.p := by
  unfold writeBlock
  split
  · unfold Ring.place
    split
    · simpa [Ring.setSlot] using (markMissing_frame (a - s.ring.e) s.ring.e s.ring).2.1
    · simp
  · unfold Ring.accept
    split <;> rfl

end Sys2Proof.Machine
end

section
/-! PROOF. The Order Queue when slots change: the entry that an arrival judges (R71), the trim for play (R73). -/

namespace Sys2Proof.Machine

/-! ### Disjoint entries (R56) -/

/-- Entries of at least one address, in ascending order and disjoint. -/
def Apart (q : List Order) : Prop :=
  q.Pairwise (fun x y => x.first + x.count ≤ y.first) ∧ ∀ o ∈ q, 1 ≤ o.count

theorem pairwise_of_disjoint {q : List Order} (h : disjointOrders q = true) :
    q.Pairwise fun x y => x.first + x.count ≤ y.first := by
  induction q with
  | nil => exact .nil
  | cons a rest ih =>
    cases rest with
    | nil => simp
    | cons b rest =>
      simp only [disjointOrders, Bool.and_eq_true, decide_eq_true_eq] at h
      obtain ⟨hab, hrest⟩ := h
      have hpair := ih hrest
      refine List.pairwise_cons.mpr ⟨fun y hy => ?_, hpair⟩
      rcases List.mem_cons.mp hy with rfl | hy
      · exact hab
      · have := (List.pairwise_cons.mp hpair).1 y hy
        omega

theorem apart_of_law {p : Planner} (h : p.Law) : Apart p.queue := by
  obtain ⟨-, hdisjoint, hgood, -⟩ := h
  refine ⟨pairwise_of_disjoint hdisjoint, fun o ho => ?_⟩
  have := hgood o ho
  simp only [Order.good, Bool.and_eq_true, decide_eq_true_eq] at this
  exact this.1.1

/-- The entries around one of a disjoint queue. -/
theorem Apart.split {l r : List Order} {o : Order} (h : Apart (l ++ o :: r)) :
    (∀ x ∈ l, x.first + x.count ≤ o.first ∧ 1 ≤ x.count) ∧ (∀ y ∈ r, o.first + o.count ≤ y.first) ∧ 1 ≤ o.count := by
  obtain ⟨hpair, hcount⟩ := h
  obtain ⟨-, hor, hcross⟩ := List.pairwise_append.mp hpair
  exact ⟨fun x hx => ⟨hcross x hx o (by simp), hcount x (by simp [hx])⟩, (List.pairwise_cons.mp hor).1, hcount o (by simp)⟩

/-- An entry of a disjoint queue is the one that begins where it does. -/
theorem Apart.removeFirst {l r : List Order} {o : Order} (h : Apart (l ++ o :: r)) :
    removeFirst o.first (l ++ o :: r) = l ++ r := by
  obtain ⟨hl, hr, ho⟩ := h.split
  have hl' : l.filter (fun x => x.first != o.first) = l := List.filter_eq_self.mpr fun x hx => by
    have := hl x hx; simp only [bne_iff_ne, ne_eq]; omega
  have hr' : r.filter (fun x => x.first != o.first) = r := List.filter_eq_self.mpr fun x hx => by
    have := hr x hx; simp only [bne_iff_ne, ne_eq]; omega
  simp [Machine.removeFirst, hl', hr']

theorem Apart.replaceOrder {l r : List Order} {o : Order} (h : Apart (l ++ o :: r)) (new : Order) {s : State}
    (hq : s.planner.queue = l ++ o :: r) : replaceOrder o.first new s = setQueue (l ++ new :: r) s := by
  obtain ⟨hl, hr, ho⟩ := h.split
  have hl' : l.map (fun x => if x.first = o.first then new else x) = l :=
    (List.map_congr_left (g := id) fun x hx => if_neg (by have := hl x hx; omega)).trans (List.map_id l)
  have hr' : r.map (fun x => if x.first = o.first then new else x) = r :=
    (List.map_congr_left (g := id) fun x hx => if_neg (by have := hr x hx; omega)).trans (List.map_id r)
  rw [Machine.replaceOrder, hq, List.map_append, List.map_cons, hl', hr', if_pos rfl]

/-- An entry cut to a part of itself, or taken out, leaves the queue disjoint. -/
theorem Apart.shrink {l r : List Order} {o : Order} {new : Option Order} (h : Apart (l ++ o :: r))
    (hnew : ∀ x ∈ new, o.first ≤ x.first ∧ x.first + x.count ≤ o.first + o.count ∧ 1 ≤ x.count) :
    Apart (l ++ (new.toList ++ r)) := by
  obtain ⟨hl, hr, ho⟩ := h.split
  obtain ⟨hpair, hcount⟩ := h
  obtain ⟨hpl, hpor, hcross⟩ := List.pairwise_append.mp hpair
  cases new with
  | none =>
    exact ⟨hpair.sublist (by simp), fun x hx => hcount x (by simp only [List.mem_append, List.mem_cons] at hx ⊢; tauto)⟩
  | some n =>
    obtain ⟨hlo, hhi, hn⟩ := hnew n rfl
    refine ⟨List.pairwise_append.mpr ⟨hpl, List.pairwise_cons.mpr ⟨fun y hy => ?_, (List.pairwise_cons.mp hpor).2⟩,
      fun x hx y hy => ?_⟩, fun x hx => ?_⟩
    · have := hr y hy; omega
    · rcases List.mem_cons.mp hy with rfl | hy
      · have := (hl x hx).1; omega
      · exact hcross x hx y (List.mem_cons_of_mem _ hy)
    · simp only [Option.toList_some, List.cons_append, List.nil_append, List.mem_append, List.mem_cons] at hx
      rcases hx with hx | rfl | hx
      · exact hcount x (by simp [hx])
      · exact hn
      · exact hcount x (by simp [hx])

/-! ### The trim for play (R73) -/

/-- The D-port's set after the entries that `low` passes have been withdrawn, in ascending order (log 40). -/
def withdrawnTold (low : Nat) (q : List Order) (d : List (Latched DEvent)) : List (Latched DEvent) :=
  (q.filter fun o => (o.behind low).isNone).foldl
    (fun d o => latch DEvent.pos (.orderWithdrawn o.toldTag o.first) d) d

theorem withdrawnTold_append (low : Nat) (q r : List Order) (d : List (Latched DEvent)) :
    withdrawnTold low (q ++ r) d = withdrawnTold low r (withdrawnTold low q d) := by
  simp [withdrawnTold, List.foldl_append]

theorem withdrawnTold_cons (low : Nat) (o : Order) (r : List Order) (d : List (Latched DEvent)) :
    withdrawnTold low (o :: r) d = withdrawnTold low r
      (if (o.behind low).isNone then latch DEvent.pos (.orderWithdrawn o.toldTag o.first) d else d) := by
  unfold withdrawnTold
  rw [List.filter_cons]
  split <;> rfl

theorem mem_withdrawnTold {x : Latched DEvent} (h : x.ev.pos ≠ 2) (low : Nat) (q : List Order) (d : List (Latched DEvent)) :
    x ∈ withdrawnTold low q d ↔ x ∈ d := by
  induction q generalizing d with
  | nil => rfl
  | cons o r ih =>
    rw [withdrawnTold_cons, ih]
    split
    · exact mem_latch_other h d
    · rfl

/-- With nothing passed nothing is told. -/
theorem withdrawnTold_none {low : Nat} {q : List Order} (h : ∀ o ∈ q, (o.behind low).isNone = false)
    (d : List (Latched DEvent)) : withdrawnTold low q d = d := by
  have hnil : q.filter (fun o => (o.behind low).isNone) = [] := List.filter_eq_nil_iff.mpr fun o ho => by simp [h o ho]
  simp [withdrawnTold, hnil]

/-- The record keeps the last entry passed. -/
theorem withdrawnTold_last {low : Nat} {l r : List Order} {o : Order} (ho : (o.behind low).isNone = true)
    (hr : ∀ x ∈ r, (x.behind low).isNone = false) (d : List (Latched DEvent)) :
    ∃ n, ⟨DEvent.orderWithdrawn o.toldTag o.first, n⟩ ∈ withdrawnTold low (l ++ o :: r) d := by
  rw [withdrawnTold_append, withdrawnTold_cons, if_pos ho, withdrawnTold_none hr]
  exact exists_mem_latch ..

theorem behind_none_iff (low : Nat) (o : Order) : (o.behind low).isNone = true ↔ o.first + o.count ≤ low := by
  unfold Order.behind; split <;> simp_all

theorem behind_some {low : Nat} {o x : Order} (ho : 1 ≤ o.count) (h : o.behind low = some x) :
    o.first ≤ x.first ∧ x.first + x.count = o.first + o.count ∧ 1 ≤ x.count := by
  unfold Order.behind at h
  split at h
  · cases h
  · cases h
    dsimp only
    omega

theorem toldTag_eq (o : Order) : o.tagOr0 = o.toldTag := by
  unfold Order.tagOr0 Order.toldTag; cases o.issue <;> rfl

/-- One entry trimmed: what is left of it stays in its place, and one left empty is withdrawn. -/
theorem trimForPlay_eq {low : Nat} {l r : List Order} {o : Order} {s : State} (h : Apart (l ++ o :: r))
    (hq : s.planner.queue = l ++ o :: r) : trimForPlay low o s =
      match o.behind low with
      | some x => setQueue (l ++ x :: r) s
      | none => raiseD (.orderWithdrawn o.toldTag o.first) (dueScan (setQueue (l ++ r) s)) := by
  obtain ⟨-, -, ho⟩ := h.split
  unfold trimForPlay Order.behind
  split
  · split
    · simp only [withdrawOrder, removeOrder, hq, h.removeFirst, toldTag_eq]
    · have hmax : max o.first low = low := by omega
      simp only [hmax]
      exact h.replaceOrder _ hq
  · have hmax : max o.first low = o.first := by omega
    have hcount : o.first + o.count - o.first = o.count := by omega
    rw [if_neg (by omega)]
    simp only [hmax, hcount]
    rw [setQueue, ← hq]

/-- The trim of a whole queue. -/
structure Trimmed (low : Nat) (s t : State) : Prop where
  state : t = { s with
    planner := { s.planner with
      queue := s.planner.queue.filterMap (Order.behind low)
      scanDue := s.planner.scanDue || s.planner.queue.any fun o => (o.behind low).isNone }
    events := t.events }
  sSet : t.events.sSet = s.events.sSet
  counters : t.events.counters = s.events.counters
  dSet : t.events.dSet = withdrawnTold low s.planner.queue s.events.dSet

theorem trimFold {low : Nat} (l r : List Order) (s : State) (h : Apart (l ++ r)) (hq : s.planner.queue = l ++ r) :
    let t := r.foldl (fun s o => trimForPlay low o s) s
    (t = { s with
      planner := { s.planner with
        queue := l ++ r.filterMap (Order.behind low)
        scanDue := s.planner.scanDue || r.any fun o => (o.behind low).isNone }
      events := t.events }) ∧
    t.events.sSet = s.events.sSet ∧ t.events.counters = s.events.counters ∧
    t.events.dSet = withdrawnTold low r s.events.dSet := by
  induction r generalizing l s with
  | nil =>
    refine ⟨?_, rfl, rfl, rfl⟩
    show s = _
    simp only [List.filterMap_nil, ← hq, List.any_nil, Bool.or_false]
    rfl
  | cons o r ih =>
    intro t
    have hstep := trimForPlay_eq (low := low) h hq
    have happart : Apart (l ++ ((o.behind low).toList ++ r)) := h.shrink fun x hx => by
      have := behind_some h.split.2.2 hx; omega
    cases hb : o.behind low with
    | none =>
      rw [hb] at hstep happart
      obtain ⟨hstate, hs, hc, hd⟩ := ih l (trimForPlay low o s) happart (by rw [hstep]; rfl)
      refine ⟨?_, ?_, ?_, ?_⟩
      · simp only [t, List.foldl_cons]
        rw [hstate, hstep]
        simp [hb, raiseD, dueScan, setQueue]
      · simpa [t, hstep] using hs
      · simpa [t, hstep] using hc
      · rw [withdrawnTold_cons, hb]
        simpa [t, hstep] using hd
    | some x =>
      rw [hb] at hstep happart
      obtain ⟨hstate, hs, hc, hd⟩ := ih (l ++ [x]) (trimForPlay low o s) (by simpa using happart)
        (by rw [hstep]; simp [setQueue])
      refine ⟨?_, ?_, ?_, ?_⟩
      · simp only [t, List.foldl_cons]
        rw [hstate, hstep]
        simp [hb, setQueue]
      · simpa [t, hstep] using hs
      · simpa [t, hstep] using hc
      · rw [withdrawnTold_cons, hb]
        simpa [t, hstep] using hd

theorem trimmed_trimAll (low : Nat) {s : State} (h : Apart s.planner.queue) : Trimmed low s (trimAll low s) := by
  obtain ⟨hstate, hs, hc, hd⟩ := trimFold (low := low) [] s.planner.queue s h rfl
  exact ⟨hstate, hs, hc, hd⟩

end Sys2Proof.Machine
end

section
/-! PROOF. The entry that covers an accepted block, judged by its slots (R71). -/

namespace Sys2Proof.Machine

/-! ### What the slots leave of an entry -/

/-- In an ascending list each element lies between the first and the last. -/
theorem between_of_pairwise {a : Nat} {rest : List Nat} (h : (a :: rest).Pairwise (· < ·)) :
    ∀ x ∈ a :: rest, a ≤ x ∧ x ≤ rest.getLastD a := by
  induction rest generalizing a with
  | nil => simp
  | cons b rest ih =>
    obtain ⟨hall, hrest⟩ := List.pairwise_cons.mp h
    have hb := ih hrest
    have hab := hall b (by simp)
    rw [List.getLastD_cons]
    intro x hx
    rcases List.mem_cons.mp hx with rfl | hx
    · have := hb b (by simp); omega
    · have := hb x hx; omega

/-- The bad addresses of an entry ascend. -/
theorem badIn_pairwise (s : State) (first count : Nat) : (s.badIn first count).Pairwise (· < ·) :=
  (List.pairwise_lt_range' (s := first) (n := count) 1 (by decide)).filter _

theorem mem_badIn {s : State} {first count a : Nat} :
    a ∈ s.badIn first count ↔ (first ≤ a ∧ a < first + count) ∧ s.badAt a = true := by
  simp [State.badIn, List.mem_range'_1]

theorem leftBad_none {s : State} {o : Order} : o.leftBad s = none ↔ s.badIn o.first o.count = [] := by
  unfold Order.leftBad State.badIn
  split <;> simp_all

/-- What is left of an entry is the model's trim of it. -/
theorem leftBad_eq_trimTo {s : State} {o : Order} (h : s.badIn o.first o.count ≠ []) :
    o.leftBad s = some (trimTo (s.badIn o.first o.count) o) := by
  unfold Order.leftBad
  rw [← State.badIn]
  cases hb : s.badIn o.first o.count with
  | nil => exact absurd hb h
  | cons a rest => simp only [trimTo, List.headD_cons, List.getLastD_cons]

/-- It lies in the entry, and covers each bad address of it. -/
theorem leftBad_some {s : State} {o x : Order} (h : o.leftBad s = some x) :
    o.first ≤ x.first ∧ x.first + x.count ≤ o.first + o.count ∧ 1 ≤ x.count ∧ x.issue = o.issue ∧
    ∀ a, o.covers a = true → s.badAt a = true → x.covers a = true := by
  have hne : s.badIn o.first o.count ≠ [] := fun hnil => by rw [leftBad_none.mpr hnil] at h; cases h
  rw [leftBad_eq_trimTo hne] at h
  cases h
  obtain ⟨a, rest, hb⟩ := List.exists_cons_of_ne_nil hne
  have hbetween := between_of_pairwise (hb ▸ badIn_pairwise s o.first o.count)
  have hfirst := mem_badIn.mp (show a ∈ s.badIn o.first o.count by rw [hb]; simp)
  have hlast := mem_badIn.mp (show rest.getLastD a ∈ s.badIn o.first o.count by
    rw [hb]; exact List.getLastD_mem_cons)
  have htrim : trimTo (s.badIn o.first o.count) o = { o with first := a, count := rest.getLastD a + 1 - a } := by
    simp only [trimTo, hb, List.headD_cons, List.getLastD_cons]
  have hle := (hbetween a (by simp)).2
  rw [htrim]
  refine ⟨hfirst.1.1, ?_, ?_, rfl, fun c hc hbad => ?_⟩
  · dsimp only; omega
  · dsimp only; omega
  · have hin := mem_badIn.mpr ⟨by simpa [Order.covers] using hc, hbad⟩
    have := hbetween c (hb ▸ hin)
    simp only [Order.covers, Bool.and_eq_true, decide_eq_true_eq]
    omega

/-- What is left of an entry goes by the slots and the threshold alone. -/
theorem leftBad_congr {s t : State} (h : t.badAt = s.badAt) (o : Order) : o.leftBad t = o.leftBad s := by
  unfold Order.leftBad; rw [h]

theorem badAt_congr {s t : State} (hring : t.ring = s.ring) (hsession : t.session = s.session)
    (hparams : t.params = s.params) : t.badAt = s.badAt := funext fun a => by
  simp only [State.badAt, State.slot, State.w, State.rate, hring, hsession, hparams]

/-! ### The entry judged -/

/-- What an arrival at `a` leaves of an entry (R71). -/
def judgedAt (s : State) (a : Nat) (o : Order) : Option Order := if o.covers a then o.leftBad s else some o

/-- The judgement of the entry that covers `a`, by what there is of it in the queue. -/
inductive Judged (a : Nat) (s : State) : State → Prop where
  | uncovered (h : ∀ o ∈ s.planner.queue, o.covers a = false) : Judged a s s
  | trimmed (l r : List Order) (o x : Order) (hq : s.planner.queue = l ++ o :: r) (ho : o.covers a = true)
      (hx : o.leftBad s = some x) : Judged a s (setQueue (l ++ x :: r) s)
  | completed (l r : List Order) (o : Order) (i : Issue) (hq : s.planner.queue = l ++ o :: r) (ho : o.covers a = true)
      (hx : o.leftBad s = none) (hi : o.issue = some i) :
      Judged a s (s |> setQueue (l ++ r) |> dueScan |> setFails 0 |> raiseD (.orderComplete i.tag))
  | withdrawn (l r : List Order) (o : Order) (hq : s.planner.queue = l ++ o :: r) (ho : o.covers a = true)
      (hx : o.leftBad s = none) (hi : o.issue = none) :
      Judged a s (s |> setQueue (l ++ r) |> dueScan |> raiseD (.orderWithdrawn 0 o.first))

theorem judged_judgeCovering (a : Nat) {s : State} (h : Apart s.planner.queue) : Judged a s (judgeCovering a s) := by
  unfold judgeCovering
  cases hf : s.planner.queue.find? (fun o => o.covers a) with
  | none => exact .uncovered fun o ho => by simpa using List.find?_eq_none.mp hf o ho
  | some o =>
    obtain ⟨ho, l, r, hq, -⟩ := List.find?_eq_some_iff_append.mp hf
    rw [hq] at h
    unfold judgeArrival
    dsimp only
    split
    · rename_i hempty
      have hnone := leftBad_none.mpr (List.isEmpty_iff.mp hempty)
      have hremove : removeOrder o.first s = dueScan (setQueue (l ++ r) s) := by
        simp only [removeOrder, hq, h.removeFirst]
      split
      · rename_i i hi
        simp only [hremove]
        exact .completed l r o i hq ho hnone hi
      · rename_i hi
        simp only [withdrawOrder, hremove, Order.tagOr0, hi]
        exact .withdrawn l r o hq ho hnone hi
    · rename_i hne
      rw [h.replaceOrder _ hq]
      exact .trimmed l r o _ hq ho (leftBad_eq_trimTo (by simpa using hne))

/-- Of a disjoint queue one entry at most covers an address. -/
theorem covers_unique {l r : List Order} {o : Order} {a : Nat} (h : Apart (l ++ o :: r)) (ho : o.covers a = true) :
    (∀ x ∈ l, x.covers a = false) ∧ ∀ x ∈ r, x.covers a = false := by
  obtain ⟨hl, hr, -⟩ := h.split
  simp only [Order.covers, Bool.and_eq_true, decide_eq_true_eq, Bool.and_eq_false_iff, decide_eq_false_iff_not] at *
  refine ⟨fun x hx => ?_, fun x hx => ?_⟩
  · have := hl x hx; omega
  · have := hr x hx; omega

theorem filterMap_judgedAt {s : State} {a : Nat} {l r : List Order} {o : Order} (h : Apart (l ++ o :: r))
    (ho : o.covers a = true) : (l ++ o :: r).filterMap (judgedAt s a) = l ++ ((o.leftBad s).toList ++ r) := by
  obtain ⟨hl, hr⟩ := covers_unique h ho
  have hkeep : ∀ q : List Order, (∀ x ∈ q, x.covers a = false) → q.filterMap (judgedAt s a) = q := fun q hq =>
    (List.filterMap_congr fun x hx => by simp [judgedAt, hq x hx]).trans (List.filterMap_some)
  rw [List.filterMap_append, List.filterMap_cons, hkeep l hl, hkeep r hr]
  simp only [judgedAt, ho, if_true]
  cases o.leftBad s <;> rfl

/-! ### What the judgement leaves -/

/-- The completion of an ISSUED entry ends the consecutive failures (R71). -/
def completes (s : State) (a : Nat) (o : Order) : Bool := o.covers a && o.issue.isSome && (o.leftBad s).isNone

theorem any_split {p : Order → Bool} {l r : List Order} {o : Order} (hl : ∀ x ∈ l, p x = false)
    (hr : ∀ x ∈ r, p x = false) : (l ++ o :: r).any p = p o := by
  have hl' : l.any p = false := by simpa using hl
  have hr' : r.any p = false := by simpa using hr
  simp [List.any_append, hl', hr']

/-- A predicate of covering entries holds in a disjoint queue where it holds of the one that covers. -/
theorem any_covering {p : Order → Bool} {a : Nat} {l r : List Order} {o : Order} (h : Apart (l ++ o :: r))
    (ho : o.covers a = true) (hp : ∀ x, x.covers a = false → p x = false) : (l ++ o :: r).any p = p o := by
  obtain ⟨hl, hr⟩ := covers_unique h ho
  exact any_split (fun x hx => hp x (hl x hx)) fun x hx => hp x (hr x hx)

theorem judgedAt_uncovered {s : State} {a : Nat} {o : Order} (h : o.covers a = false) : judgedAt s a o = some o := by
  simp [judgedAt, h]

/-- The judgement shows in the queue, the failure count, the scan that it calls for and the D-port's set. -/
structure JudgedTo (a : Nat) (s t : State) : Prop where
  state : t = { s with
    planner := { s.planner with
      queue := s.planner.queue.filterMap (judgedAt s a)
      fails := if s.planner.queue.any (completes s a) then 0 else s.planner.fails
      scanDue := s.planner.scanDue || s.planner.queue.any fun o => (judgedAt s a o).isNone }
    events := t.events }
  sSet : t.events.sSet = s.events.sSet
  counters : t.events.counters = s.events.counters
  dSet : ∀ x, x.ev.pos ≠ 1 → x.ev.pos ≠ 2 → (x ∈ t.events.dSet ↔ x ∈ s.events.dSet)
  apart : Apart t.planner.queue
  covers : s.badAt a = true → (t.planner.queue.any fun o => o.covers a) = s.planner.queue.any fun o => o.covers a
  removed : ∀ o ∈ s.planner.queue, o.covers a = true → o.leftBad s = none →
    match o.issue with
    | some i => ∃ n, ⟨DEvent.orderComplete i.tag, n⟩ ∈ t.events.dSet
    | none => ∃ n, ⟨DEvent.orderWithdrawn 0 o.first, n⟩ ∈ t.events.dSet

/-- The one entry that covers the address. -/
theorem eq_of_covers {l r : List Order} {o x : Order} {a : Nat} (h : Apart (l ++ o :: r)) (ho : o.covers a = true)
    (hx : x ∈ l ++ o :: r) (hxa : x.covers a = true) : x = o := by
  obtain ⟨hl, hr⟩ := covers_unique h ho
  rcases List.mem_append.mp hx with hx | hx
  · rw [hl x hx] at hxa; cases hxa
  · rcases List.mem_cons.mp hx with hx | hx
    · exact hx
    · rw [hr x hx] at hxa; cases hxa

theorem Judged.to {a : Nat} {s t : State} (h : Apart s.planner.queue) (hj : Judged a s t) : JudgedTo a s t := by
  have hpred : ∀ x : Order, x.covers a = false → completes s a x = false := fun x hx => by simp [completes, hx]
  have hgone : ∀ x : Order, x.covers a = false → (judgedAt s a x).isNone = false := fun x hx => by
    simp [judgedAt_uncovered hx]
  cases hj with
  | uncovered hnone =>
    have hq : s.planner.queue.filterMap (judgedAt s a) = s.planner.queue :=
      (List.filterMap_congr fun x hx => judgedAt_uncovered (hnone x hx)).trans List.filterMap_some
    have hp : s.planner.queue.any (completes s a) = false := by simpa using fun x hx => hpred x (hnone x hx)
    have hg : (s.planner.queue.any fun o => (judgedAt s a o).isNone) = false :=
      List.any_eq_false.mpr fun x hx => by simp [judgedAt_uncovered (hnone x hx)]
    refine ⟨?_, rfl, rfl, fun _ _ _ => .rfl, h, fun _ => rfl, fun o ho hc => ?_⟩
    · simp [hq, hp, hg]
    · rw [hnone o ho] at hc; cases hc
  | trimmed l r o x hq ho hx =>
    rw [hq] at h
    obtain ⟨hlo, hhi, hcount, hissue, hcov⟩ := leftBad_some hx
    have hshrink : Apart (l ++ ((some x).toList ++ r)) := h.shrink fun y hy => by cases hy; exact ⟨hlo, hhi, hcount⟩
    refine ⟨?_, rfl, rfl, fun _ _ _ => .rfl, hshrink, fun hbad => ?_, fun o' ho' hc hnone => ?_⟩
    · rw [hq, filterMap_judgedAt h ho, any_covering h ho hpred, any_covering h ho hgone]
      simp [completes, judgedAt, ho, hx, setQueue]
    · have hxa := hcov a ho hbad
      rw [hq, any_covering h ho fun _ => id, ho]
      exact (any_covering (o := x) hshrink hxa fun _ => id).trans hxa
    · rw [hq] at ho'
      rw [eq_of_covers h ho ho' hc, hx] at hnone; cases hnone
  | completed l r o i hq ho hx hi =>
    rw [hq] at h
    have hshrink : Apart (l ++ ((none : Option Order).toList ++ r)) := h.shrink fun y hy => by cases hy
    refine ⟨?_, rfl, rfl, fun y h1 _ => mem_latch_other h1 _, hshrink, fun hbad => ?_, fun o' ho' hc _ => ?_⟩
    · rw [hq, filterMap_judgedAt h ho, any_covering h ho hpred, any_covering h ho hgone]
      simp [completes, judgedAt, ho, hx, hi, setQueue, dueScan, setFails, raiseD]
    · have hin := mem_badIn.mpr ⟨by simpa [Order.covers] using ho, hbad⟩
      rw [leftBad_none.mp hx] at hin; cases hin
    · rw [hq] at ho'
      rw [eq_of_covers h ho ho' hc, hi]
      exact exists_mem_latch ..
  | withdrawn l r o hq ho hx hi =>
    rw [hq] at h
    have hshrink : Apart (l ++ ((none : Option Order).toList ++ r)) := h.shrink fun y hy => by cases hy
    refine ⟨?_, rfl, rfl, fun y _ h2 => mem_latch_other h2 _, hshrink, fun hbad => ?_, fun o' ho' hc _ => ?_⟩
    · rw [hq, filterMap_judgedAt h ho, any_covering h ho hpred, any_covering h ho hgone]
      simp [completes, judgedAt, ho, hx, hi, setQueue, dueScan, raiseD]
    · have hin := mem_badIn.mpr ⟨by simpa [Order.covers] using ho, hbad⟩
      rw [leftBad_none.mp hx] at hin; cases hin
    · rw [hq] at ho'
      rw [eq_of_covers h ho ho' hc, hi]
      exact exists_mem_latch ..

theorem judgedTo_judgeCovering (a : Nat) {s : State} (h : Apart s.planner.queue) : JudgedTo a s (judgeCovering a s) :=
  (judged_judgeCovering a h).to h

end Sys2Proof.Machine
end

section
/-! PROOF. The end of an event, and what the engine makes of slots that changed (R62, R37, R100, R103). -/

namespace Sys2Proof.Machine

/-! ### The end of an event (log 15) -/

theorem workWaits_iff (p : Planner) : p.workWaits = true ↔ workIn p.queue := by
  simp [Planner.workWaits, workIn, Order.isIssued]

/-- What the end of an event raises on the D-port. -/
theorem tellWork_dSet (b u s : State) : (tellWork b u s).events.dSet =
    if s.planner.workWaits && !(b.planner.workWaits && u.planner.workWaits)
    then latch DEvent.pos .orderAvailable s.events.dSet else s.events.dSet := by
  unfold tellWork; split <;> rfl

theorem tellPause_dSet (b s : State) : (tellPause b s).events.dSet =
    if b.pauseFlag = s.pauseFlag then s.events.dSet
    else latch DEvent.pos (.pauseChanged s.pauseFlag) s.events.dSet := by
  unfold tellPause; split <;> rfl

theorem mem_tellWork_dSet {x : Latched DEvent} (h : x.ev.pos ≠ 0) (b u s : State) :
    x ∈ (tellWork b u s).events.dSet ↔ x ∈ s.events.dSet := by
  rw [tellWork_dSet]
  split
  · exact mem_latch_other h _
  · rfl

theorem mem_tellPause_dSet {x : Latched DEvent} (h : x.ev.pos ≠ 3) (b s : State) :
    x ∈ (tellPause b s).events.dSet ↔ x ∈ s.events.dSet := by
  rw [tellPause_dSet]
  split
  · rfl
  · exact mem_latch_other h _

@[simp] theorem finish_sSet (b s : State) : (finish b s).events.sSet = s.events.sSet ∧
    (finish b s).events.counters = s.events.counters := by
  unfold finish tellPause tellWork
  constructor <;> (split <;> split <;> simp)

theorem mem_finish_dSet {x : Latched DEvent} (h0 : x.ev.pos ≠ 0) (h3 : x.ev.pos ≠ 3) (b s : State) :
    x ∈ (finish b s).events.dSet ↔ x ∈ s.events.dSet := by
  rw [finish, mem_tellPause_dSet h3, mem_tellWork_dSet h0]
  simp

/-- The planner at the end of an event: the scan that was due, made in the state that the event ends in. -/
theorem finish_planner (b s : State) : (finish b s).planner = { s.planner with
    queue := if s.planner.scanDue then scanned (finish b s) s.planner.queue else s.planner.queue
    scanDue := false } := by
  have hplanner : (finish b s).planner = (scanIfDue s).planner := by simp [finish]
  rw [hplanner]
  cases hd : s.planner.scanDue with
  | true =>
    have hscan : (scan s).planner.queue = scanned (finish b s) s.planner.queue :=
      scan_queue_congr (by simp) (by simp) (by simp) (by simp) (by simp) rfl
    rw [scanIfDue_due hd, hscan, if_pos rfl]
  | false => rw [scanIfDue_quiet hd, if_neg Bool.false_ne_true, ← hd]

/-- ORDER_AVAILABLE at the end of an event that raised none before (R62). -/
theorem finish_workTold {s u : State}
    (h : ∀ x : Latched DEvent, x.ev.pos = 0 → (x ∈ u.events.dSet ↔ x ∈ s.events.dSet)) :
    WorkTold u.planner.queue s (finish s u) := by
  have hplanner : (finish s u).planner = (scanIfDue u).planner := by simp [finish]
  have hmem : ∀ x : Latched DEvent, x.ev.pos = 0 →
      (x ∈ (finish s u).events.dSet ↔ x ∈ (tellWork s u (scanIfDue u)).events.dSet) :=
    fun x hx => mem_tellPause_dSet (by omega) _ _
  have hcond : ((scanIfDue u).planner.workWaits && !(s.planner.workWaits && u.planner.workWaits)) = true ↔
      workIn (finish s u).planner.queue ∧ ¬ (workIn s.planner.queue ∧ workIn u.planner.queue) := by
    rw [hplanner, ← workWaits_iff, ← workWaits_iff, ← workWaits_iff, Bool.and_eq_true, Bool.not_eq_true',
      Bool.eq_false_iff, Ne, Bool.and_eq_true]
  rw [tellWork_dSet] at hmem
  refine ⟨fun hw hnot => ?_, fun hquiet x hin hx => ?_⟩
  · obtain ⟨n, hn⟩ := exists_mem_latch (pos := DEvent.pos) .orderAvailable (scanIfDue u).events.dSet
    refine ⟨n, (hmem _ rfl).mpr ?_⟩
    rwa [if_pos (hcond.mpr ⟨hw, hnot⟩)]
  · have hin' := (hmem x hx).mp hin
    rw [if_neg (mt hcond.mp (by tauto))] at hin'
    exact (h x hx).mp (by simpa using hin')

/-- PAUSE_CHANGED at the end of an event that raised none before (R37). -/
theorem finish_flagTold {s u : State}
    (h : ∀ x : Latched DEvent, x.ev.pos = 3 → (x ∈ u.events.dSet ↔ x ∈ s.events.dSet)) : FlagTold s (finish s u) := by
  have hflag : (finish s u).pauseFlag = (tellWork s u (scanIfDue u)).pauseFlag := by simp [State.pauseFlag, finish]
  have hdSet := tellPause_dSet s (tellWork s u (scanIfDue u))
  rw [← hflag] at hdSet
  refine ⟨fun hne => ?_, fun heq x hin hx => ?_⟩
  · rw [if_neg hne] at hdSet
    obtain ⟨n, hn⟩ := exists_mem_latch (pos := DEvent.pos) (.pauseChanged (finish s u).pauseFlag)
      (tellWork s u (scanIfDue u)).events.dSet
    exact ⟨n, hdSet ▸ hn⟩
  · rw [if_pos heq] at hdSet
    have hin' := (mem_tellWork_dSet (by rw [hx]; decide) _ _ _).mp (hdSet ▸ hin)
    exact (h x hx).mp (by simpa using hin')

/-! ### Play begins or goes on (R100, R103) -/

/-- Taking a play state raises PLAY_STATE_CHANGED when it is another one (R91). -/
theorem setPlay_sSet (p : Play) (s : State) : (setPlay p s).events.sSet =
    if p = s.engine.play then s.events.sSet
    else latch SEvent.pos (.playStateChanged p s.engine.intent) s.events.sSet := by
  unfold setPlay; dsimp only; split <;> rfl

@[simp] theorem setPlay_rest (p : Play) (s : State) : (setPlay p s).events.dSet = s.events.dSet ∧
    (setPlay p s).events.counters = s.events.counters := by
  unfold setPlay; dsimp only; split <;> exact ⟨rfl, rfl⟩

theorem mem_setPlay_sSet {x : Latched SEvent} (h : x.ev.pos ≠ 0) (p : Play) (s : State) :
    x ∈ (setPlay p s).events.sSet ↔ x ∈ s.events.sSet := by
  rw [setPlay_sSet]
  split
  · rfl
  · exact mem_latch_other h _

theorem setPlay_engine (p : Play) (s : State) : (setPlay p s).engine =
    { s.engine with play := p, anticipate := p.producing && s.engine.anticipate } := by
  unfold setPlay; dsimp only; split <;> rfl

theorem setPlay_told {p : Play} {s : State} (h : p ≠ s.engine.play) :
    ∃ n, ⟨SEvent.playStateChanged p s.engine.intent, n⟩ ∈ (setPlay p s).events.sSet := by
  rw [setPlay_sSet, if_neg h]
  exact exists_mem_latch ..

theorem setPlay_eq (p : Play) (s : State) : setPlay p s = { s with
    engine := { s.engine with play := p, anticipate := p.producing && s.engine.anticipate }
    events := (setPlay p s).events } := by
  unfold setPlay; dsimp only; split <;> rfl

/-- Play in an opened slot P: what it leaves of the queue and what it raises (R92, R73). -/
structure Opens (s t : State) : Prop where
  state : t = { s with
    engine := opened s.engine
    planner := { s.planner with
      queue := s.planner.queue.filterMap (Order.behind (s.ring.p + 1))
      scanDue := s.planner.scanDue || s.planner.queue.any fun o => (o.behind (s.ring.p + 1)).isNone }
    events := t.events }
  told : s.engine.play ≠ .playing → ∃ n, ⟨SEvent.playStateChanged .playing s.engine.intent, n⟩ ∈ t.events.sSet
  sSet : ∀ x : Latched SEvent, x.ev.pos ≠ 0 → (x ∈ t.events.sSet ↔ x ∈ s.events.sSet)
  dSet : t.events.dSet = withdrawnTold (s.ring.p + 1) s.planner.queue s.events.dSet
  counters : t.events.counters = s.events.counters

theorem opens_openAndPlay {s : State} (h : Apart s.planner.queue) : Opens s (openAndPlay s) := by
  obtain ⟨hstate, hs, hc, hd⟩ := trimmed_trimAll (s.ring.p + 1) (s := { s with engine := { s.engine with slotOpen := true } }) h
  have hopen : openAndPlay s = setPlay .playing (dropWaits (openSlot s)) := rfl
  have hslot : openSlot s = _ := hstate
  rw [hopen]
  refine ⟨?_, fun hne => ?_, fun x hx => ?_, ?_, ?_⟩
  · rw [setPlay_eq, hslot]; rfl
  · have hne' : Play.playing ≠ (dropWaits (openSlot s)).engine.play := by rw [hslot]; exact Ne.symm hne
    have htold := setPlay_told hne'
    rw [show (dropWaits (openSlot s)).engine.intent = s.engine.intent by rw [hslot]; rfl] at htold
    exact htold
  · rw [mem_setPlay_sSet hx]
    show x ∈ (openSlot s).events.sSet ↔ _
    rw [show (openSlot s).events.sSet = _ from hs]
  · rw [(setPlay_rest ..).1]
    exact hd
  · rw [(setPlay_rest ..).2]
    exact hc

/-- The target that R123 derives. -/
theorem concealTarget_eq (s : State) : s.concealTarget = concealAim s.engine.anticipate s.conceal := rfl

theorem concealAim_cases (anticipate : Bool) (c : Conceal) :
    concealAim anticipate c = 0 ∨ concealAim anticipate c = 4096 := by
  unfold concealAim; split <;> simp

/-- The gains as STARVED ends (R100). -/
theorem setConcealGain_zero (s : State) :
    setConcealGain 0 s = { s with conceal := gainsFromStarved s.params s.engine.anticipate s.conceal } := by
  unfold setConcealGain gainsFromStarved
  rw [concealTarget_eq]
  rcases concealAim_cases s.engine.anticipate s.conceal with h | h <;> simp [h, rampStep, stepOf]

/-- The gains as PRIMING ends (R103). -/
theorem setConcealGain_full (s : State) : setConcealGain 4096 (setPlayTarget 4096 s) =
    { s with conceal := gainsFromPriming s.params s.engine.anticipate s.conceal } := by
  have htarget : (setPlayTarget 4096 s).concealTarget = concealAim s.engine.anticipate s.conceal := by
    unfold setPlayTarget; dsimp only; split <;> rfl
  unfold setConcealGain gainsFromPriming
  rw [htarget]
  unfold setPlayTarget
  by_cases hp : (4096 : Nat) = s.conceal.gpTarget
  · rcases concealAim_cases s.engine.anticipate s.conceal with h | h <;> simp [h, ← hp, rampStep, stepOf]
  · have hp' : s.conceal.gpTarget ≠ 4096 := Ne.symm hp
    rcases concealAim_cases s.engine.anticipate s.conceal with h | h <;> simp [h, hp, hp', rampStep, stepOf]

/-- What is left of an entry once play begins, or not (R73). -/
def passedBy (begins : Bool) (low : Nat) (o : Order) : Option Order := if begins then o.behind low else some o

theorem passedBy_true (low : Nat) : passedBy true low = Order.behind low := rfl

theorem filterMap_passedBy_false (low : Nat) (q : List Order) : q.filterMap (passedBy false low) = q :=
  (List.filterMap_congr fun _ _ => if_neg Bool.false_ne_true).trans List.filterMap_some

/-- The engine's reaction to slots that changed, before T. -/
structure Reacted (s t : State) : Prop where
  planner : t.planner = { s.planner with
    queue := s.planner.queue.filterMap (passedBy (playBegins s s) (s.ring.p + 1))
    scanDue := s.planner.scanDue || s.planner.queue.any fun o => (passedBy (playBegins s s) (s.ring.p + 1) o).isNone }
  engine : t.engine = if playBegins s s then opened s.engine else s.engine
  conceal : t.conceal = if starvedEnds s s then gainsFromStarved s.params s.engine.anticipate s.conceal
    else if primingEnds s s then gainsFromPriming s.params s.engine.anticipate s.conceal else s.conceal
  ring : t.ring = s.ring
  intake : t.intake = s.intake
  told : playBegins s s = true → ∃ n, ⟨SEvent.playStateChanged .playing s.engine.intent, n⟩ ∈ t.events.sSet
  dSet : t.events.dSet = if playBegins s s then withdrawnTold (s.ring.p + 1) s.planner.queue s.events.dSet
    else s.events.dSet
  counters : t.events.counters = s.events.counters

theorem Reacted.of_opens {s t : State} {c : Conceal} (ho : Opens s t) (hb : playBegins s s = true)
    (hc : c = if starvedEnds s s then gainsFromStarved s.params s.engine.anticipate s.conceal
      else if primingEnds s s then gainsFromPriming s.params s.engine.anticipate s.conceal else s.conceal) :
    Reacted s { t with conceal := c } := by
  obtain ⟨hstate, htold, -, hdSet, hcounters⟩ := ho
  have hplay : s.engine.play ≠ .playing := fun hp => by simp [playBegins, starvedEnds, primingEnds, hp] at hb
  refine ⟨?_, ?_, hc, ?_, ?_, fun _ => htold hplay, ?_, hcounters⟩
  · rw [hb, passedBy_true, hstate]
  · rw [if_pos hb]; rw [hstate]
  · rw [hstate]
  · rw [hstate]
  · rw [if_pos hb]; exact hdSet

theorem reacted_react {s : State} (h : Apart s.planner.queue) (hpt : s.ring.p ≠ s.t) : Reacted s (react s) := by
  have hopens := opens_openAndPlay h
  obtain ⟨hstate, -⟩ := id hopens
  by_cases hs : starvedEnds s s = true
  · have hplay : s.engine.play = .starved ∧ s.playable s.ring.p = true := by
      simpa [starvedEnds, State.playable] using hs
    have hreact : react s = setConcealGain 0 (openAndPlay s) := by
      simp only [react, hplay.1, hplay.2, if_true]; rfl
    rw [hreact, setConcealGain_zero]
    refine .of_opens hopens (by simp [playBegins, hs]) ?_
    rw [if_pos hs, hstate]; rfl
  by_cases hp : primingEnds s s = true
  · have hplay : s.engine.play = .priming ∧ primed s = true := by
      simpa [primingEnds, primed, Ring.fullness] using hp
    have hreact : react s = setConcealGain 4096 (setPlayTarget 4096 (openAndPlay s)) := by
      simp only [react, hplay.1, hplay.2, if_true, endPriming, if_neg hpt]; rfl
    rw [hreact, setConcealGain_full]
    refine .of_opens hopens (by simp [playBegins, hp]) ?_
    rw [if_neg hs, if_pos hp, hstate]; rfl
  · have hb : playBegins s s = false := by simp [playBegins, hs, hp]
    have hreact : react s = s := by
      unfold react
      split
      · rename_i hplay
        exact if_neg fun hq => hs (by simpa [starvedEnds, hplay, State.playable] using hq)
      · rename_i hplay
        exact if_neg fun hq => hp (by simpa [primingEnds, hplay, primed, Ring.fullness] using hq)
      · rfl
    rw [hreact]
    refine ⟨?_, by simp [hb], by simp [hs, hp], rfl, rfl, by simp [hb], by simp [hb], rfl⟩
    rw [hb, filterMap_passedBy_false]
    have hnone : (s.planner.queue.any fun o => (passedBy false (s.ring.p + 1) o).isNone) = false := by simp [passedBy]
    rw [hnone, Bool.or_false]

end Sys2Proof.Machine
end

section
/-! PROOF. An accepted block, counted and passed on: the planner, the rate agreement unit and the engine (R35, R71, R85,
R100, R103). -/

namespace Sys2Proof.Machine

/-! ### The rates and the fill-stall timer -/

theorem restartStall_eq (s : State) : restartStall s = { s with engine := { s.engine with
    stall := s.engine.stall.map fun k => ⟨s.now, s.params.fillStallTimeout, k.stalled⟩ } } := by
  unfold restartStall startStall
  split
  · rename_i h; simp only [h, Option.map_none]; rw [← h]
  · rename_i h; simp only [h, Option.map_some, Option.getD_some]

/-- A change of the rates shows in the rates and the event unit alone, with RATE_CHANGED on the D-port at most. -/
theorem setRates_state (cause : RateCause) (new : Rates) (s : State) :
    (setRates cause new s = { s with rates := new, events := (setRates cause new s).events }) ∧
    (setRates cause new s).events.counters = s.events.counters ∧
    ∀ x : Latched DEvent, x.ev.pos ≠ 6 → (x ∈ (setRates cause new s).events.dSet ↔ x ∈ s.events.dSet) := by
  by_cases h : s.rates.agreed = new.agreed ∧ s.rates.requested = new.requested
  · rw [setRates_same h.1 h.2]; exact ⟨rfl, rfl, fun _ _ => .rfl⟩
  · rw [setRates_told h]; exact ⟨rfl, rfl, fun _ hx => mem_latch_other hx _⟩

/-- What a step of the rates leaves: all but the rates and RATE_CHANGED. -/
structure RatesOnly (s t : State) : Prop where
  state : t = { s with rates := t.rates, events := t.events }
  counters : t.events.counters = s.events.counters
  dSet : ∀ x : Latched DEvent, x.ev.pos ≠ 6 → (x ∈ t.events.dSet ↔ x ∈ s.events.dSet)

theorem RatesOnly.refl (s : State) : RatesOnly s s := ⟨rfl, rfl, fun _ _ => .rfl⟩

theorem ratesOnly_judgeUpgrade (s : State) : RatesOnly s (judgeUpgrade s) := by
  unfold judgeUpgrade rateStepUp
  split
  · split
    · exact .refl s
    · split
      · exact ⟨rfl, rfl, fun _ _ => .rfl⟩
      · obtain ⟨hstate, hcounters, hdSet⟩ := setRates_state .upgrade ⟨some ⟨_, _, _⟩, 0, s.rates.cap⟩ s
        exact ⟨by rw [hstate], hcounters, hdSet⟩
  · exact .refl s

theorem ratesOnly_countUpgrade (s : State) : RatesOnly s (countUpgrade s) := by
  unfold countUpgrade
  split
  · obtain ⟨hstate, hcounters, hdSet⟩ :=
      ratesOnly_judgeUpgrade { s with rates := { s.rates with progress := s.rates.progress + 1 } }
    exact ⟨hstate, hcounters, hdSet⟩
  · exact .refl s

/-- A step up goes by the rates and the parameters alone. -/
theorem judgeUpgrade_rates_congr {s s' : State} (hrates : s'.rates = s.rates) (hparams : s'.params = s.params) :
    (judgeUpgrade s').rates = (judgeUpgrade s).rates := by
  have hset : ∀ cause new (x : State), (setRates cause new x).rates = new := fun cause new x => by
    rw [(setRates_state cause new x).1]
  unfold judgeUpgrade rateStepUp
  rw [hrates, hparams]
  split
  · split
    · exact hrates
    · split <;> simp [hset]
  · exact hrates

theorem countUpgrade_rates {s s' : State} (hrates : s'.rates = s.rates) (hparams : s'.params = s.params) :
    (countUpgrade s').rates = if s.rates.state = .limited
      then (judgeUpgrade { s with rates := { s.rates with progress := s.rates.progress + 1 } }).rates else s.rates := by
  unfold countUpgrade
  rw [hrates]
  split
  · exact judgeUpgrade_rates_congr rfl hparams
  · exact hrates

/-! ### The block recorded (R35) -/

/-- The part with an accepted block written and counted, before the planner judges it. -/
def recorded (r : Run) (a : Nat) (b : Block) (s : State) : State :=
  s |> writeBlock a b |> setRun { r with last := a }
    |> rise .blocksAccepted 1 |> rise .flawedWordsReceived (markCount b.marks)
    |> rise .blocksImproved (oneIf (improved (s.slot a) ((writeBlock a b s).slot a)))
    |> restartStall |> countUpgrade

/-- An accepted block is recorded, the entry that covers it judged, and the engine reacts. -/
theorem acceptBlock_eq (r : Run) (a : Nat) (b : Block) (s : State) : acceptBlock r a b s =
    react (if acceptanceScans a s (judgeCovering a (recorded r a b s)) then dueScan (judgeCovering a (recorded r a b s))
      else judgeCovering a (recorded r a b s)) := rfl

/-- The rates are those after the upgrade progress has counted the block (R85, R86). -/
theorem recorded_rates (r : Run) (a : Nat) (b : Block) (s : State) : (recorded r a b s).rates =
    if s.rates.state = .limited
      then (judgeUpgrade { s with rates := { s.rates with progress := s.rates.progress + 1 } }).rates else s.rates := by
  unfold recorded
  exact countUpgrade_rates (by simp [setRun]) (by simp [setRun])

/-- Besides, it shows in the ring, the intake, the fill-stall timer and the event unit. -/
theorem recorded_rest (r : Run) (a : Nat) (b : Block) (s : State) :
    (recorded r a b s).ring = (writeBlock a b s).ring ∧
    (recorded r a b s).intake = { (writeBlock a b s).intake with run := some { r with last := a } } ∧
    (recorded r a b s).planner = s.planner ∧
    (recorded r a b s).engine = { s.engine with
      stall := s.engine.stall.map fun k => ⟨s.now, s.params.fillStallTimeout, k.stalled⟩ } ∧
    (recorded r a b s).conceal = s.conceal ∧ (recorded r a b s).session = s.session ∧
    (recorded r a b s).params = s.params := by
  unfold recorded
  refine ⟨by simp, by simp [setRun], by simp, ?_, by simp, by simp, by simp⟩
  rw [(ratesOnly_countUpgrade _).state, restartStall_eq]
  simp

theorem recorded_dSet (r : Run) (a : Nat) (b : Block) (s : State) {x : Latched DEvent} (h : x.ev.pos ≠ 6) :
    x ∈ (recorded r a b s).events.dSet ↔ x ∈ s.events.dSet := by
  unfold recorded
  rw [(ratesOnly_countUpgrade _).dSet x h, restartStall_eq]
  simp [setRun]

/-- What an accepted block counts (R35). -/
theorem recorded_counted {s u : State} {up : CounterId → Nat} (h : Counted s u up) (ha : up .blocksAccepted = 0)
    (hf : up .flawedWordsReceived = 0) (hi : up .blocksImproved = 0) (r : Run) (a : Nat) (b : Block) :
    Counted s (recorded r a b u) fun c =>
      if c = .blocksImproved then oneIf (improved (u.slot a) ((writeBlock a b u).slot a))
      else if c = .flawedWordsReceived then markCount b.marks else if c = .blocksAccepted then 1 else up c := by
  have hw : Counted s (setRun { r with last := a } (writeBlock a b u)) up := h.congr (by simp [setRun]) fun _ => rfl
  have hall := ((hw.rise (c := .blocksAccepted) ha 1).rise (c := .flawedWordsReceived) (by simpa using hf)
    (markCount b.marks)).rise (c := .blocksImproved) (by simpa using hi)
    (oneIf (improved (u.slot a) ((writeBlock a b u).slot a)))
  refine hall.congr ?_ fun _ => rfl
  unfold recorded
  rw [(ratesOnly_countUpgrade _).counters, restartStall_eq]

/-! ### What the planner and the engine make of it -/

theorem any_bind_isNone {α β γ : Type} (f : α → Option β) (g : β → Option γ) (q : List α) :
    (q.any fun o => ((f o).bind g).isNone) = ((q.any fun o => (f o).isNone) || (q.filterMap f).any fun o => (g o).isNone) := by
  induction q with
  | nil => rfl
  | cons o q ih =>
    rw [List.any_cons, List.any_cons, List.filterMap_cons, ih]
    cases f o with
    | none => simp
    | some x => simp only [Option.bind_some, Option.isNone_some, Bool.false_or, List.any_cons, Bool.or_left_comm]

/-- Whether play begins goes by the engine, the ring, the parameters and T. -/
theorem playBegins_congr {s s' t t' : State} (hplay : s'.engine.play = s.engine.play) (hp : s'.ring.p = s.ring.p)
    (hparams : s'.params = s.params) (hsession : s'.session = s.session) (hring : t'.ring = t.ring) :
    starvedEnds s' t' = starvedEnds s t ∧ primingEnds s' t' = primingEnds s t := by
  simp only [starvedEnds, primingEnds, hplay, hp, hparams, hring, State.slot, State.t, hsession, and_self]

theorem arrived_eq (a : Nat) (s t : State) (o : Order) :
    arrived a s t o = (judgedAt t a o).bind (passedBy (playBegins s t) (s.ring.p + 1)) := by
  simp only [arrived, judgedAt, Order.covers, Bool.and_eq_true, decide_eq_true_eq]
  rfl

/-- An accepted block before the end of its event, whose scan is still to come: what `Arrives` says, but for that scan. -/
structure Settles (r : Run) (a : Nat) (b : Block) (s t : State) : Prop where
  planner : t.planner = { s.planner with
    queue := s.planner.queue.filterMap (arrived a s t)
    fails := if s.planner.queue.any (completes t a) then 0 else s.planner.fails
    scanDue := s.planner.scanDue || (decide (s.ring.e < a) || (t.badAt a && !s.planner.queue.any fun o => o.covers a) ||
      s.planner.queue.any fun o => (arrived a s t o).isNone) }
  removed : ∀ o ∈ s.planner.queue, o.covers a = true → o.leftBad t = none →
    match o.issue with
    | some i => ∃ n, ⟨DEvent.orderComplete i.tag, n⟩ ∈ t.events.dSet
    | none =>
      (playBegins s t = true → ∀ x ∈ s.planner.queue, x ≠ o → s.ring.p + 1 < x.first + x.count) →
        ∃ n, ⟨DEvent.orderWithdrawn 0 o.first, n⟩ ∈ t.events.dSet
  passed : playBegins s t = true → ∀ o ∈ s.planner.queue, o.covers a = false →
    s.ring.p ≤ o.first → o.first + o.count ≤ s.ring.p + 1 →
    ∃ n, ⟨DEvent.orderWithdrawn o.toldTag o.first, n⟩ ∈ t.events.dSet
  dSet : ∀ x : Latched DEvent, x.ev.pos ≠ 1 → x.ev.pos ≠ 2 → x.ev.pos ≠ 6 → (x ∈ t.events.dSet ↔ x ∈ s.events.dSet)
  rates : t.rates = if s.rates.state = .limited
    then (judgeUpgrade { s with rates := { s.rates with progress := s.rates.progress + 1 } }).rates else s.rates
  reacts : Reacts { s.engine with stall := s.engine.stall.map fun k => ⟨s.now, s.params.fillStallTimeout, k.stalled⟩ } s t
  ring : t.ring = (writeBlock a b s).ring
  intake : t.intake = { (writeBlock a b s).intake with run := some { r with last := a } }
  counters : t.events.counters = (recorded r a b s).events.counters

/-- A scan made due on a condition. -/
theorem dueScan_if (c : Bool) (s : State) : (if c then dueScan s else s) =
    { s with planner := { s.planner with scanDue := s.planner.scanDue || c } } := by
  cases c <;> simp [dueScan]

/-- The acceptance calls for a scan by the slots and the entries that it found (R59). -/
theorem JudgedTo.scans {a : Nat} {s w j : State} (h : JudgedTo a w j) (hplanner : w.planner = s.planner) :
    acceptanceScans a s j =
      (decide (s.ring.e < a) || (w.badAt a && !s.planner.queue.any fun o => o.covers a)) := by
  have hbad : j.badAt = w.badAt := by rw [h.state]; rfl
  rw [acceptanceScans, hbad]
  cases hw : w.badAt a with
  | true => rw [h.covers hw, hplanner]
  | false => rfl

/-- The entries of the judged queue are those found, but for the one that covers the address. -/
theorem mem_filterMap_judgedAt {q : List Order} {w : State} {a : Nat} {o : Order} (ho : o ∈ q) (hc : o.covers a = false) :
    o ∈ q.filterMap (judgedAt w a) := List.mem_filterMap.mpr ⟨o, ho, judgedAt_uncovered hc⟩

theorem found_of_mem_judged {q : List Order} {w : State} {a : Nat} {o x : Order} (h : Apart q) (ho : o ∈ q)
    (hc : o.covers a = true) (hnone : o.leftBad w = none) (hx : x ∈ q.filterMap (judgedAt w a)) : x ∈ q ∧ x ≠ o := by
  obtain ⟨y, hy, hxy⟩ := List.mem_filterMap.mp hx
  obtain ⟨l, r, rfl⟩ := List.append_of_mem ho
  have hne : y ≠ o := fun heq => by simp [judgedAt, heq, hc, hnone] at hxy
  have hyc : y.covers a = false := by
    by_contra hcov
    exact hne (eq_of_covers h hc hy (by simpa using hcov))
  rw [judgedAt_uncovered hyc] at hxy
  cases hxy
  exact ⟨hy, hne⟩

/-- The record of ORDER_WITHDRAWN after a trim keeps the one entry at P. -/
theorem withdrawnTold_at {q : List Order} {o : Order} {p : Nat} (h : Apart q) (ho : o ∈ q) (hlo : p ≤ o.first)
    (hhi : o.first + o.count ≤ p + 1) (d : List (Latched DEvent)) :
    ∃ n, ⟨DEvent.orderWithdrawn o.toldTag o.first, n⟩ ∈ withdrawnTold (p + 1) q d := by
  obtain ⟨l, r, rfl⟩ := List.append_of_mem ho
  obtain ⟨-, hr, hcount⟩ := h.split
  refine withdrawnTold_last ((behind_none_iff _ _).mpr hhi) (fun x hx => ?_) d
  have hx1 := h.2 x (by simp [hx])
  have hx2 := hr x hx
  exact Bool.eq_false_iff.mpr fun hb => by have := (behind_none_iff _ _).mp hb; omega

/-- A block below T, written while play stands before T. -/
theorem settles_acceptBlock (r : Run) (a : Nat) (b : Block) {s : State} (h : Apart s.planner.queue)
    (hpt : s.ring.p ≠ s.t) : Settles r a b s (acceptBlock r a b s) := by
  obtain ⟨hring, hintake, hplanner, hengine, hconceal, hsession, hparams⟩ := recorded_rest r a b s
  have hrates := recorded_rates r a b s
  have hdSet := fun x => recorded_dSet r a b s (x := x)
  have hp : (recorded r a b s).ring.p = s.ring.p := by rw [hring, writeBlock_p]
  rw [acceptBlock_eq, dueScan_if]
  have hj := judgedTo_judgeCovering a (s := recorded r a b s) (by rw [hplanner]; exact h)
  rw [hj.scans hplanner]
  obtain ⟨hstate, -, hcounters, hdJudged, hapart, -, hremoved⟩ := hj
  generalize hrec : recorded r a b s = w at *
  generalize judgeCovering a w = j at *
  generalize hdue : (decide (s.ring.e < a) || (w.badAt a && !s.planner.queue.any fun o => o.covers a)) = due
  rw [hplanner] at hstate hremoved
  generalize hk : { j with planner := { j.planner with scanDue := j.planner.scanDue || due } } = k
  have hkq : k.planner.queue = s.planner.queue.filterMap (judgedAt w a) := by rw [← hk, hstate]
  have hkapart : Apart k.planner.queue := by rw [← hk]; exact hapart
  obtain ⟨hkring, hkintake, hkrates, hkengine, hkconceal, hksession, hkparams⟩ :
      k.ring = w.ring ∧ k.intake = w.intake ∧ k.rates = w.rates ∧ k.engine = w.engine ∧ k.conceal = w.conceal ∧
        k.session = w.session ∧ k.params = w.params := by
    rw [← hk, hstate]; exact ⟨rfl, rfl, rfl, rfl, rfl, rfl, rfl⟩
  have hkevents : k.events = j.events := by rw [← hk]
  have hkp : k.ring.p = s.ring.p := by rw [hkring, hp]
  have hkt : k.t = s.t := by rw [State.t, hksession, hsession]; rfl
  obtain ⟨htplanner, htengine, htconceal, htring, htintake, httold, htdSet, htcounters⟩ :=
    reacted_react hkapart (by rw [hkp, hkt]; exact hpt)
  obtain ⟨htrates, -, htsession, -, -, -, htparams, -⟩ := react_frame k
  have hbad : (react k).badAt = w.badAt :=
    badAt_congr (by rw [htring, hkring]) (by rw [htsession, hksession]) (by rw [htparams, hkparams])
  obtain ⟨hstarved, hpriming⟩ : starvedEnds s (react k) = starvedEnds k k ∧ primingEnds s (react k) = primingEnds k k :=
    (playBegins_congr (by rw [hkengine, hengine]) hkp (by rw [hkparams, hparams]) (by rw [hksession, hsession])
      htring.symm).imp Eq.symm Eq.symm
  have hplay : playBegins k k = playBegins s (react k) := by rw [playBegins, playBegins, hstarved, hpriming]
  have hjudged : judgedAt (react k) a = judgedAt w a := funext fun o => by
    unfold judgedAt; rw [leftBad_congr hbad]
  have harrived : arrived a s (react k) =
      fun o => (judgedAt w a o).bind (passedBy (playBegins s (react k)) (s.ring.p + 1)) := funext fun o => by
    rw [arrived_eq, hjudged]
  rw [hplay, hkp] at htplanner
  rw [hplay] at htdSet htengine httold
  refine ⟨?_, ?_, ?_, ?_, ?_, ⟨?_, ?_, ?_⟩, ?_, ?_, ?_⟩
  · have hcompletes : completes (react k) a = completes w a := funext fun o => by
      unfold completes; rw [leftBad_congr hbad]
    rw [htplanner, harrived, any_bind_isNone, hcompletes, hbad, hdue, hkq, List.filterMap_filterMap, ← hk, hstate]
    simp only [Planner.mk.injEq, true_and]
    ac_rfl
  · intro o ho hc hnone
    have hnone' : o.leftBad w = none := leftBad_congr hbad o ▸ hnone
    have htold := hremoved o ho hc hnone'
    rw [htdSet, hkevents]
    cases hi : o.issue with
    | some i =>
      obtain ⟨n, hn⟩ := hi ▸ htold
      refine ⟨n, ?_⟩
      split
      · exact (mem_withdrawnTold (by simp [DEvent.pos]) _ _ _).mpr hn
      · exact hn
    | none =>
      obtain ⟨n, hn⟩ := hi ▸ htold
      refine fun hothers => ⟨n, ?_⟩
      split
      · rename_i hb
        rw [withdrawnTold_none]
        · exact hn
        · intro x hx
          obtain ⟨hxq, hxo⟩ := found_of_mem_judged h ho hc hnone' (hkq ▸ hx)
          have := hothers hb x hxq hxo
          exact Bool.eq_false_iff.mpr fun hbehind => by have := (behind_none_iff _ _).mp hbehind; omega
      · exact hn
  · intro hb o ho hc hlo hhi
    rw [htdSet, if_pos hb, hkp]
    exact withdrawnTold_at hkapart (hkq ▸ mem_filterMap_judgedAt ho hc) hlo hhi _
  · intro x h1 h2 h6
    rw [← hdSet x h6, ← hdJudged x h1 h2, ← hkevents, htdSet]
    split
    · exact mem_withdrawnTold h2 _ _ _
    · rfl
  · rw [htrates, hkrates, hrates]
  · rw [htengine, hkengine, hengine]; rfl
  · rw [htconceal, hstarved, hpriming, hkparams, hparams, hkengine, hengine, hkconceal, hconceal]
  · rw [hkengine, hengine] at httold; exact httold
  · rw [htring, hkring, hring]
  · rw [htintake, hkintake, hintake]
  · rw [htcounters, hkevents, hcounters, hrec]

/-- Before the end of its event, what the accepted block leaves is what `Arrives` says. -/
theorem Settles.arrives {r : Run} {a : Nat} {b : Block} {s u t : State} {rx : Receiver} (h : Settles r a b u t)
    (hu : u = { s with intake := { s.intake with rx := rx }, events := u.events })
    (hdSet : u.events.dSet = s.events.dSet) (hscan : s.planner.scanDue = false) : Arrives a s (finish s t) := by
  obtain ⟨hplanner, hremoved, hpassed, hd, hrates, ⟨hengine, hconceal, htold⟩, -, -, -⟩ := h
  obtain ⟨huplanner, huring, huengine, huparams, husession, huconceal, hurates, hunow⟩ :
      u.planner = s.planner ∧ u.ring = s.ring ∧ u.engine = s.engine ∧ u.params = s.params ∧
      u.session = s.session ∧ u.conceal = s.conceal ∧ u.rates = s.rates ∧ u.now = s.now := by
    rw [hu]; exact ⟨rfl, rfl, rfl, rfl, rfl, rfl, rfl, rfl⟩
  obtain ⟨hfring, -, hfrates, hfengine, hfconceal, -, hfsession, -, -, -, hfparams, -⟩ := finish_frame s t
  have hbad : (finish s t).badAt = t.badAt := badAt_congr hfring hfsession hfparams
  obtain ⟨hstarved, hpriming⟩ : starvedEnds u t = starvedEnds s (finish s t) ∧
      primingEnds u t = primingEnds s (finish s t) :=
    playBegins_congr (by rw [huengine]) (by rw [huring]) huparams husession hfring.symm
  have hplay : playBegins u t = playBegins s (finish s t) := by rw [playBegins, playBegins, hstarved, hpriming]
  have hleft := leftBad_congr hbad
  have harrived : arrived a u t = arrived a s (finish s t) := funext fun o => by
    rw [arrived_eq, arrived_eq, hplay, huring]
    unfold judgedAt; rw [hleft]
  have hcompletes : completes t a = completes (finish s t) a := funext fun o => by unfold completes; rw [hleft]
  have hdSet' : ∀ x : Latched DEvent, x.ev.pos ≠ 1 → x.ev.pos ≠ 2 → x.ev.pos ≠ 6 →
      (x ∈ t.events.dSet ↔ x ∈ s.events.dSet) := fun x h1 h2 h6 => by rw [hd x h1 h2 h6, hdSet]
  have hmem : ∀ x : Latched DEvent, x.ev.pos = 1 ∨ x.ev.pos = 2 → x ∈ t.events.dSet → x ∈ (finish s t).events.dSet :=
    fun x hx => (mem_finish_dSet (by omega) (by omega) s t).mpr
  rw [huplanner, harrived, hcompletes, hscan, ← hbad, huring, Bool.false_or] at hplanner
  rw [hplay] at hpassed hremoved htold hengine
  rw [huplanner, huring] at hpassed hremoved
  have hjudged : t.planner.queue = s.planner.queue.filterMap (arrived a s (finish s t)) := by rw [hplanner]
  have hend := finish_planner s t
  refine ⟨?_, ?_, ?_, ?_, ?_, ?_, ?_, ⟨?_, ?_, ?_⟩⟩
  · rw [hend, hplanner]; rfl
  · rw [hend, hplanner, ← hscan]; rfl
  · intro o ho hlo hhi hnone
    have htold' := hremoved o ho (by simp [Order.covers, hlo, hhi]) (hleft o ▸ hnone)
    cases hi : o.issue with
    | some i => exact (hi ▸ htold').imp fun n hn => hmem _ (.inl rfl) hn
    | none => exact fun hothers => ((hi ▸ htold') hothers).imp fun n hn => hmem _ (.inr rfl) hn
  · intro hb o ho hc hlo hhi
    exact (hpassed hb o ho (by simpa [Order.covers] using hc) hlo hhi).imp fun n hn => hmem _ (.inr rfl) hn
  · rw [← hjudged]
    exact finish_workTold fun x hx => hdSet' x (by omega) (by omega) (by omega)
  · exact finish_flagTold fun x hx => hdSet' x (by omega) (by omega) (by omega)
  · intro v hv
    cases hv
    rw [hfrates, hrates, hurates]
    split
    · exact judgeUpgrade_rates_congr (by rw [hu]) huparams
    · rfl
  · rw [hfengine, hengine, huengine, hunow, huparams]
  · rw [hfconceal, hconceal, hstarved, hpriming, huparams, huengine, huconceal]
  · intro hb
    rw [(finish_sSet s t).1, ← huengine]
    exact htold hb

end Sys2Proof.Machine
end

section
/-! PROOF. A block accepted onto a slot without one (R33, R34, R49, R51), and onto a held one (R43 to R45, R52). -/

namespace Sys2Proof.Machine

/-! ### The frame that is accepted -/

/-- Byte 0 of this frame in reception is no other frame, and RDY_B has not been low (R20, R23). -/
theorem own_of_rx {s : State} {bytes : List Byte}
    (hrx : s.intake.rx.inFrame = true → s.intake.rx = ⟨.header, bytes.take 1, true⟩) :
    s.intake.rx.holdsOther bytes = false ∧ (s.intake.rx.inFrame && !s.intake.rx.synReady) = false := by
  cases hin : s.intake.rx.inFrame with
  | false => simp [Receiver.holdsOther, hin]
  | true => rw [hrx hin]; simp [Receiver.holdsOther]

theorem notReady_own {s : State} {bytes : List Byte} (h : s.Ready)
    (hrx : s.intake.rx.inFrame = true → s.intake.rx = ⟨.header, bytes.take 1, true⟩) : notReady true s = false := by
  obtain ⟨⟨hpowered, hreset, hclear, -⟩, hmode⟩ := h
  rw [notReady_eq, (own_of_rx hrx).2]
  simp [State.rdyB, hpowered, hreset, hclear, hmode]

/-- An AUDIO frame that R21 to R28 let pass. -/
theorem exec_audio {s : State} {bytes : List Byte} (h : s.InPlay) (hplay : s.engine.play ≠ .stopped)
    (hrx : s.intake.rx.inFrame = true → s.intake.rx = ⟨.header, bytes.take 1, true⟩)
    (hcrc : (readHeader bytes).crcGood = true) (hkind : (readHeader bytes).kind = 1)
    (hsize : (readHeader bytes).length = s.rate.payloadBytes) (hlen : bytes.length = 10 + (readHeader bytes).length) :
    exec (.streamFrame true bytes) s = .next (finish s (audioFrame (readHeader bytes)
      (readBlock s.w ((bytes.drop 10).take (readHeader bytes).length)) (setRx rxHunt s))) := by
  obtain ⟨hready, hdisc⟩ := h
  have hgood : headerGood s (readHeader bytes) = true :=
    (headerGood_iff s _).mpr ⟨hcrc, .inl ⟨hkind, by rwa [if_pos hdisc]⟩⟩
  rw [exec_streamFrame hready.1.1,
    receiveFrame_audio (own_of_rx hrx).1 hgood hlen.ge (notReady_own hready hrx) hkind hdisc hplay]

section
variable {s : State} {a : Nat} (b : Block) (hlo : s.ring.p ≤ a) (hopen : a = s.ring.p → s.engine.slotOpen = false)
  (hhi : a < s.ring.p + s.ring.len) (hat : a < s.t)
include hlo hopen hhi hat

theorem in_window : isLate s a = false ∧ isBeyond s a = false := by
  refine ⟨Bool.eq_false_iff.mpr fun h => ?_, Bool.eq_false_iff.mpr fun h => ?_⟩
  · rcases (isLate_iff s a).mp h with h | ⟨h, h'⟩
    · omega
    · rw [hopen h] at h'; cases h'
  · rcases (isBeyond_iff s a).mp h with h | h <;> omega

/-- A frame that continues a run is accepted with no seam check (R49). -/
theorem audioContinues_accepts {r : Run} (hr : r.state ≠ .rejected) :
    audioContinues r a b s = acceptBlock r a b s := by
  obtain ⟨hlate, hbeyond⟩ := in_window hlo hopen hhi hat
  simp [audioContinues, hr, hlate, hbeyond]

theorem audioBegins_checks (tag : Byte) : audioBegins a tag b s = seamCheck a tag b s := by
  obtain ⟨hlate, hbeyond⟩ := in_window hlo hopen hhi hat
  simp [audioBegins, hlate, hbeyond]

end

/-- A run that begins on a slot with no block is UNVERIFIED and counted (R43). -/
theorem seamCheck_vacant {s : State} {a : Nat} (tag : Byte) (b : Block)
    (h : (s.slot a).isEmpty = true ∨ (s.slot a).isMissing = true ∨ (s.slot a).isVoid = true) :
    seamCheck a tag b s = acceptBlock ⟨.unverified, a, tag⟩ a b (rise .unverifiedRuns 1 s) := by
  unfold seamCheck
  cases hv : s.slot a <;> simp_all [Slot.isEmpty, Slot.isMissing, Slot.isVoid]

/-! ### The whole event -/

/-- The ring after a write goes by the ring before it. -/
theorem writeBlock_ring (a : Nat) (b : Block) (s : State) :
    (writeBlock a b s).ring = if s.ring.e ≤ a then s.ring.place a b else s.ring.accept a b := by
  unfold writeBlock; split <;> simp

/-- An accepted block at the end of its event. -/
structure Accepted (r : Run) (a : Nat) (b : Block) (s t : State) : Prop where
  ring : t.ring = (writeBlock a b s).ring
  intake : t.intake = { (writeBlock a b s).intake with rx := rxHunt, run := some { r with last := a } }
  arrives : Arrives a s t
  rest : t.line = s.line ∧ t.session = s.session ∧ t.power = s.power ∧ t.params = s.params ∧
    t.sPort = s.sPort ∧ t.dPort = s.dPort ∧ t.now = s.now

section
variable {s u : State} {r : Run} {a : Nat} {b : Block}

theorem writeBlock_congr (hu : u = { s with intake := { s.intake with rx := rxHunt }, events := u.events }) :
    (writeBlock a b u).ring = (writeBlock a b s).ring ∧
    (writeBlock a b u).intake = { (writeBlock a b s).intake with rx := rxHunt } := by
  have hring : u.ring = s.ring := by rw [hu]
  have hintake : u.intake = { s.intake with rx := rxHunt } := by rw [hu]
  refine ⟨by rw [writeBlock_ring, writeBlock_ring, hring], ?_⟩
  by_cases h : s.ring.e ≤ a
  · rw [(writeBlock_beyond b (s := u) (hring ▸ h)).2, (writeBlock_beyond b h).2, hring, hintake]
  · rw [writeBlock_below b (s := u) (by rw [hring]; omega), writeBlock_below b (by omega)]
    exact hintake

theorem accepted_finish (hu : u = { s with intake := { s.intake with rx := rxHunt }, events := u.events })
    (hdSet : u.events.dSet = s.events.dSet) (hlaw : s.planner.Law) (hscan : s.planner.scanDue = false)
    (hpt : s.ring.p < s.t) : Accepted r a b s (finish s (acceptBlock r a b u)) := by
  have hset : Settles r a b u (acceptBlock r a b u) := by
    refine settles_acceptBlock r a b ?_ ?_
    · rw [hu]; exact apart_of_law hlaw
    · rw [hu]; exact Nat.ne_of_lt hpt
  obtain ⟨hring, hintake⟩ := writeBlock_congr (a := a) (b := b) hu
  refine ⟨?_, ?_, hset.arrives hu hdSet hscan, ?_⟩
  · rw [(finish_frame s _).1, hset.ring, hring]
  · rw [(finish_frame s _).2.1, hset.intake, hintake]
  · simp only [finish_frame, acceptBlock_frame]
    rw [hu]; exact ⟨rfl, rfl, rfl, rfl, rfl, rfl, rfl⟩

/-- What an accepted block counts at the end of its event, beside what the run's beginning counted. -/
theorem accepted_counted (hu : u = { s with intake := { s.intake with rx := rxHunt }, events := u.events })
    (hlaw : s.planner.Law) (hpt : s.ring.p < s.t) {n : Nat}
    (hcount : Counted s u fun c => if c = .unverifiedRuns then n else 0) :
    Counted s (finish s (acceptBlock r a b u)) fun c =>
      if c = .blocksAccepted then 1
      else if c = .flawedWordsReceived then markCount b.marks
      else if c = .blocksImproved then oneIf (improved (s.slot a) ((writeBlock a b s).slot a))
      else if c = .unverifiedRuns then n else 0 := by
  have hset : Settles r a b u (acceptBlock r a b u) := by
    refine settles_acceptBlock r a b ?_ ?_
    · rw [hu]; exact apart_of_law hlaw
    · rw [hu]; exact Nat.ne_of_lt hpt
  have hslot : u.slot a = s.slot a := by rw [hu]; rfl
  have hslot' : (writeBlock a b u).slot a = (writeBlock a b s).slot a := by
    rw [State.slot, (writeBlock_congr hu).1]; rfl
  have hrec := recorded_counted hcount rfl rfl rfl r a b
  rw [hslot, hslot'] at hrec
  refine hrec.congr ?_ fun c => by cases c <;> rfl
  rw [(finish_sSet s _).2, hset.counters]

end

end Sys2Proof.Machine
end

section
/-! PROOF. A block onto a slot without one, and a block onto a held one. -/

namespace Sys2Proof.Machine

/-! ### A block onto a slot that holds none (R33, R34, R51) -/

section
variable {s : State} {a : Nat}

theorem vacant_cases (hr : s.ring.Law) (hhi : a < s.ring.p + s.ring.len)
    (hvac : s.ring.e ≤ a ∨ (s.slot a).isMissing = true ∨ (s.slot a).isVoid = true) :
    (s.slot a).isEmpty = true ∨ (s.slot a).isMissing = true ∨ (s.slot a).isVoid = true :=
  hvac.imp_left fun hea => by rw [show s.slot a = .empty from slot_empty hr hea hhi]; rfl

/-- A slot that holds no block takes it as from REPAIR (R34). -/
theorem acceptInto_vacant {v : Slot} (h : v.isMissing = true ∨ v.isVoid = true) (b : Block) :
    acceptInto a b v = b.filled a .repair := by
  cases v <;> simp_all [Slot.isMissing, Slot.isVoid, acceptInto]

/-- The fill latch is set by a placement near the top of the window (R36). -/
theorem latch_written (hr : s.ring.Law) (hhi : a < s.ring.p + s.ring.len) (b : Block) :
    (writeBlock a b s).intake.latch =
      (s.intake.latch || decide (s.ring.e ≤ a ∧ s.ring.len - 8 ≤ a + 1 - s.ring.p)) := by
  by_cases hea : s.ring.e ≤ a
  · have hw := written_place hr b hea hhi
    have hfull : (s.ring.place a b).fullness = a + 1 - s.ring.p := by
      rw [Ring.fullness, hw.e, hw.p]; omega
    rw [(writeBlock_beyond b hea).2, hfull, len_of_straps hw.straps]
    simp [hea]
  · rw [writeBlock_below b (by omega)]
    simp [hea]

variable (hr : s.ring.Law) (hlo : s.ring.p ≤ a) (hhi : a < s.ring.p + s.ring.len)
  (hvac : s.ring.e ≤ a ∨ (s.slot a).isMissing = true ∨ (s.slot a).isVoid = true) (b : Block)
include hr hhi hvac

theorem vacant_fromRepair : (s.slot a).fromRepair = false := by
  have h := vacant_cases hr hhi hvac
  cases hv : s.slot a <;> simp_all [Slot.isEmpty, Slot.isMissing, Slot.isVoid, Slot.fromRepair]

include hlo

theorem written_vacant : Written a (b.filled a (if s.ring.e ≤ a then .stream else .repair)) s.ring
    (writeBlock a b s).ring := by
  rw [writeBlock_ring]
  split
  · rename_i hea
    exact written_place hr b hea hhi
  · rename_i hea
    have hne : (s.ring.slot a).isEmpty = false := by
      have h := hvac.resolve_left hea
      cases hv : s.ring.slot a <;> simp_all [State.slot, Slot.isEmpty, Slot.isMissing, Slot.isVoid]
    have hinto := acceptInto_vacant (a := a) (hvac.resolve_left hea) b
    rw [← hinto]
    exact written_accept hr b hlo hhi hne

/-- Below E the block improves the slot (R7). -/
theorem improved_vacant :
    oneIf (improved (s.slot a) ((writeBlock a b s).slot a)) = if a < s.ring.e then 1 else 0 := by
  have hslot : (writeBlock a b s).slot a = _ := (written_vacant hr hlo hhi hvac b).slot
  have hfilled : ∀ src, (b.filled a src).fromRepair = decide (src = .repair) := fun src => by
    unfold Block.filled; cases src <;> (split <;> rfl)
  rw [improved, hslot, hfilled, vacant_fromRepair hr hhi hvac]
  by_cases hea : s.ring.e ≤ a
  · rw [if_pos hea, if_neg (by omega)]; rfl
  · rw [if_neg hea, if_pos (by omega)]; rfl

end

/-- Settles O49: the frame begins or continues a run on a slot with no block, which takes it. -/
theorem acceptedBlockIsWritten : Obligations.AcceptedBlockIsWritten := by
  intro bytes s begins hplay hstop hring hlaw hscan hrx h a b hcrc hkind hsize hlen hcase hlo hopen hhi hat hvac source
  have hexec := exec_audio hplay hstop hrx hcrc hkind hsize hlen
  obtain ⟨r, u, haudio, hu, hdSet, hcount, hrun⟩ : ∃ r u,
      audioFrame h b (setRx rxHunt s) = acceptBlock r a b u ∧
      u = { s with intake := { s.intake with rx := rxHunt }, events := u.events } ∧
      u.events.dSet = s.events.dSet ∧
      (Counted s u fun c => if c = .unverifiedRuns then oneIf begins else 0) ∧
      if begins then { r with last := a } = (⟨.unverified, a, h.tag⟩ : Run) else s.intake.run = some r := by
    cases begins with
    | false =>
      obtain ⟨hstart, haddr, r, hr, hrej⟩ := hcase
      have ha : a = r.last + 1 := by simp [a, hr]
      refine ⟨r, setRx rxHunt s, ?_, rfl, rfl, (counted_of_counters rfl).congr rfl fun c => by simp [oneIf], hr⟩
      rw [audioFrame_continues (s := setRx rxHunt s) hr hstart (fun hg => (haddr hg).trans ha), ← ha]
      exact audioContinues_accepts (s := setRx rxHunt s) b hlo hopen hhi hat hrej
    | true =>
      obtain ⟨hgood, hnew⟩ := hcase
      refine ⟨⟨.unverified, a, h.tag⟩, rise .unverifiedRuns 1 (setRx rxHunt s), ?_, ?_, rise_dSet .., ?_, rfl⟩
      · rw [audioFrame_begins (s := setRx rxHunt s) hgood hnew]
        exact (audioBegins_checks (s := setRx rxHunt s) b hlo hopen hhi hat h.tag).trans
          (seamCheck_vacant (s := setRx rxHunt s) h.tag b (vacant_cases hring hhi hvac))
      · exact rise_eq ..
      · exact ((counted_of_counters rfl).rise (t := setRx rxHunt s) rfl 1).congr rfl fun c => rfl
  obtain ⟨htring, htintake, harrives, hrest⟩ := accepted_finish (r := r) (a := a) (b := b) hu hdSet hlaw hscan (by omega)
  have hcounted := accepted_counted (r := r) (a := a) (b := b) hu hlaw (by omega) hcount
  rw [improved_vacant hring hlo hhi hvac b] at hcounted
  obtain ⟨hp, he, howner, hstraps, hslot, hkept, hpassed⟩ := written_vacant hring hlo hhi hvac b
  rw [← htring] at hp he howner hstraps hslot hkept hpassed
  refine ⟨_, by rw [hexec, haudio], hp, he, howner, hstraps, hslot, hkept, hpassed, by rw [htintake]; rfl, ?_, ?_, ?_,
    harrives, hrest⟩
  · rw [htintake]
    cases begins with
    | false => exact ⟨r, hrun, rfl⟩
    | true => exact congrArg some hrun
  · rw [htintake]
    exact latch_written hring hhi b
  · refine hcounted.congr rfl fun c => ?_
    cases c <;> cases begins <;> simp [oneIf]

/-! ### A block onto a held one (R44, R45, R51, R52) -/

/-- A slot that holds a block, CLEAN or FLAWED, takes part in no placement, and a CLEAN one stays as it is (R51, R52). -/
theorem written_copies {s : State} {w a : Nat} {marks : List Bool} {words : List Word} (hr : s.ring.Law)
    (hlo : s.ring.p ≤ a) (hhi : a < s.ring.p + s.ring.len) (hv : (s.slot a).Copies w marks words) (b : Block) :
    writeBlock a b s = { s with ring := s.ring.setSlot a (acceptInto a b (s.slot a)) } ∧
    (writeBlock a b s).slot a = acceptInto a b (s.slot a) := by
  have hne : (s.ring.slot a).isEmpty = false := by
    obtain ⟨tag, source, h, -⟩ | ⟨tag, source, settled, h⟩ := hv <;> rw [show s.ring.slot a = _ from h] <;> rfl
  have hwrite : writeBlock a b s = { s with ring := s.ring.setSlot a (acceptInto a b (s.slot a)) } := by
    rw [writeBlock_below b (slot_held hr hlo hhi hne).2, accept_eq hr b hlo hhi hne]; rfl
  exact ⟨hwrite, by rw [hwrite]; exact slot_setSlot_same a _ hr.1⟩

/-- Settles O51: the frame verifies a run within the threshold or continues one, and the block goes into the held slot. -/
theorem seamVerifiesRun : Obligations.SeamVerifiesRun := by
  intro bytes s begins hplay hstop hring hlaw hscan hrx h a b hcrc hkind hsize hlen hcase hlo hopen hhi hat marks words hv
    hwords hmarks hseam
  have hexec := exec_audio hplay hstop hrx hcrc hkind hsize hlen
  have hcopies : (s.slot a).Copies s.w marks words := by
    obtain ⟨source, h⟩ | ⟨source, settled, h⟩ := hv
    · exact .inl ⟨a, source, h⟩
    · exact .inr ⟨a, source, settled, h⟩
  obtain ⟨r, haudio, hrun⟩ : ∃ r, audioFrame h b (setRx rxHunt s) = acceptBlock r a b (setRx rxHunt s) ∧
      if begins then { r with last := a } = (⟨.verified, a, h.tag⟩ : Run) else s.intake.run = some r := by
    cases begins with
    | false =>
      obtain ⟨hstart, haddr, r, hr, hrej⟩ := hcase
      have ha : a = r.last + 1 := by simp [a, hr]
      refine ⟨r, ?_, hr⟩
      rw [audioFrame_continues (s := setRx rxHunt s) hr hstart (fun hg => (haddr hg).trans ha), ← ha]
      exact audioContinues_accepts (s := setRx rxHunt s) b hlo hopen hhi hat hrej
    | true =>
      obtain ⟨hgood, hnew⟩ := hcase
      obtain ⟨hbw, hbm⟩ := readBlock_length ((payload_length hlen.ge).trans hsize)
      have hdiff : (s.slot a).diff s.w b ≤ s.params.seamThreshold :=
        (diff_of_copies (b := b) hcopies hwords hmarks hbw hbm).trans_le (hseam rfl)
      refine ⟨⟨.verified, a, h.tag⟩, ?_, rfl⟩
      rw [audioFrame_begins (s := setRx rxHunt s) hgood hnew]
      refine (audioBegins_checks (s := setRx rxHunt s) b hlo hopen hhi hat h.tag).trans ?_
      exact (seamCheck_copies (s := setRx rxHunt s) hcopies h.tag b).trans (if_pos hdiff)
  have hu : setRx rxHunt s = { s with intake := { s.intake with rx := rxHunt }, events := (setRx rxHunt s).events } := rfl
  obtain ⟨htring, htintake, harrives, hrest⟩ := accepted_finish (r := r) (a := a) (b := b) hu rfl hlaw hscan (by omega)
  have hcounted := accepted_counted (r := r) (a := a) (b := b) (n := 0) hu hlaw (by omega)
    ((counted_of_counters rfl).congr rfl fun c => ite_self 0)
  obtain ⟨hwrite, hslot⟩ := written_copies hring hlo hhi hcopies b
  have htslot : (finish s (acceptBlock r a b (setRx rxHunt s))).slot a = (writeBlock a b s).slot a := by
    rw [State.slot, htring]; rfl
  refine ⟨_, by rw [hexec, haudio], fun source hclean => ?_, htring, by rw [htring, hwrite]; rfl,
    ⟨{ r with last := a }, by rw [htintake, hwrite]; rfl, ?_⟩, ?_, harrives, hrest⟩
  · rw [htslot, hslot, hclean]; rfl
  · cases begins with
    | false => exact ⟨r, hrun, rfl⟩
    | true => exact hrun
  · refine hcounted.congr rfl fun c => ?_
    rw [htslot]
    cases c <;> simp [oneIf, improved]

end Sys2Proof.Machine
end

section
/-! PROOF. A directory frame: its header, its payload and the checks of R137. -/

namespace Sys2Proof.Machine

/-! ### Numbers in bytes (R158) -/

theorem byteOf_toNat (n : Nat) : (byteOf n).toNat = n % 256 := by simp [byteOf]

theorem ofLe_le16 {n : Nat} (h : n < 65536) : ofLe (le16 n) = n := by
  simp only [le16, ofLe, byteOf_toNat]; omega

theorem ofLe_le24 {n : Nat} (h : n < 16777216) : ofLe (le24 n) = n := by
  simp only [le24, ofLe, byteOf_toNat]; omega

/-- Addresses in three bytes each are read back (R26). -/
theorem groups24_flatMap {l : List Nat} (h : ∀ x ∈ l, x < 16777216) : groups24 (l.flatMap le24) = l := by
  induction l with
  | nil => rfl
  | cons x l ih =>
    have htail := ih fun y hy => h y (by simp [hy])
    have hcons : groups24 ((x :: l).flatMap le24) = ofLe (le24 x) :: groups24 (l.flatMap le24) := rfl
    rw [hcons, htail, ofLe_le24 (h x (by simp))]

/-! ### The checks of R137 -/

theorem ascending_iff (l : List Nat) : ascending l = true ↔ l.Pairwise (· < ·) := by
  induction l with
  | nil => simp [ascending]
  | cons a rest ih =>
    cases rest with
    | nil => simp [ascending]
    | cons b rest =>
      rw [ascending, Bool.and_eq_true, decide_eq_true_eq, ih, List.pairwise_cons (a := a)]
      refine and_congr_left fun hrest => ⟨fun hab x hx => ?_, fun hall => hall b (by simp)⟩
      rcases List.mem_cons.mp hx with rfl | hx
      · exact hab
      · exact hab.trans ((List.pairwise_cons.mp hrest).1 x hx)

/-- In an ascending list some address reaches a bound when the last one does. -/
theorem last_reaches_iff {l : List Nat} {t : Nat} (h : l.Pairwise (· < ·)) (hne : l ≠ []) :
    t ≤ l.getLastD 0 ↔ ∃ x ∈ l, t ≤ x := by
  obtain ⟨a, rest, rfl⟩ := List.exists_cons_of_ne_nil hne
  rw [List.getLastD_cons]
  refine ⟨fun ht => ⟨_, List.getLastD_mem_cons, ht⟩, fun ⟨x, hx, ht⟩ => ?_⟩
  exact ht.trans (between_of_pairwise h x hx).2

/-- The first check of R137 that a directory fails. -/
def firstFlaw (rate : Byte) (t : Nat) (starts : List Nat) : Option DirectoryFlaw :=
  if 1 < rate.toNat then some .rateCode
  else if starts.length = 0 ∨ 99 < starts.length then some .programCount
  else if t = 0 ∨ 1048576 < t then some .length
  else if ¬ starts.Pairwise (· < ·) then some .order
  else if ∃ x ∈ starts, t ≤ x then some .startRange
  else none

theorem validateDirectory_eq {rate : Byte} {t : Nat} {starts : List Nat} (hn : starts.length ≤ 255) :
    validateDirectory ⟨rate, byteOf starts.length, t, starts⟩ =
      match firstFlaw rate t starts with
      | some reason => .error reason
      | none => .ok ⟨if rate = 0 then .r44100 else .r48000, t, starts⟩ := by
  have hlen : (byteOf starts.length).toNat = starts.length := by rw [byteOf_toNat]; omega
  unfold validateDirectory firstFlaw
  simp only [hlen, gt_iff_lt, ge_iff_le, Bool.or_eq_true, decide_eq_true_eq, Nat.lt_one_iff, Bool.not_eq_true',
    ← Bool.not_eq_true, ascending_iff]
  by_cases h1 : 1 < rate.toNat
  · rw [if_pos h1, if_pos h1]
  rw [if_neg h1, if_neg h1]
  by_cases h2 : starts.length = 0 ∨ 99 < starts.length
  · rw [if_pos h2, if_pos h2]
  rw [if_neg h2, if_neg h2]
  by_cases h3 : t = 0 ∨ 1048576 < t
  · rw [if_pos h3, if_pos h3]
  rw [if_neg h3, if_neg h3]
  by_cases h4 : ¬ starts.Pairwise (· < ·)
  · rw [if_pos h4, if_pos h4]
  rw [if_neg h4, if_neg h4]
  have hne : starts ≠ [] := fun h => h2 (.inl (by rw [h]; rfl))
  rw [if_congr (last_reaches_iff (not_not.mp h4) hne) rfl rfl]
  by_cases h5 : ∃ x ∈ starts, t ≤ x
  · rw [if_pos h5, if_pos h5]
  · rw [if_neg h5, if_neg h5]

/-! ### The frame (R21, R26) -/

/-- The payload of a directory (R26). -/
def directoryPayload (rate : Byte) (t : Nat) (starts : List Nat) : List Byte :=
  rate :: byteOf starts.length :: (le24 t ++ starts.flatMap le24)

/-- A whole directory frame with a good check value (R21). -/
def directoryBytes (flags tag : Byte) (address : List Byte) (rate : Byte) (t : Nat) (starts : List Nat) : List Byte :=
  let head := ([0x02, flags, tag] : List Byte) ++ address ++ le16 (5 + 3 * starts.length)
  head ++ [(crc16 head).extractLsb' 8 8, (crc16 head).extractLsb' 0 8] ++ directoryPayload rate t starts

theorem directoryPayload_length (rate : Byte) (t : Nat) (starts : List Nat) :
    (directoryPayload rate t starts).length = 5 + 3 * starts.length := by
  have hflat : (starts.flatMap le24).length = 3 * starts.length := by
    induction starts with
    | nil => rfl
    | cons x l ih => simp only [List.flatMap_cons, List.length_append, ih, le24, List.length_cons, List.length_nil]; omega
  simp only [directoryPayload, List.length_cons, List.length_append, hflat, le24, List.length_nil]; omega

theorem readDirectory_payload {rate : Byte} {t : Nat} {starts : List Nat} (ht : t < 16777216)
    (hstarts : ∀ x ∈ starts, x < 16777216) :
    readDirectory (directoryPayload rate t starts) = ⟨rate, byteOf starts.length, t, starts⟩ := by
  have hread : readDirectory (directoryPayload rate t starts) =
      ⟨rate, byteOf starts.length, ofLe (le24 t), groups24 (starts.flatMap le24)⟩ := rfl
  rw [hread, ofLe_le24 ht, groups24_flatMap hstarts]

theorem readHeader_directory (flags tag : Byte) {address : List Byte} (haddr : address.length = 3) (rate : Byte) (t : Nat)
    {starts : List Nat} (hn : starts.length ≤ 255) :
    let bytes := directoryBytes flags tag address rate t starts
    (readHeader bytes).kind = 2 ∧ (readHeader bytes).length = 5 + 3 * starts.length ∧
    (readHeader bytes).crcGood = true ∧ bytes.drop 10 = directoryPayload rate t starts := by
  obtain ⟨a, b, c, rfl⟩ := List.length_eq_three.mp haddr
  refine ⟨rfl, ofLe_le16 (by omega), ?_, rfl⟩
  have hsplit : ∀ x : BitVec 16, x.extractLsb' 8 8 ++ x.extractLsb' 0 8 = x := fun x => by
    rw [BitVec.extractLsb'_append_extractLsb'_eq_extractLsb' (by decide)]
    exact BitVec.extractLsb'_eq_self
  exact beq_iff_eq.mpr (hsplit _).symm

section
variable {flags tag rate : Byte} {address : List Byte} {t : Nat} {starts : List Nat} {s : State}
  (haddr : address.length = 3) (hn : starts.length ≤ 255) (h : s.Ready)
  (hrx : s.intake.rx.inFrame = true →
    s.intake.rx = ⟨.header, (directoryBytes flags tag address rate t starts).take 1, true⟩)
include haddr hn h hrx

/-- The session unit takes its payload (R26). -/
theorem exec_directory : exec (.streamFrame true (directoryBytes flags tag address rate t starts)) s =
    .next (finish s (takeDirectory (directoryPayload rate t starts) (setRx rxHunt s))) := by
  obtain ⟨hkind, hlength, hcrc, hdrop⟩ := readHeader_directory flags tag haddr rate t hn
  have hgood := (headerGood_iff s (readHeader (directoryBytes flags tag address rate t starts))).mpr
    ⟨hcrc, .inr ⟨hkind, by omega, by omega⟩⟩
  have hpayload := directoryPayload_length rate t starts
  have hall : (directoryBytes flags tag address rate t starts).length = 10 + (5 + 3 * starts.length) := by
    have := congrArg List.length hdrop
    rw [List.length_drop, hpayload] at this
    omega
  have hcount : ((directoryPayload rate t starts).getD 1 0).toNat = starts.length := by
    rw [show (directoryPayload rate t starts).getD 1 0 = byteOf starts.length from rfl, byteOf_toNat]; omega
  rw [exec_streamFrame h.1.1, receiveFrame_heard (own_of_rx hrx).1 hgood (by omega) (notReady_own h hrx), hdrop, hlength,
    List.take_of_length_le (by omega), goodHeaderFrame_directory hkind, hcount, hlength, if_pos rfl]

/-- Outside IDENTIFYING it changes nothing but the receiver (R137). -/
theorem exec_directory_ignored (hscan : s.planner.scanDue = false) (hs : s.session.state ≠ .identifying) :
    exec (.streamFrame true (directoryBytes flags tag address rate t starts)) s = .next (setRx rxHunt s) := by
  have htake : ∀ payload, takeDirectory payload (setRx rxHunt s) = setRx rxHunt s := fun _ => if_neg hs
  rw [exec_directory haddr hn h hrx, htake, finish_eq_self (b := s) (s := setRx rxHunt s) rfl hscan rfl]

variable (ht : t < 16777216) (hstarts : ∀ x ∈ starts, x < 16777216) (hs : s.session.state = .identifying)
include ht hstarts hs

/-- One that is not valid raises DIRECTORY_BAD alone (R137). -/
theorem exec_directory_bad (hscan : s.planner.scanDue = false) {reason : DirectoryFlaw}
    (hflaw : firstFlaw rate t starts = some reason) :
    exec (.streamFrame true (directoryBytes flags tag address rate t starts)) s =
      .next (raiseS (.directoryBad reason) (setRx rxHunt s)) := by
  have htake : takeDirectory (directoryPayload rate t starts) (setRx rxHunt s) =
      raiseS (.directoryBad reason) (setRx rxHunt s) := by
    rw [takeDirectory, if_pos (show (setRx rxHunt s).session.state = .identifying from hs),
      readDirectory_payload ht hstarts, validateDirectory_eq hn, hflaw]
  rw [exec_directory haddr hn h hrx, htake,
    finish_eq_self (b := s) (s := raiseS (.directoryBad reason) (setRx rxHunt s)) rfl hscan rfl]

/-- A valid one starts the session (R139). -/
theorem exec_directory_good (hflaw : firstFlaw rate t starts = none) :
    exec (.streamFrame true (directoryBytes flags tag address rate t starts)) s =
      .next (finish s (enterPresent ⟨if rate = 0 then .r44100 else .r48000, t, starts⟩
        (crc32 (directoryPayload rate t starts)) (setRx rxHunt s))) := by
  have htake : takeDirectory (directoryPayload rate t starts) (setRx rxHunt s) =
      enterPresent ⟨if rate = 0 then .r44100 else .r48000, t, starts⟩ (crc32 (directoryPayload rate t starts))
        (setRx rxHunt s) := by
    rw [takeDirectory, if_pos (show (setRx rxHunt s).session.state = .identifying from hs),
      readDirectory_payload ht hstarts, validateDirectory_eq hn, hflaw]
  rw [exec_directory haddr hn h hrx, htake]

end

end Sys2Proof.Machine
end

section
/-! PROOF. The start of a session: the ring and the engine as each start leaves them (R112, R139 to R141). -/

namespace Sys2Proof.Machine

/-! ### The program number (R96) -/

theorem judgeProgram_eq (s : State) : judgeProgram s =
    { s with engine := { s.engine with program := s.programNow }, events := (judgeProgram s).events } := by
  unfold judgeProgram
  dsimp only
  split
  · rename_i h; rw [h]
  · rfl

theorem judgeProgram_same {s : State} (h : s.programNow = s.engine.program) : judgeProgram s = s := if_pos h

theorem judgeProgram_sSet (s : State) : (judgeProgram s).events.sSet =
    if s.programNow = s.engine.program then s.events.sSet
    else latch SEvent.pos (.programChanged s.programNow s.ring.p) s.events.sSet := by
  unfold judgeProgram; dsimp only; split <;> rfl

@[simp] theorem judgeProgram_rest (s : State) : (judgeProgram s).events.dSet = s.events.dSet ∧
    (judgeProgram s).events.counters = s.events.counters := by
  unfold judgeProgram; dsimp only; split <;> exact ⟨rfl, rfl⟩

theorem mem_judgeProgram_sSet {x : Latched SEvent} (h : x.ev.pos ≠ 1) (s : State) :
    x ∈ (judgeProgram s).events.sSet ↔ x ∈ s.events.sSet := by
  rw [judgeProgram_sSet]
  split
  · rfl
  · exact mem_latch_other h _

theorem judgeProgram_told (s : State) : ProgramTold s (judgeProgram s) := by
  have hnumber : (judgeProgram s).engine.program = s.programNow := by rw [judgeProgram_eq]
  have hnow : (judgeProgram s).programNow = s.programNow := by rw [judgeProgram_eq]; rfl
  have hp : (judgeProgram s).ring.p = s.ring.p := by simp
  refine ⟨by rw [hnumber, hnow], fun hne => ?_, fun heq x hx _ => ?_⟩
  · rw [hnumber] at hne ⊢
    rw [hp, judgeProgram_sSet, if_neg hne]
    exact exists_mem_latch ..
  · rw [hnumber] at heq
    rwa [judgeProgram_same heq] at hx

/-! ### Where a start begins -/

/-- The part at frame `f` with the concealment unit as a start sets it: no run, no request, the play gain 0 (R112, R122, R126). -/
def placed (f : Nat) (s : State) : State := { s with
  engine := { s.engine with f := f, anticipate := false }
  conceal := { s.conceal with
    left := channelReset, right := channelReset, gp := 0, gpTarget := 0, gc := 4096, gcTarget := 4096 } }

theorem placed_eq (f : Nat) (s : State) : setFrame f (startConceal s) = placed f s := by
  simp [startConceal, setConcealGain, setPlayGain, State.concealTarget, dropRuns, placed, setFrame, channelReset,
    Channel.inLong]

/-- The part with an empty ring at `a`, and its neighbours as a flush leaves them, but for the program number (R15, R16). -/
def emptied (a : Nat) (s : State) : State := { s with
  ring := s.ring.flush a s.session.fingerprint
  planner := { s.planner with queue := [], tagCounter := 0, scanDue := true }
  intake := { s.intake with run := none, latch := false }
  conceal := { s.conceal with left := channelReset, right := channelReset }
  engine := { s.engine with slotOpen := false } }

/-- A flush with no order pending (R15, R16, R36). -/
theorem flush_eq {s : State} (hq : s.planner.queue = []) (a : Nat) : flush a s = judgeProgram (emptied a s) := by
  have hempty : ∀ r : Ring, emptyQueue { s with ring := r } =
      { s with ring := r, planner := { s.planner with queue := [], tagCounter := 0 } } := fun r => by
    simp [emptyQueue, Planner.issuedEntry, hq]
  have hlow : ∀ u : State, u.ring.fullness = 0 → judgeLatchLow u = { u with intake := { u.intake with latch := false } } :=
    fun u hu => if_pos (by omega)
  unfold flush
  rw [hempty, hlow]
  · rfl
  · exact Nat.sub_self a

/-- The program number is judged whatever the frame and the gains (R96). -/
theorem placed_judgeProgram (f : Nat) (s : State) : placed f (judgeProgram s) = judgeProgram (placed f s) := by
  unfold judgeProgram
  dsimp only
  show placed f (if s.programNow = s.engine.program then _ else _) = if s.programNow = s.engine.program then _ else _
  split <;> rfl

/-! ### What every start leaves -/

/-- From the entry to PRESENT to the end of a start: no order, no flaw run and no request is left, the conceal gain has
target 4096, the program number is told, and the records that the entry has made stay (R139). -/
structure Starts (v t : State) : Prop where
  queue : t.planner.queue = []
  fails : t.planner.fails = v.planner.fails
  anticipate : t.engine.anticipate = false
  left : t.conceal.left = channelReset
  right : t.conceal.right = channelReset
  target : t.conceal.gcTarget = 4096
  program : ProgramTold v t
  sSet : ∀ x : Latched SEvent, x.ev.pos = 7 ∨ x.ev.pos = 8 ∨ x.ev.pos = 12 → (x ∈ t.events.sSet ↔ x ∈ v.events.sSet)
  dSet : t.events.dSet = v.events.dSet

/-- A later part of a start, after the program number has been judged. -/
structure GoesOn (u t : State) : Prop where
  queue : t.planner.queue = []
  fails : t.planner.fails = u.planner.fails
  anticipate : t.engine.anticipate = false
  left : t.conceal.left = channelReset
  right : t.conceal.right = channelReset
  target : t.conceal.gcTarget = 4096
  program : t.engine.program = u.engine.program
  session : t.session = u.session
  p : t.ring.p = u.ring.p
  sSet : ∀ x : Latched SEvent, x.ev.pos = 1 ∨ x.ev.pos = 7 ∨ x.ev.pos = 8 ∨ x.ev.pos = 12 →
    (x ∈ t.events.sSet ↔ x ∈ u.events.sSet)
  dSet : t.events.dSet = u.events.dSet

theorem programNow_congr {u t : State} (hs : t.session = u.session) (hp : t.ring.p = u.ring.p) :
    t.programNow = u.programNow := by
  unfold State.programNow; rw [hs, hp]

theorem GoesOn.starts {w t : State} (h : GoesOn (judgeProgram w) t) : Starts w t := by
  obtain ⟨hq, hfails, hant, hleft, hright, htarget, hprogram, hsession, hp, hsSet, hdSet⟩ := h
  obtain ⟨hnumber, hraised, hquiet⟩ := judgeProgram_told w
  refine ⟨hq, by simpa using hfails, hant, hleft, hright, htarget, ⟨?_, fun hne => ?_, fun heq x hx hpos => ?_⟩,
    fun x hx => ?_, by simpa using hdSet⟩
  · rw [hprogram, hnumber, programNow_congr hsession hp]
  · rw [hprogram] at hne ⊢
    rw [hp]
    exact (hraised hne).imp fun n hn => (hsSet _ (.inl rfl)).mpr hn
  · rw [hprogram] at heq
    exact hquiet heq x ((hsSet x (.inl hpos)).mp hx) hpos
  · rw [hsSet x (.inr hx), mem_judgeProgram_sSet (by omega)]

/-- The state that the end of a start goes on from, and what is known of it. -/
structure Placed (f : Nat) (u : State) : Prop where
  queue : u.planner.queue = []
  play : u.engine.play = .halted
  anticipate : u.engine.anticipate = false
  frame : u.engine.f = f
  number : u.programNow = u.engine.program
  left : u.conceal.left = channelReset
  right : u.conceal.right = channelReset
  gp : u.conceal.gp = 0
  gpTarget : u.conceal.gpTarget = 0
  gc : u.conceal.gc = 4096
  gcTarget : u.conceal.gcTarget = 4096

theorem placed_placed {w : State} (f : Nat) (hq : w.planner.queue = []) (hplay : w.engine.play = .halted) :
    Placed f (judgeProgram (placed f w)) := by
  rw [judgeProgram_eq]
  exact ⟨hq, hplay, rfl, rfl, rfl, rfl, rfl, rfl, rfl, rfl, rfl⟩

theorem Placed.goesOn {f : Nat} {u : State} (h : Placed f u) : GoesOn u u :=
  ⟨h.queue, rfl, h.anticipate, h.left, h.right, h.gcTarget, rfl, rfl, rfl, fun _ _ => .rfl, rfl⟩

section
variable {u w : State} (h : GoesOn u w)
include h

/-- What leaves the ring, the planner, the program number, the flaw runs and the event unit. -/
theorem GoesOn.of_same {x : State} (hplanner : x.planner = w.planner)
    (hengine : x.engine.anticipate = w.engine.anticipate ∧ x.engine.program = w.engine.program)
    (hconceal : x.conceal.left = w.conceal.left ∧ x.conceal.right = w.conceal.right ∧ x.conceal.gcTarget = w.conceal.gcTarget)
    (hrest : x.session = w.session ∧ x.ring.p = w.ring.p ∧ x.events = w.events) : GoesOn u x := by
  obtain ⟨hant, hprogram⟩ := hengine
  obtain ⟨hleft, hright, htarget⟩ := hconceal
  obtain ⟨hsession, hp, hevents⟩ := hrest
  exact ⟨hplanner ▸ h.queue, hplanner ▸ h.fails, hant ▸ h.anticipate, hleft ▸ h.left, hright ▸ h.right,
    htarget ▸ h.target, hprogram ▸ h.program, hsession ▸ h.session, hp ▸ h.p, hevents ▸ h.sSet, hevents ▸ h.dSet⟩

theorem GoesOn.setPlay (p : Play) : GoesOn u (setPlay p w) := by
  have hant : (Machine.setPlay p w).engine.anticipate = false := by rw [setPlay_engine, h.anticipate]; exact Bool.and_false _
  have hprogram : (Machine.setPlay p w).engine.program = w.engine.program := by rw [setPlay_engine]
  refine ⟨by simpa using h.queue, by simpa using h.fails, hant, by simpa using h.left, by simpa using h.right,
    by simpa using h.target, hprogram.trans h.program, by simpa using h.session, by simpa using h.p, fun x hx => ?_,
    (setPlay_rest p w).1.trans h.dSet⟩
  rw [mem_setPlay_sSet (by omega), h.sSet x hx]

theorem GoesOn.raiseS (e : SEvent) (he : e.pos ≠ 1 ∧ e.pos ≠ 7 ∧ e.pos ≠ 8 ∧ e.pos ≠ 12) : GoesOn u (raiseS e w) := by
  refine ⟨h.queue, h.fails, h.anticipate, h.left, h.right, h.target, h.program, h.session, h.p, fun x hx => ?_, h.dSet⟩
  rw [raiseS_sSet, mem_latch_other (by omega), h.sSet x hx]

theorem GoesOn.rise (c : CounterId) (n : Nat) : GoesOn u (rise c n w) := by
  rw [rise_eq]
  refine ⟨h.queue, h.fails, h.anticipate, h.left, h.right, h.target, h.program, h.session, h.p, fun x hx => ?_,
    (rise_dSet c n w).trans h.dSet⟩
  exact (mem_rise_sSet (by omega) c n w).trans (h.sSet x hx)

theorem GoesOn.setConcealGain (gain : Nat) : GoesOn u (setConcealGain gain w) := by
  have htarget : w.concealTarget = 4096 := by
    rw [concealTarget_eq, concealAim, h.anticipate, h.left, h.right]; rfl
  have hgain : Machine.setConcealGain gain w = { w with conceal := (Machine.setConcealGain gain w).conceal } := rfl
  have hconceal : (Machine.setConcealGain gain w).conceal.left = w.conceal.left ∧
      (Machine.setConcealGain gain w).conceal.right = w.conceal.right ∧
      (Machine.setConcealGain gain w).conceal.gcTarget = 4096 := by
    unfold Machine.setConcealGain
    rw [htarget]
    dsimp only
    split
    · exact ⟨rfl, rfl, rfl⟩
    · split <;> exact ⟨rfl, rfl, rfl⟩
  obtain ⟨hleft, hright, hgc⟩ := hconceal
  exact ⟨h.queue, h.fails, h.anticipate, hleft.trans h.left, hright.trans h.right, hgc, h.program, h.session, h.p, h.sSet,
    h.dSet⟩

theorem GoesOn.flush {f : Nat} (hu : Placed f u) : Machine.flush w.ring.p w = emptied w.ring.p w := by
  have hnow : (emptied w.ring.p w).programNow = w.programNow := rfl
  rw [flush_eq h.queue, judgeProgram_same]
  rw [hnow, programNow_congr h.session h.p, hu.number]
  exact h.program.symm

end

end Sys2Proof.Machine
end

section
/-! PROOF. The ends of a start, one by one: PAUSED, PRIMING, STOPPED, the end of the disc, PLAYING, STARVED (R112, R95, R99 to
R101, R103). -/

namespace Sys2Proof.Machine

/-- The play state that a start comes to, its intent, frame index and play gain, and the record of it (R91, R112). -/
structure Lands (t : State) (play : Play) (intent : Intent) (f gp target : Nat) : Prop where
  state : t.engine.play = play
  aim : t.engine.intent = intent
  frame : t.engine.f = f
  gp : t.conceal.gp = gp
  gpTarget : t.conceal.gpTarget = target
  told : ∃ n, ⟨SEvent.playStateChanged play intent, n⟩ ∈ t.events.sSet

/-- The ring and the intake are as a flush to `a` leaves them, and nothing is counted (R15, R76). -/
structure Flushed (v t : State) (a : Nat) : Prop where
  ring : t.ring = v.ring.flush a v.session.fingerprint
  tagCounter : t.planner.tagCounter = 0
  intake : t.intake = { v.intake with run := none, latch := false }
  slotOpen : t.engine.slotOpen = false
  counters : t.events.counters = v.events.counters

theorem flushed_placed (f a : Nat) (v : State) : Flushed v (judgeProgram (placed f (emptied a v))) a := by
  refine ⟨by simp [placed, emptied], by simp [placed, emptied], by simp [placed, emptied], ?_, ?_⟩
  · rw [judgeProgram_eq]; rfl
  · rw [(judgeProgram_rest _).2]; rfl

/-- A later part that leaves the ring, the intake, the planner and the counters. -/
theorem Flushed.of_same {v u t : State} {a : Nat} (h : Flushed v u a) (hring : t.ring = u.ring)
    (hplanner : t.planner = u.planner) (hintake : t.intake = u.intake) (hopen : t.engine.slotOpen = u.engine.slotOpen)
    (hcounters : t.events.counters = u.events.counters) : Flushed v t a :=
  ⟨hring ▸ h.ring, hplanner ▸ h.tagCounter, hintake ▸ h.intake, hopen ▸ h.slotOpen, hcounters ▸ h.counters⟩

/-! ### PAUSED -/

theorem startPaused_eq (u : State) : startPaused u = { u with
    engine := { u.engine with intent := .pause, play := .paused, anticipate := false }
    events := (startPaused u).events } := by
  rw [startPaused, setPlay_eq]; rfl

theorem startPaused_rest (u : State) : (startPaused u).events.counters = u.events.counters := (setPlay_rest _ _).2

/-! ### PRIMING -/

/-- PRIMING before its conditions are judged (R103). -/
def priming (u : State) : State :=
  { setIntent .play u with engine := { (setIntent .play u).engine with holeWait := 0 } } |> startStall |> setPlay .priming
    |> setPlayGain 0 0

theorem priming_eq (u : State) : priming u = { u with
    engine := { u.engine with
      intent := .play, holeWait := 0, play := .priming, anticipate := false
      stall := some ⟨u.now, u.params.fillStallTimeout, (u.engine.stall.map StallTimer.stalled).getD false⟩ }
    conceal := { u.conceal with gp := 0, gpTarget := 0 }
    events := (priming u).events } := by
  rw [priming, setPlay_eq]; rfl

theorem priming_rest (u : State) : (priming u).events.counters = u.events.counters := (setPlay_rest _ _).2

/-- The conditions go by the ring, the start depth and T (R103). -/
theorem enterPriming_eq (u : State) : enterPriming (setIntent .play u) =
    if primed u then endPriming (priming u) else priming u := by
  have hprimed : primed (priming u) = primed u := by rw [priming_eq]; rfl
  have hplay : (priming u).engine.play = .priming := by rw [priming_eq]
  show react (priming u) = _
  unfold react
  rw [hplay, ← hprimed]

/-- With nothing held PRIMING ends at once only where the disc does (R103, R95). -/
theorem primed_empty {u : State} (he : u.ring.e = u.ring.p) (hdepth : 1 ≤ u.params.startDepth) :
    primed u = decide (u.ring.p = u.t) := by
  have hfull : u.ring.fullness = 0 := by rw [Ring.fullness, he]; omega
  have hzero : u.ring.depth = 0 := by rw [Ring.depth, hfull]; rfl
  have hdeep : ¬ u.params.startDepth ≤ 0 := by omega
  simp only [primed, hzero, hfull, he, hdeep, decide_false, Bool.false_or, beq_self_eq_true, Bool.and_true]
  rfl

section
variable {f : Nat} {u : State} (hu : Placed f u)
include hu

theorem startPaused_goesOn : GoesOn u (startPaused u) :=
  (hu.goesOn.of_same (x := setIntent .pause u) rfl ⟨rfl, rfl⟩ ⟨rfl, rfl, rfl⟩ ⟨rfl, rfl, rfl⟩).setPlay .paused

theorem startPaused_lands : Lands (startPaused u) .paused .pause f 0 0 := by
  have htold := setPlay_told (p := .paused) (s := setIntent .pause u) (by
    show _ ≠ u.engine.play; rw [hu.play]; decide)
  refine ⟨?_, ?_, ?_, ?_, ?_, htold⟩ <;> rw [startPaused_eq]
  · exact hu.frame
  · exact hu.gp
  · exact hu.gpTarget

theorem priming_goesOn : GoesOn u (priming u) := by
  have hstall : GoesOn u (startStall { setIntent .play u with
      engine := { (setIntent .play u).engine with holeWait := 0 } }) :=
    hu.goesOn.of_same rfl ⟨rfl, rfl⟩ ⟨rfl, rfl, rfl⟩ ⟨rfl, rfl, rfl⟩
  exact (hstall.setPlay .priming).of_same rfl ⟨rfl, rfl⟩ ⟨rfl, rfl, rfl⟩ ⟨rfl, rfl, rfl⟩

theorem priming_lands : Lands (priming u) .priming .play f 0 0 := by
  have htold := setPlay_told (p := .priming)
    (s := startStall { setIntent .play u with engine := { (setIntent .play u).engine with holeWait := 0 } }) (by
      show _ ≠ u.engine.play; rw [hu.play]; decide)
  refine ⟨?_, ?_, ?_, ?_, ?_, htold⟩ <;> rw [priming_eq]
  exact hu.frame

/-! ### STOPPED, and the end of the disc (R109, R95) -/

section
variable {w : State} (h : GoesOn u w)
include h

theorem stopped_eq : enterStopped w =
    setPlayGain 0 0 (setFrame 0 (emptied w.ring.p (dropWaits (setPlay .stopped w)))) := by
  have hgo : GoesOn u (dropWaits (setPlay .stopped w)) :=
    (h.setPlay .stopped).of_same rfl ⟨rfl, rfl⟩ ⟨rfl, rfl, rfl⟩ ⟨rfl, rfl, rfl⟩
  have hp : (dropWaits (setPlay .stopped w)).ring.p = w.ring.p := by rw [setPlay_eq]; rfl
  have hflush := hgo.flush hu
  rw [hp] at hflush
  rw [← hflush]; rfl

theorem stopped_goesOn : GoesOn u (enterStopped w) := by
  obtain ⟨-, hfails, hant, -, -, htarget, hprogram, hsession, hp, hsSet, hdSet⟩ := h.setPlay .stopped
  rw [stopped_eq hu h]
  have hp' : w.ring.p = u.ring.p := h.p
  exact ⟨rfl, hfails, hant, rfl, rfl, htarget, hprogram, hsession, hp', hsSet, hdSet⟩

theorem stopped_lands (hplay : w.engine.play ≠ .stopped) :
    Lands (enterStopped w) .stopped w.engine.intent 0 0 0 := by
  have htold := setPlay_told (Ne.symm hplay)
  rw [stopped_eq hu h]
  refine ⟨?_, ?_, rfl, rfl, rfl, htold⟩
  · show (setPlay .stopped w).engine.play = _; rw [setPlay_engine]
  · show (setPlay .stopped w).engine.intent = _; rw [setPlay_engine]

theorem stopped_flushed : Flushed w (enterStopped w) w.ring.p := by
  rw [stopped_eq hu h]
  refine ⟨?_, rfl, ?_, rfl, (setPlay_rest _ _).2⟩
  · show (setPlay .stopped w).ring.flush _ (setPlay .stopped w).session.fingerprint = _; rw [setPlay_eq]
  · show { (setPlay .stopped w).intake with run := none, latch := false } = _; rw [setPlay_eq]

/-- The end of the disc is STOPPED with intent STOP, and END_OF_DISC (R95). -/
theorem endOfDisc_ends (hplay : w.engine.play ≠ .stopped) :
    GoesOn u (endOfDisc w) ∧ Lands (endOfDisc w) .stopped .stop 0 0 0 ∧ Flushed w (endOfDisc w) w.ring.p ∧
    ∃ n, ⟨SEvent.endOfDisc w.t, n⟩ ∈ (endOfDisc w).events.sSet := by
  have hstop : GoesOn u (setIntent .stop w) := h.of_same rfl ⟨rfl, rfl⟩ ⟨rfl, rfl, rfl⟩ ⟨rfl, rfl, rfl⟩
  obtain ⟨hstate, hintent, hframe, hgp, htarget, n, hn⟩ := stopped_lands hu hstop hplay
  obtain ⟨hring, htag, hintake, hopen, hcounters⟩ := stopped_flushed hu hstop
  refine ⟨(stopped_goesOn hu hstop).raiseS _ (by simp [SEvent.pos]), ⟨hstate, hintent, hframe, hgp, htarget, n, ?_⟩,
    ⟨hring, htag, hintake, hopen, hcounters⟩, ?_⟩
  · exact (mem_latch_other (by simp [SEvent.pos]) _).mpr hn
  · exact exists_mem_latch ..

end

end

end Sys2Proof.Machine
end

section
/-! PROOF. The ends of a warm start with play intended: PLAYING, STARVED, and the hole wait of 0 (R112, R99 to R101). -/

namespace Sys2Proof.Machine

/-! ### PLAYING (R92, R112) -/

/-- A warm start on a playable slot P. -/
def warmPlaying (u : State) : State := setIntent .play u |> openAndPlay |> setPlayGain 0 4096

/-- With no order pending a slot opens in the engine alone. -/
theorem openSlot_eq {w : State} (hq : w.planner.queue = []) :
    openSlot w = { w with engine := { w.engine with slotOpen := true } } := by
  simp [openSlot, trimAll, hq]

theorem openAndPlay_eq {w : State} (hq : w.planner.queue = []) : openAndPlay w =
    setPlay .playing { w with engine := { w.engine with slotOpen := true, holeWait := 0, stall := none } } := by
  rw [openAndPlay, openSlot_eq hq]; rfl

section
variable {f : Nat} {u : State} (hu : Placed f u)
include hu

theorem warmPlaying_eq : warmPlaying u = { u with
    engine := { u.engine with
      intent := .play, slotOpen := true, holeWait := 0, stall := none, play := .playing, anticipate := false }
    conceal := { u.conceal with gp := 0, gpTarget := 4096, gpStep := rampStep u.params.rp }
    events := (warmPlaying u).events } := by
  rw [warmPlaying, openAndPlay_eq (w := setIntent .play u) hu.queue, setPlay_eq]
  simp only [setIntent, hu.anticipate, Bool.and_false, setPlayGain]
  rfl

theorem warmPlaying_goesOn : GoesOn u (warmPlaying u) := by
  rw [warmPlaying, openAndPlay_eq (w := setIntent .play u) hu.queue]
  have hopen : GoesOn u { setIntent .play u with
      engine := { (setIntent .play u).engine with slotOpen := true, holeWait := 0, stall := none } } :=
    hu.goesOn.of_same rfl ⟨rfl, rfl⟩ ⟨rfl, rfl, rfl⟩ ⟨rfl, rfl, rfl⟩
  exact (hopen.setPlay .playing).of_same rfl ⟨rfl, rfl⟩ ⟨rfl, rfl, rfl⟩ ⟨rfl, rfl, rfl⟩

theorem warmPlaying_lands : Lands (warmPlaying u) .playing .play f 0 4096 ∧
    (warmPlaying u).events.counters = u.events.counters := by
  have hplay : Play.playing ≠ u.engine.play := by rw [hu.play]; decide
  have hdef : (warmPlaying u).events = (setPlay .playing { setIntent .play u with
      engine := { (setIntent .play u).engine with slotOpen := true, holeWait := 0, stall := none } }).events := by
    rw [warmPlaying, openAndPlay_eq (w := setIntent .play u) hu.queue]; rfl
  have htold := setPlay_told (p := .playing) (s := { setIntent .play u with
    engine := { (setIntent .play u).engine with slotOpen := true, holeWait := 0, stall := none } }) hplay
  refine ⟨⟨?_, ?_, ?_, ?_, ?_, hdef ▸ htold⟩, hdef ▸ (setPlay_rest ..).2⟩ <;> rw [warmPlaying_eq hu]
  exact hu.frame

end

/-! ### STARVED (R99) -/

/-- A warm start on a slot P that is not playable, before a hole wait of 0 is judged. -/
def warmStarved (u : State) : State :=
  { setPlayGain 4096 4096 (setIntent .play u) with
    engine := { (setPlayGain 4096 4096 (setIntent .play u)).engine with holeWait := 0 } }
    |> setPlay .starved |> raiseS (.starved u.ring.p) |> rise .starveEpisodes 1 |> startStall

theorem warmStarved_eq (u : State) : warmStarved u = { u with
    engine := { u.engine with
      intent := .play, holeWait := 0, play := .starved, anticipate := false
      stall := some ⟨u.now, u.params.fillStallTimeout, (u.engine.stall.map StallTimer.stalled).getD false⟩ }
    conceal := { u.conceal with gp := 4096, gpTarget := 4096 }
    events := (warmStarved u).events } := by
  rw [warmStarved, rise_eq, setPlay_eq]
  simp only [raiseS, setIntent, setPlayGain, startStall, Play.producing, Bool.false_and]
  rfl

/-- A counter goes by the event unit's counters. -/
theorem counter_congr {s t : State} (h : t.events.counters = s.events.counters) (c : CounterId) :
    t.counter c = s.counter c := by simp [State.counter, h]

theorem warmStarved_counter (u : State) :
    (warmStarved u).counter .starveEpisodes = min (u.counter .starveEpisodes + 1) 16777215 ∧
    ∀ c, c ≠ .starveEpisodes → (warmStarved u).counter c = u.counter c := by
  have hbefore : ∀ c, (raiseS (.starved u.ring.p) (setPlay .starved { setPlayGain 4096 4096 (setIntent .play u) with
      engine := { (setPlayGain 4096 4096 (setIntent .play u)).engine with holeWait := 0 } })).counter c = u.counter c :=
    counter_congr (setPlay_rest ..).2
  have hafter : ∀ c, (warmStarved u).counter c = (rise .starveEpisodes 1 (raiseS (.starved u.ring.p)
      (setPlay .starved { setPlayGain 4096 4096 (setIntent .play u) with
        engine := { (setPlayGain 4096 4096 (setIntent .play u)).engine with holeWait := 0 } }))).counter c := fun _ => rfl
  refine ⟨?_, fun c hc => ?_⟩
  · rw [hafter, rise_counter_same _ (by decide), hbefore]
  · rw [hafter, rise_counter_other hc, hbefore]

/-- The wait at a hole ends at once where the hole wait is 0 (R99, R101). -/
theorem enterStarved_eq {u : State} (hplay : u.engine.play = .halted) :
    enterStarved (setPlayGain 4096 4096 (setIntent .play u)) =
      if u.holeWaitLimit = 0 ∧ (u.slot u.ring.p).isMissing = true then expireHole (warmStarved u) else warmStarved u := by
  have hpriming : (setPlayGain 4096 4096 (setIntent .play u)).engine.play ≠ .priming := by
    show u.engine.play ≠ _; rw [hplay]; decide
  have hstall : enterStarved (setPlayGain 4096 4096 (setIntent .play u)) =
      if u.holeWaitLimit = 0 then judgeHoleWait (warmStarved u) else warmStarved u := by
    simp only [enterStarved, if_neg hpriming]
    rfl
  have hover : holeWaitOver (warmStarved u) = ((u.slot u.ring.p).isMissing && decide (u.holeWaitLimit ≤ 0)) := by
    rw [warmStarved_eq]; rfl
  rw [hstall]
  by_cases hlimit : u.holeWaitLimit = 0
  · simp [hlimit, judgeHoleWait, hover]
  · rw [if_neg hlimit, if_neg fun h => hlimit h.1]

section
variable {f : Nat} {u : State} (hu : Placed f u)
include hu

theorem warmStarved_goesOn : GoesOn u (warmStarved u) := by
  have hgain : GoesOn u { setPlayGain 4096 4096 (setIntent .play u) with
      engine := { (setPlayGain 4096 4096 (setIntent .play u)).engine with holeWait := 0 } } :=
    hu.goesOn.of_same rfl ⟨rfl, rfl⟩ ⟨rfl, rfl, rfl⟩ ⟨rfl, rfl, rfl⟩
  exact (((hgain.setPlay .starved).raiseS (.starved u.ring.p) (by simp [SEvent.pos])).rise .starveEpisodes 1).of_same
    rfl ⟨rfl, rfl⟩ ⟨rfl, rfl, rfl⟩ ⟨rfl, rfl, rfl⟩

theorem warmStarved_lands : Lands (warmStarved u) .starved .play f 4096 4096 ∧
    ∃ n, ⟨SEvent.starved u.ring.p, n⟩ ∈ (warmStarved u).events.sSet := by
  have hmem : ∀ x : Latched SEvent, x.ev.pos ≠ 13 → (x ∈ (warmStarved u).events.sSet ↔
      x ∈ (raiseS (.starved u.ring.p) (setPlay .starved { setPlayGain 4096 4096 (setIntent .play u) with
        engine := { (setPlayGain 4096 4096 (setIntent .play u)).engine with holeWait := 0 } })).events.sSet) :=
    fun x hx => mem_rise_sSet hx _ _ _
  obtain ⟨n, hn⟩ := setPlay_told (p := .starved) (s := { setPlayGain 4096 4096 (setIntent .play u) with
    engine := { (setPlayGain 4096 4096 (setIntent .play u)).engine with holeWait := 0 } }) (by
      show _ ≠ u.engine.play; rw [hu.play]; decide)
  refine ⟨⟨?_, ?_, ?_, ?_, ?_, n, (hmem _ (by simp [SEvent.pos])).mpr ?_⟩, ?_⟩
  · rw [warmStarved_eq]
  · rw [warmStarved_eq]
  · rw [warmStarved_eq]; exact hu.frame
  · rw [warmStarved_eq]
  · rw [warmStarved_eq]
  · exact (mem_latch_other (by simp [SEvent.pos]) _).mpr hn
  · exact (exists_mem_latch ..).imp fun n hn => (hmem _ (by simp [SEvent.pos])).mpr hn

end

/-! ### The hole wait of 0 (R101) -/

/-- A hole at P given up, before its slot opens. -/
def abandoned (w : State) : State :=
  { w with ring := w.ring.giveUpHole w.ring.p } |> raiseS (.slotAbandoned w.ring.p w.ring.p) |> rise .slotsAbandoned 1

theorem giveUpHole_frame (a : Nat) (r : Ring) : r.giveUpHole a = { r with slots := (r.giveUpHole a).slots } := by
  unfold Ring.giveUpHole; split <;> rfl

theorem giveUpHole_p (a : Nat) (r : Ring) : (r.giveUpHole a).p = r.p := by rw [giveUpHole_frame]

/-- A hole given up becomes VOID, and the other slots of the window stay (R10). -/
theorem giveUpHole_slot {r : Ring} (hr : r.Law) {a : Nat} (hlo : r.p ≤ a) (hhi : a < r.p + r.len)
    (hm : (r.slot a).isMissing = true) : (r.giveUpHole a).slot a = .void a ∧
    ∀ x, r.p ≤ x → x < r.p + r.len → x ≠ a → (r.giveUpHole a).slot x = r.slot x := by
  have hne : (r.slot a).isEmpty = false := by cases h : r.slot a <;> simp_all [Slot.isMissing, Slot.isEmpty]
  have hcond : (r.holds a && (r.slot a).isMissing) = true := by rw [holds_of_nonempty hr hlo hhi hne, hm]; rfl
  have hgive : r.giveUpHole a = r.setSlot a (.void a) := if_pos hcond
  rw [hgive]
  exact ⟨slot_setSlot_same a _ hr.1, fun x hx hx' hxa => slot_setSlot_ne _ ⟨hlo, hhi⟩ ⟨hx, hx'⟩ hxa⟩

theorem abandoned_eq (w : State) :
    abandoned w = { w with ring := w.ring.giveUpHole w.ring.p, events := (abandoned w).events } := by
  rw [abandoned, rise_eq]; rfl

theorem abandoned_counter (w : State) :
    (abandoned w).counter .slotsAbandoned = min (w.counter .slotsAbandoned + 1) 16777215 ∧
    ∀ c, c ≠ .slotsAbandoned → (abandoned w).counter c = w.counter c :=
  ⟨rise_counter_same _ (by decide) _, fun _ hc => rise_counter_other hc _ _⟩

theorem abandoned_told (w : State) : ∃ n, ⟨SEvent.slotAbandoned w.ring.p w.ring.p, n⟩ ∈ (abandoned w).events.sSet :=
  (exists_mem_latch ..).imp fun _ hn => (mem_rise_sSet (by simp [SEvent.pos]) _ _ _).mpr hn

section
variable {u w : State} (h : GoesOn u w)
include h

theorem abandoned_goesOn : GoesOn u (abandoned w) :=
  ((h.of_same (x := { w with ring := w.ring.giveUpHole w.ring.p }) rfl ⟨rfl, rfl⟩ ⟨rfl, rfl, rfl⟩
    ⟨rfl, giveUpHole_p w.ring.p w.ring, rfl⟩).raiseS (.slotAbandoned w.ring.p w.ring.p)
      (by simp [SEvent.pos])).rise .slotsAbandoned 1

/-- The hole given up, STARVED ends in PLAYING (R100, R101). -/
theorem expireHole_eq : expireHole w = setConcealGain 0 (setPlay .playing
    { abandoned w with engine := { (abandoned w).engine with slotOpen := true, holeWait := 0, stall := none } }) := by
  show setConcealGain 0 (setPlay .playing (dropWaits (openSlot (abandoned w)))) = _
  rw [openSlot_eq (abandoned_goesOn h).queue]
  rfl

theorem expireHole_goesOn : GoesOn u (expireHole w) := by
  rw [expireHole_eq h]
  have hopen : GoesOn u
      { abandoned w with engine := { (abandoned w).engine with slotOpen := true, holeWait := 0, stall := none } } :=
    (abandoned_goesOn h).of_same rfl ⟨rfl, rfl⟩ ⟨rfl, rfl, rfl⟩ ⟨rfl, rfl, rfl⟩
  exact (hopen.setPlay .playing).setConcealGain 0

theorem expireHole_state : expireHole w = { w with
    ring := w.ring.giveUpHole w.ring.p
    engine := { w.engine with slotOpen := true, holeWait := 0, stall := none, play := .playing, anticipate := false }
    conceal := gainsFromStarved w.params false w.conceal
    events := (expireHole w).events } := by
  rw [expireHole_eq h, setPlay_eq, setConcealGain_zero, abandoned_eq]
  simp only [h.anticipate, Bool.and_false]

theorem expireHole_events (hplay : w.engine.play ≠ .playing) :
    (expireHole w).events.counters = (abandoned w).events.counters ∧
    (∃ n, ⟨SEvent.playStateChanged .playing w.engine.intent, n⟩ ∈ (expireHole w).events.sSet) ∧
    ∃ n, ⟨SEvent.slotAbandoned w.ring.p w.ring.p, n⟩ ∈ (expireHole w).events.sSet := by
  have hevents : (expireHole w).events = (setPlay .playing
      { abandoned w with engine := { (abandoned w).engine with slotOpen := true, holeWait := 0, stall := none } }).events := by
    rw [expireHole_eq h]; rfl
  have hsame : (abandoned w).engine = w.engine := by rw [abandoned_eq]
  have htold := setPlay_told (p := .playing)
    (s := { abandoned w with engine := { (abandoned w).engine with slotOpen := true, holeWait := 0, stall := none } })
    (by rw [hsame]; exact Ne.symm hplay)
  rw [hsame] at htold
  rw [hevents]
  refine ⟨(setPlay_rest ..).2, hsame ▸ htold, (abandoned_told w).imp fun n hn => ?_⟩
  exact (mem_setPlay_sSet (by simp [SEvent.pos]) _ _).mpr hn

end

end Sys2Proof.Machine
end

section
/-! PROOF. The entry to PRESENT: the resume entry that matches, the part before its start, and what every start has told by the
end of its event (R138 to R141, R88, R96). -/

namespace Sys2Proof.Machine

/-! ### The resume entry (R138) -/

/-- An entry of the directory's disc matches it (R138). -/
def ResumeEntry.Matches (fp : BitVec 32) (n t : Nat) (e : ResumeEntry) : Prop :=
  e.fingerprint = fp ∧ e.programs = n ∧ e.t = t

theorem matchEntry_none {fp : BitVec 32} {n t : Nat} {table : List ResumeEntry}
    (h : ∀ e ∈ table, ¬ e.Matches fp n t) : matchEntry fp n t table = none := by
  refine List.find?_eq_none.mpr fun x hx hmatch => ?_
  obtain ⟨-, hget⟩ := List.mk_mem_zipIdx_iff_le_and_getElem?_sub.mp hx
  refine h x.1 (List.mem_of_getElem? hget) ?_
  simpa [ResumeEntry.Matches, and_assoc] using hmatch

/-- No two entries of a lawful table have one fingerprint, so that the one that matches is found with its rank (R144). -/
theorem matchEntry_some {x : Session} (hx : x.TableLaw) {fp : BitVec 32} {n t k : Nat} {e : ResumeEntry}
    (he : x.table[k]? = some e) (h : e.Matches fp n t) : matchEntry fp n t x.table = some (e, k + 1) := by
  obtain ⟨hfp, hn, ht⟩ := h
  cases hm : matchEntry fp n t x.table with
  | none =>
    have hin : (e, k + 1) ∈ x.table.zipIdx 1 :=
      List.mk_mem_zipIdx_iff_le_and_getElem?_sub.mpr ⟨by omega, by simpa using he⟩
    exact absurd (List.find?_eq_none.mp hm _ hin) (by simp [hfp, hn, ht])
  | some y =>
    obtain ⟨e', rank⟩ := y
    obtain ⟨hrank, hget⟩ := List.mk_mem_zipIdx_iff_le_and_getElem?_sub.mp (List.mem_of_find?_eq_some hm)
    obtain ⟨-, hfp', -⟩ := matchEntry_mem hm
    have hk : k < (x.table.map ResumeEntry.fingerprint).length := by
      rw [List.length_map]; exact (List.getElem?_eq_some_iff.mp he).1
    have hindex : k = rank - 1 := (List.getElem?_inj hk hx.2).mp (by simp [he, hget, hfp, hfp'])
    rw [← hindex, he] at hget
    cases hget
    rw [hindex]
    congr 2
    omega

/-- The first program of an ascending list is number 1 at its start (R96). -/
theorem programAt_head {l : List Nat} (h : l.Pairwise (· < ·)) (hne : l ≠ []) : programAt l (l.headD 0) = 1 := by
  obtain ⟨a, rest, rfl⟩ := List.exists_cons_of_ne_nil hne
  have hrest : ∀ k, (rest.zipIdx k).foldl (fun acc x => if x.1 ≤ a then x.2 else acc) 1 = 1 := by
    have hlt := (List.pairwise_cons.mp h).1
    clear h hne
    induction rest with
    | nil => exact fun _ => rfl
    | cons b rest ih =>
      intro k
      have hb : ¬ b ≤ a := by have := hlt b (by simp); omega
      rw [List.zipIdx_cons, List.foldl_cons, if_neg hb]
      exact ih (fun x hx => hlt x (by simp [hx])) (k + 1)
  rw [programAt, List.zipIdx_cons, List.foldl_cons]
  simpa using hrest 2

/-! ### The part before its start (R139) -/

/-- PRESENT with the counters, the failure count and the rates afresh, and the record of the disc (R139). -/
def entered (cap : Option Rate) (e : SEvent) (d : Directory) (fp : BitVec 32) (s : State) : State :=
  presentWith d fp s |> clearCounters |> setFails 0 |> ratesToNone cap |> raiseS e

theorem startOn_matched {d : Directory} {fp : BitVec 32} {s : State} {e : ResumeEntry} {rank : Nat}
    (h : matchEntry fp d.starts.length d.t s.session.table = some (e, rank)) :
    startOn d fp s = startMatched e (entered e.cap (.discMatched rank e.address e.frame e.intent) d fp s) := by
  unfold startOn; rw [h]; rfl

theorem startOn_unmatched {d : Directory} {fp : BitVec 32} {s : State}
    (h : matchEntry fp d.starts.length d.t s.session.table = none) :
    startOn d fp s = startUnmatched (d.startOf 1) (entered none (.discIdentified fp d.rate d.starts.length d.t) d fp s) := by
  unfold startOn; rw [h]; rfl

section
variable (cap : Option Rate) (e : SEvent) (d : Directory) (fp : BitVec 32) (s : State)

theorem entered_eq : entered cap e d fp s = { presentWith d fp s with
    planner := { s.planner with fails := 0 }
    rates := ⟨none, 0, cap⟩
    events := (entered cap e d fp s).events } := by
  rw [entered, ratesToNone_state]; rfl

theorem entered_counters : (entered cap e d fp s).events.counters = Vector.replicate 15 ⟨0, false⟩ := by
  rw [entered]
  exact (ratesToNone_events cap _).1

theorem entered_dSet : (entered cap e d fp s).events.dSet = if s.rates.agreed ≠ .x1 ∨ s.rates.requested ≠ .x1
    then latch DEvent.pos (.rateChanged .x1 .x1 .none .reset) s.events.dSet else s.events.dSet :=
  (ratesToNone_events cap (setFails 0 (clearCounters (presentWith d fp s)))).2.2

theorem entered_sSet : (entered cap e d fp s).events.sSet = latch SEvent.pos e (if s.rates.agreed ≠ .x1 ∨ s.rates.requested ≠ .x1
    then latch SEvent.pos (.rateChanged .x1 .x1 .none .reset) s.events.sSet else s.events.sSet) := by
  rw [entered, raiseS_sSet]
  exact congrArg _ (ratesToNone_events cap (setFails 0 (clearCounters (presentWith d fp s)))).2.1

end

/-! ### What every start has told at the end of its event -/

/-- What each entry to PRESENT leaves and tells, whatever start it makes (R139, R88, R96). -/
structure Begun (cap : Option Rate) (d : Directory) (fp : BitVec 32) (s t : State) : Prop where
  session : t.session = { s.session with
    state := .present, directory := some d, fingerprint := some fp, identify := none }
  rates : t.rates = ⟨none, 0, cap⟩
  fails : t.planner.fails = 0
  scanned : t.planner.scanDue = false
  anticipate : t.engine.anticipate = false
  left : t.conceal.left = ⟨0, none⟩
  right : t.conceal.right = ⟨0, none⟩
  target : t.conceal.gcTarget = 4096
  program : ProgramTold s t
  pause : FlagTold s t
  drop : RatesDropTold s t
  seek : ∃ n, ⟨DEvent.seekRequested t.ring.e, n⟩ ∈ t.events.dSet
  rest : t.line = s.line ∧ t.power = s.power ∧ t.params = s.params ∧ t.sPort = s.sPort ∧ t.dPort = s.dPort ∧ t.now = s.now

/-- The end of the event: the scan, and SEEK_REQUESTED for E (R139, log 15). -/
def begun (s t : State) : State := finish s (raiseD (.seekRequested t.ring.e) (dueScan t))

/-- It leaves all but the planner and the D-port's set. -/
theorem begun_frame (s t : State) : (begun s t).ring = t.ring ∧ (begun s t).intake = t.intake ∧
    (begun s t).engine = t.engine ∧ (begun s t).conceal = t.conceal ∧ (begun s t).session = t.session ∧
    (begun s t).events.sSet = t.events.sSet ∧ (begun s t).events.counters = t.events.counters :=
  ⟨by simp [begun], by simp [begun], by simp [begun], by simp [begun], by simp [begun], (finish_sSet _ _).1,
    (finish_sSet _ _).2⟩

theorem begun_planner (s t : State) : (begun s t).planner =
    { t.planner with queue := scanned (begun s t) t.planner.queue, scanDue := false } :=
  finish_planner s _

theorem mem_begun_dSet {x : Latched DEvent} (h : x.ev.pos ≠ 0 ∧ x.ev.pos ≠ 3 ∧ x.ev.pos ≠ 4) (s t : State) :
    x ∈ (begun s t).events.dSet ↔ x ∈ t.events.dSet := by
  obtain ⟨h0, h3, h4⟩ := h
  rw [begun, mem_finish_dSet h0 h3, raiseD_dSet, mem_latch_other h4]
  rfl

section
variable {cap : Option Rate} {e : SEvent} {d : Directory} {fp : BitVec 32} {s s' t : State}
  (he : e.pos = 7 ∨ e.pos = 8) (h : Starts (entered cap e d fp s') t)
include he h

theorem Starts.record : ∃ n, ⟨e, n⟩ ∈ (begun s t).events.sSet := by
  rw [(begun_frame s t).2.2.2.2.2.1]
  obtain ⟨n, hn⟩ := exists_mem_latch (pos := SEvent.pos) e (if s'.rates.agreed ≠ .x1 ∨ s'.rates.requested ≠ .x1
    then latch SEvent.pos (.rateChanged .x1 .x1 .none .reset) s'.events.sSet else s'.events.sSet)
  exact ⟨n, (h.sSet _ (he.imp_right .inl)).mpr (entered_sSet cap e d fp s' ▸ hn)⟩

variable (hs : s' = { s with intake := s'.intake })
include hs

/-- RATE_CHANGED with cause RESET, on both ports (R88, R89). -/
theorem Starts.ratesDrop : RatesDropTold s (begun s t) := by
  have hrates : s'.rates = s.rates := by rw [hs]
  have hevents : s'.events = s.events := by rw [hs]
  have hsSet : ∀ x : Latched SEvent, x.ev.pos = 12 → (x ∈ (begun s t).events.sSet ↔
      x ∈ if s.rates.agreed ≠ .x1 ∨ s.rates.requested ≠ .x1
        then latch SEvent.pos (.rateChanged .x1 .x1 .none .reset) s.events.sSet else s.events.sSet) := fun x hx => by
    rw [(begun_frame s t).2.2.2.2.2.1, h.sSet x (by omega), entered_sSet, mem_latch_other (by omega), hrates, hevents]
  have hdSet : ∀ x : Latched DEvent, x.ev.pos = 6 → (x ∈ (begun s t).events.dSet ↔
      x ∈ if s.rates.agreed ≠ .x1 ∨ s.rates.requested ≠ .x1
        then latch DEvent.pos (.rateChanged .x1 .x1 .none .reset) s.events.dSet else s.events.dSet) := fun x hx => by
    rw [mem_begun_dSet (by omega), h.dSet, entered_dSet, hrates, hevents]
  refine ⟨fun hdrop => ⟨?_, ?_⟩, fun ha hr => ⟨fun x hx hpos => ?_, fun x hx hpos => ?_⟩⟩
  · obtain ⟨n, hn⟩ := exists_mem_latch (pos := SEvent.pos) (.rateChanged .x1 .x1 .none .reset) s.events.sSet
    exact ⟨n, (hsSet _ rfl).mpr (by rwa [if_pos hdrop])⟩
  · obtain ⟨n, hn⟩ := exists_mem_latch (pos := DEvent.pos) (.rateChanged .x1 .x1 .none .reset) s.events.dSet
    exact ⟨n, (hdSet _ rfl).mpr (by rwa [if_pos hdrop])⟩
  · have := (hsSet x hpos).mp hx
    rwa [if_neg (by simp [ha, hr])] at this
  · have := (hdSet x hpos).mp hx
    rwa [if_neg (by simp [ha, hr])] at this

theorem Starts.programTold : ProgramTold s (begun s t) := by
  obtain ⟨hnumber, hraised, hquiet⟩ := h.program
  obtain ⟨hring, -, hengine, -, hsess, hsSet, -⟩ := begun_frame s t
  have hprogram : (entered cap e d fp s').engine.program = s.engine.program := by rw [entered_eq, hs]; rfl
  have hmem : ∀ x : Latched SEvent, x.ev.pos = 1 → (x ∈ (entered cap e d fp s').events.sSet ↔ x ∈ s.events.sSet) :=
    fun x hx => by
      rw [entered_sSet, mem_latch_other (by omega), hs]
      split
      · exact mem_latch_other (by rw [hx]; decide) _
      · rfl
  rw [hprogram] at hraised hquiet
  refine ⟨?_, fun hne => ?_, fun heq x hx hpos => ?_⟩
  · rw [hengine, hnumber, programNow_congr hsess (by rw [hring])]
  · rw [hengine] at hne ⊢
    rw [hring, hsSet]
    exact hraised hne
  · rw [hengine] at heq
    rw [hsSet] at hx
    exact (hmem x hpos).mp (hquiet heq x hx hpos)

theorem Starts.begun (hrest : t.session = (entered cap e d fp s').session ∧ t.rates = (entered cap e d fp s').rates ∧
    t.line = s'.line ∧ t.power = s'.power ∧ t.params = s'.params ∧ t.sPort = s'.sPort ∧ t.dPort = s'.dPort ∧
    t.now = s'.now) : Begun cap d fp s (begun s t) := by
  obtain ⟨hsession, hrates, hline, hpower, hparams, hsPort, hdPort, hnow⟩ := hrest
  obtain ⟨hring, -, hengine, hconceal, hsess, -, -⟩ := begun_frame s t
  refine ⟨?_, ?_, ?_, by rw [begun_planner], by rw [hengine, h.anticipate], by rw [hconceal, h.left]; rfl,
    by rw [hconceal, h.right]; rfl, by rw [hconceal, h.target], h.programTold he hs, ?_, h.ratesDrop he hs, ?_, ?_⟩
  · rw [hsess, hsession, entered_eq, hs]; rfl
  · have : (Machine.begun s t).rates = t.rates := by simp [Machine.begun]
    rw [this, hrates, entered_eq]
  · rw [begun_planner]
    show t.planner.fails = 0
    rw [h.fails, entered_eq]
  · refine finish_flagTold fun x hx => ?_
    rw [raiseD_dSet, mem_latch_other (by rw [hx]; simp [DEvent.pos])]
    show x ∈ t.events.dSet ↔ _
    rw [h.dSet, entered_dSet, hs]
    split
    · exact mem_latch_other (by rw [hx]; decide) _
    · rfl
  · obtain ⟨n, hn⟩ := exists_mem_latch (pos := DEvent.pos) (.seekRequested t.ring.e) (dueScan t).events.dSet
    rw [hring]
    exact ⟨n, (mem_finish_dSet (by simp [DEvent.pos]) (by simp [DEvent.pos]) _ _).mpr hn⟩
  · have hframe : (Machine.begun s t).line = t.line ∧ (Machine.begun s t).power = t.power ∧
        (Machine.begun s t).params = t.params ∧ (Machine.begun s t).sPort = t.sPort ∧
        (Machine.begun s t).dPort = t.dPort ∧ (Machine.begun s t).now = t.now := by simp [Machine.begun]
    obtain ⟨h1, h2, h3, h4, h5, h6⟩ := hframe
    rw [h1, h2, h3, h4, h5, h6, hline, hpower, hparams, hsPort, hdPort, hnow, hs]
    exact ⟨rfl, rfl, rfl, rfl, rfl, rfl⟩

end

end Sys2Proof.Machine
end

section
/-! PROOF. The starts: warm, cold and without a match (R112, R140, R141). -/

namespace Sys2Proof.Machine

/-! ### Where a warm and a cold start begin -/

/-- A warm start at frame `f`: the ring as it was kept (R140). -/
def warmBase (f : Nat) (v : State) : State := judgeProgram (placed f v)

/-- A cold start at `a` and frame `f`: the ring flushed (R140, R141). -/
def coldBase (a f : Nat) (v : State) : State := judgeProgram (placed f (emptied a v))

/-- What a start leaves of the ring, the planner and the intake where it keeps them. -/
structure KeptAs (v t : State) : Prop where
  planner : t.planner = v.planner
  intake : t.intake = v.intake
  ring : t.ring = { v.ring with slots := t.ring.slots }

theorem warmBase_placed {v : State} (hq : v.planner.queue = []) (hplay : v.engine.play = .halted) (f : Nat) :
    Placed f (warmBase f v) := placed_placed f hq hplay

theorem coldBase_placed {v : State} (hplay : v.engine.play = .halted) (a f : Nat) : Placed f (coldBase a f v) :=
  placed_placed f rfl hplay

theorem warmBase_eq (f : Nat) (v : State) : warmBase f v = { placed f v with
    engine := { (placed f v).engine with program := v.programNow }, events := (warmBase f v).events } :=
  judgeProgram_eq _

theorem coldBase_eq (a f : Nat) (v : State) : coldBase a f v = { placed f (emptied a v) with
    engine := { (placed f (emptied a v)).engine with program := (emptied a v).programNow }
    events := (coldBase a f v).events } :=
  judgeProgram_eq _

theorem warmBase_counters (f : Nat) (v : State) : (warmBase f v).events.counters = v.events.counters :=
  (judgeProgram_rest _).2

/-- From a start's base on, what has gone on there is what the start leaves. -/
theorem GoesOn.warm {f : Nat} {v t : State} (h : GoesOn (warmBase f v) t) : Starts v t := by
  obtain ⟨hq, hfails, hant, hleft, hright, htarget, ⟨hnumber, hraised, hquiet⟩, hsSet, hdSet⟩ := GoesOn.starts h
  exact ⟨hq, hfails, hant, hleft, hright, htarget, ⟨hnumber, hraised, hquiet⟩, hsSet, hdSet⟩

theorem GoesOn.cold {a f : Nat} {v t : State} (h : GoesOn (coldBase a f v) t) : Starts v t := by
  obtain ⟨hq, hfails, hant, hleft, hright, htarget, ⟨hnumber, hraised, hquiet⟩, hsSet, hdSet⟩ := GoesOn.starts h
  exact ⟨hq, hfails, hant, hleft, hright, htarget, ⟨hnumber, hraised, hquiet⟩, hsSet, hdSet⟩

/-! ### The starts by their conditions -/

theorem startMatched_warm {e : ResumeEntry} {v : State}
    (h : v.ring.owner = v.session.fingerprint ∧ v.ring.p = e.address) : startMatched e v =
      if v.params.autoResume && e.intent == .playing then startWarmPlay (warmBase e.frame v)
      else startPaused (warmBase e.frame v) := if_pos h

theorem startMatched_cold {e : ResumeEntry} {v : State} (hq : v.planner.queue = [])
    (h : ¬ (v.ring.owner = v.session.fingerprint ∧ v.ring.p = e.address)) : startMatched e v =
      if v.params.autoResume && e.intent == .playing then enterPriming (setIntent .play (coldBase e.address e.frame v))
      else startPaused (coldBase e.address e.frame v) := by
  have hbase : setFrame e.frame (startConceal (flush e.address v)) = coldBase e.address e.frame v := by
    rw [flush_eq hq, placed_eq, placed_judgeProgram]; rfl
  rw [← hbase]
  exact if_neg h

theorem startUnmatched_eq {v : State} (hq : v.planner.queue = []) (first : Nat) : startUnmatched first v =
    if v.params.autoPlay then enterPriming (setIntent .play (coldBase first 0 v))
    else enterStopped (setIntent .stop (coldBase first 0 v)) := by
  have hbase : setFrame 0 (startConceal (flush first v)) = coldBase first 0 v := by
    rw [flush_eq hq, placed_eq, placed_judgeProgram]; rfl
  have hparams : (coldBase first 0 v).params = v.params := by rw [coldBase_eq]; rfl
  have hdef : startUnmatched first v = if (setFrame 0 (startConceal (flush first v))).params.autoPlay
      then enterPriming (setIntent .play (setFrame 0 (startConceal (flush first v))))
      else enterStopped (setIntent .stop (setFrame 0 (startConceal (flush first v)))) := rfl
  rw [hdef, hbase, hparams]

/-- Where a cold start has no more of the disc, PRIMING ends it at once (R103, R95). -/
theorem enterPriming_empty {u : State} (he : u.ring.e = u.ring.p) (hdepth : 1 ≤ u.params.startDepth) :
    enterPriming (setIntent .play u) = if u.ring.p = u.t then endOfDisc (priming u) else priming u := by
  rw [enterPriming_eq, primed_empty he hdepth]
  by_cases hp : u.ring.p = u.t
  · have hp' : (priming u).ring.p = (priming u).t := by rw [priming_eq]; exact hp
    simp only [hp, decide_true, if_true, endPriming, if_pos hp']
  · simp only [hp, decide_false, if_false, Bool.false_eq_true]

section
variable {f : Nat} {u : State} (hu : Placed f u)
include hu

theorem stops : GoesOn u (enterStopped (setIntent .stop u)) :=
  stopped_goesOn hu (hu.goesOn.of_same (x := setIntent .stop u) rfl ⟨rfl, rfl⟩ ⟨rfl, rfl, rfl⟩ ⟨rfl, rfl, rfl⟩)

theorem enterPriming_goesOn (he : u.ring.e = u.ring.p) (hdepth : 1 ≤ u.params.startDepth) :
    GoesOn u (enterPriming (setIntent .play u)) := by
  rw [enterPriming_empty he hdepth]
  split
  · refine (endOfDisc_ends hu (priming_goesOn hu) ?_).1
    rw [(priming_lands hu).state]; decide
  · exact priming_goesOn hu

/-- The warm start with play intended, by what stands at P (R112). -/
theorem startWarmPlay_eq : startWarmPlay u =
    if u.ring.p = u.t then endOfDisc (setIntent .play u)
    else if u.playable u.ring.p then warmPlaying u
    else if u.holeWaitLimit = 0 ∧ (u.slot u.ring.p).isMissing = true then expireHole (warmStarved u) else warmStarved u := by
  rw [← enterStarved_eq hu.play]
  rfl

theorem setIntent_goesOn (i : Intent) : GoesOn u (setIntent i u) :=
  hu.goesOn.of_same rfl ⟨rfl, rfl⟩ ⟨rfl, rfl, rfl⟩ ⟨rfl, rfl, rfl⟩

theorem startWarmPlay_goesOn : GoesOn u (startWarmPlay u) := by
  rw [startWarmPlay_eq hu]
  split
  · refine (endOfDisc_ends hu (setIntent_goesOn hu .play) ?_).1
    show u.engine.play ≠ _; rw [hu.play]; decide
  split
  · exact warmPlaying_goesOn hu
  split
  · exact expireHole_goesOn (warmStarved_goesOn hu)
  · exact warmStarved_goesOn hu

end

/-- On a match every start goes on from its base (R139, R140). -/
theorem starts_matched {v : State} (hq : v.planner.queue = []) (hplay : v.engine.play = .halted)
    (hdepth : 1 ≤ v.params.startDepth) (e : ResumeEntry) : Starts v (startMatched e v) := by
  by_cases hwarm : v.ring.owner = v.session.fingerprint ∧ v.ring.p = e.address
  · have hu := warmBase_placed hq hplay e.frame
    rw [startMatched_warm hwarm]
    split
    · exact (startWarmPlay_goesOn hu).warm
    · exact (startPaused_goesOn hu).warm
  · have hu := coldBase_placed hplay e.address e.frame
    rw [startMatched_cold hq hwarm]
    split
    · exact (enterPriming_goesOn hu (by rw [coldBase_eq]; rfl) (by rw [coldBase_eq]; exact hdepth)).cold
    · exact (startPaused_goesOn hu).cold

theorem starts_unmatched {v : State} (hq : v.planner.queue = []) (hplay : v.engine.play = .halted)
    (hdepth : 1 ≤ v.params.startDepth) (first : Nat) : Starts v (startUnmatched first v) := by
  have hu := coldBase_placed hplay first 0
  rw [startUnmatched_eq hq]
  split
  · exact (enterPriming_goesOn hu (by rw [coldBase_eq]; rfl) (by rw [coldBase_eq]; exact hdepth)).cold
  · exact (stops hu).cold

end Sys2Proof.Machine
end

section
/-! PROOF. What each start comes to, row by row (R95, R112, R140, R141). -/

namespace Sys2Proof.Machine

/-- The fill-stall timer runs from this event on (R102). -/
def StallRuns (s t : State) : Prop :=
  ∃ k, t.engine.stall = some k ∧ k.since = s.now ∧ k.timeout = s.params.fillStallTimeout

/-- A warm base keeps the ring, the planner and the intake, and what a start reads of the rest. -/
theorem warmBase_parts (f : Nat) (v : State) : (warmBase f v).ring = v.ring ∧ (warmBase f v).planner = v.planner ∧
    (warmBase f v).intake = v.intake ∧ (warmBase f v).engine.slotOpen = v.engine.slotOpen ∧
    (warmBase f v).session = v.session ∧ (warmBase f v).params = v.params ∧ (warmBase f v).now = v.now := by
  rw [warmBase_eq]; exact ⟨rfl, rfl, rfl, rfl, rfl, rfl, rfl⟩

theorem coldBase_parts (a f : Nat) (v : State) : (coldBase a f v).ring.p = a ∧ (coldBase a f v).ring.e = a ∧
    (coldBase a f v).session = v.session ∧ (coldBase a f v).params = v.params ∧ (coldBase a f v).now = v.now := by
  rw [coldBase_eq]; exact ⟨rfl, rfl, rfl, rfl, rfl⟩

/-! ### A cold start (R140, R141) -/

section
variable {v : State} (hplay : v.engine.play = .halted)
include hplay

theorem cold_paused (a f : Nat) : Flushed v (startPaused (coldBase a f v)) a ∧
    Lands (startPaused (coldBase a f v)) .paused .pause f 0 0 ∧ (startPaused (coldBase a f v)).conceal.gc = 4096 := by
  have hu := coldBase_placed hplay a f
  have hparts : (startPaused (coldBase a f v)).ring = (coldBase a f v).ring ∧
      (startPaused (coldBase a f v)).planner = (coldBase a f v).planner ∧
      (startPaused (coldBase a f v)).intake = (coldBase a f v).intake ∧
      (startPaused (coldBase a f v)).engine.slotOpen = (coldBase a f v).engine.slotOpen ∧
      (startPaused (coldBase a f v)).conceal = (coldBase a f v).conceal := by
    rw [startPaused_eq]; exact ⟨rfl, rfl, rfl, rfl, rfl⟩
  obtain ⟨hring, hplanner, hintake, hopen, hconceal⟩ := hparts
  exact ⟨(flushed_placed f a v).of_same hring hplanner hintake hopen (startPaused_rest _), startPaused_lands hu,
    hconceal ▸ hu.gc⟩

theorem cold_priming (a f : Nat) : Flushed v (priming (coldBase a f v)) a ∧
    Lands (priming (coldBase a f v)) .priming .play f 0 0 ∧ StallRuns v (priming (coldBase a f v)) ∧
    (priming (coldBase a f v)).conceal.gc = 4096 := by
  have hu := coldBase_placed hplay a f
  obtain ⟨-, -, -, hparams, hnow⟩ := coldBase_parts a f v
  have hparts : (priming (coldBase a f v)).ring = (coldBase a f v).ring ∧
      (priming (coldBase a f v)).planner = (coldBase a f v).planner ∧
      (priming (coldBase a f v)).intake = (coldBase a f v).intake ∧
      (priming (coldBase a f v)).engine.slotOpen = (coldBase a f v).engine.slotOpen ∧
      (priming (coldBase a f v)).conceal.gc = (coldBase a f v).conceal.gc ∧
      StallRuns (coldBase a f v) (priming (coldBase a f v)) := by
    rw [priming_eq]; exact ⟨rfl, rfl, rfl, rfl, rfl, _, rfl, rfl, rfl⟩
  obtain ⟨hring, hplanner, hintake, hopen, hgc, hstall⟩ := hparts
  refine ⟨(flushed_placed f a v).of_same hring hplanner hintake hopen (priming_rest _), priming_lands hu, ?_, hgc.trans hu.gc⟩
  rw [StallRuns, hparams, hnow] at hstall
  exact hstall

end

/-! ### STOPPED and the end of the disc (R109, R95) -/

/-- What STOPPED flushes where the ring has been flushed to that address. -/
theorem Flushed.again {v u t : State} {a : Nat} (h : Flushed v u a) (hsession : u.session = v.session)
    (ht : Flushed u t u.ring.p) : Flushed v t a := by
  have hp : u.ring.p = a := by rw [h.ring]; rfl
  refine ⟨?_, ht.tagCounter, ?_, ht.slotOpen, ht.counters.trans h.counters⟩
  · rw [ht.ring, hp, h.ring, hsession]; rfl
  · rw [ht.intake, h.intake]

/-- What STOPPED flushes where the ring was kept. -/
theorem Flushed.of_kept {v u t : State} {a : Nat} (h : Flushed u t a) (hring : u.ring = v.ring)
    (hintake : u.intake = v.intake) (hsession : u.session = v.session)
    (hcounters : u.events.counters = v.events.counters) : Flushed v t a :=
  ⟨by rw [h.ring, hring, hsession], h.tagCounter, by rw [h.intake, hintake], h.slotOpen, h.counters.trans hcounters⟩

/-- Each episode counts once (R99). -/
theorem warm_starved_counter (f : Nat) (v : State) :
    (warmStarved (warmBase f v)).counter .starveEpisodes = min (v.counter .starveEpisodes + 1) 16777215 ∧
    ∀ c, c ≠ .starveEpisodes → (warmStarved (warmBase f v)).counter c = v.counter c := by
  obtain ⟨hsame, hother⟩ := warmStarved_counter (warmBase f v)
  have hbase : ∀ c, (warmBase f v).counter c = v.counter c := counter_congr (warmBase_counters f v)
  exact ⟨by rw [hsame, hbase], fun c hc => by rw [hother c hc, hbase]⟩

section
variable {v : State} (hplay : v.engine.play = .halted)
include hplay

theorem cold_stopped (a : Nat) : Flushed v (enterStopped (setIntent .stop (coldBase a 0 v))) a ∧
    Lands (enterStopped (setIntent .stop (coldBase a 0 v))) .stopped .stop 0 0 0 ∧
    (enterStopped (setIntent .stop (coldBase a 0 v))).conceal.gc = 4096 := by
  have hu := coldBase_placed hplay a 0
  have hgo := setIntent_goesOn hu .stop
  have hgc : (enterStopped (setIntent .stop (coldBase a 0 v))).conceal.gc = (coldBase a 0 v).conceal.gc := by
    rw [stopped_eq hu hgo, setPlay_eq]; rfl
  refine ⟨(flushed_placed 0 a v).again (coldBase_parts a 0 v).2.2.1 ?_, stopped_lands hu hgo ?_, hgc.trans hu.gc⟩
  · obtain ⟨hring, htag, hintake, hopen, hcounters⟩ := stopped_flushed hu hgo
    exact ⟨hring, htag, hintake, hopen, hcounters⟩
  · show (coldBase a 0 v).engine.play ≠ _; rw [hu.play]; decide

/-- A cold start at T is the end of the disc (R95, R103). -/
theorem cold_end (f : Nat) : Flushed v (endOfDisc (priming (coldBase v.t f v))) v.t ∧
    Lands (endOfDisc (priming (coldBase v.t f v))) .stopped .stop 0 0 0 ∧
    ∃ n, ⟨SEvent.endOfDisc v.t, n⟩ ∈ (endOfDisc (priming (coldBase v.t f v))).events.sSet := by
  have hu := coldBase_placed hplay v.t f
  obtain ⟨hflushed, hlands, -, -⟩ := cold_priming hplay v.t f
  have hgo := priming_goesOn hu
  have hsession : (priming (coldBase v.t f v)).session = v.session := hgo.session.trans (coldBase_parts v.t f v).2.2.1
  have ht : (priming (coldBase v.t f v)).t = v.t := by rw [State.t, hsession]; rfl
  obtain ⟨-, hends, hagain, htold⟩ := endOfDisc_ends hu hgo (by rw [hlands.state]; decide)
  rw [ht] at htold
  exact ⟨hflushed.again hsession hagain, hends, htold⟩

/-- A warm start at T with play intended is the end of the disc (R95, R112). -/
theorem warm_end (hq : v.planner.queue = []) (hp : v.ring.p = v.t) (f : Nat) :
    Flushed v (endOfDisc (setIntent .play (warmBase f v))) v.t ∧
    Lands (endOfDisc (setIntent .play (warmBase f v))) .stopped .stop 0 0 0 ∧
    ∃ n, ⟨SEvent.endOfDisc v.t, n⟩ ∈ (endOfDisc (setIntent .play (warmBase f v))).events.sSet := by
  have hu := warmBase_placed hq hplay f
  obtain ⟨hring, -, hintake, -, hsession, -, -⟩ := warmBase_parts f v
  have hgo := setIntent_goesOn hu .play
  have ht : (setIntent .play (warmBase f v)).t = v.t := by
    rw [State.t, show (setIntent .play (warmBase f v)).session = v.session from hsession]; rfl
  have hp' : (setIntent .play (warmBase f v)).ring.p = v.t := (congrArg Ring.p hring).trans hp
  obtain ⟨-, hends, hflushed, htold⟩ := endOfDisc_ends hu hgo (by
    show (warmBase f v).engine.play ≠ _; rw [hu.play]; decide)
  rw [ht] at htold
  rw [hp'] at hflushed
  exact ⟨hflushed.of_kept hring hintake hsession (warmBase_counters f v), hends, htold⟩

/-! ### A warm start (R112, R140) -/

variable (hq : v.planner.queue = [])
include hq

theorem warm_paused (f : Nat) : KeptAs v (startPaused (warmBase f v)) ∧ (startPaused (warmBase f v)).ring = v.ring ∧
    Lands (startPaused (warmBase f v)) .paused .pause f 0 0 ∧ (startPaused (warmBase f v)).conceal.gc = 4096 ∧
    (startPaused (warmBase f v)).events.counters = v.events.counters := by
  have hu := warmBase_placed hq hplay f
  obtain ⟨hring, hplanner, hintake, -, -, -, -⟩ := warmBase_parts f v
  have hparts : (startPaused (warmBase f v)).ring = v.ring ∧ (startPaused (warmBase f v)).planner = v.planner ∧
      (startPaused (warmBase f v)).intake = v.intake ∧ (startPaused (warmBase f v)).conceal.gc = 4096 := by
    rw [startPaused_eq]; exact ⟨hring, hplanner, hintake, hu.gc⟩
  obtain ⟨htring, htplanner, htintake, htgc⟩ := hparts
  exact ⟨⟨htplanner, htintake, by rw [htring]⟩, htring, startPaused_lands hu, htgc,
    (startPaused_rest _).trans (warmBase_counters f v)⟩

theorem warm_playing (f : Nat) : KeptAs v (warmPlaying (warmBase f v)) ∧ (warmPlaying (warmBase f v)).ring = v.ring ∧
    Lands (warmPlaying (warmBase f v)) .playing .play f 0 4096 ∧ (warmPlaying (warmBase f v)).engine.slotOpen = true ∧
    (warmPlaying (warmBase f v)).conceal.gpStep = stepOf v.params.rp ∧ (warmPlaying (warmBase f v)).conceal.gc = 4096 ∧
    (warmPlaying (warmBase f v)).events.counters = v.events.counters := by
  have hu := warmBase_placed hq hplay f
  obtain ⟨hring, hplanner, hintake, -, -, hparams, -⟩ := warmBase_parts f v
  obtain ⟨hlands, hcounters⟩ := warmPlaying_lands hu
  have hparts : (warmPlaying (warmBase f v)).ring = v.ring ∧ (warmPlaying (warmBase f v)).planner = v.planner ∧
      (warmPlaying (warmBase f v)).intake = v.intake ∧ (warmPlaying (warmBase f v)).engine.slotOpen = true ∧
      (warmPlaying (warmBase f v)).conceal.gpStep = stepOf (warmBase f v).params.rp ∧
      (warmPlaying (warmBase f v)).conceal.gc = 4096 := by
    rw [warmPlaying_eq hu]; exact ⟨hring, hplanner, hintake, rfl, rfl, hu.gc⟩
  obtain ⟨htring, htplanner, htintake, hopen, hstep, htgc⟩ := hparts
  rw [hparams] at hstep
  exact ⟨⟨htplanner, htintake, by rw [htring]⟩, htring, hlands, hopen, hstep, htgc,
    hcounters.trans (warmBase_counters f v)⟩

theorem warm_starved (f : Nat) : KeptAs v (warmStarved (warmBase f v)) ∧ (warmStarved (warmBase f v)).ring = v.ring ∧
    Lands (warmStarved (warmBase f v)) .starved .play f 4096 4096 ∧ StallRuns v (warmStarved (warmBase f v)) ∧
    (warmStarved (warmBase f v)).engine.slotOpen = v.engine.slotOpen ∧ (warmStarved (warmBase f v)).engine.holeWait = 0 ∧
    (warmStarved (warmBase f v)).conceal.gc = 4096 ∧
    ∃ n, ⟨SEvent.starved v.ring.p, n⟩ ∈ (warmStarved (warmBase f v)).events.sSet := by
  have hu := warmBase_placed hq hplay f
  obtain ⟨hring, hplanner, hintake, hopen, -, hparams, hnow⟩ := warmBase_parts f v
  obtain ⟨hlands, htold⟩ := warmStarved_lands hu
  have hparts : (warmStarved (warmBase f v)).ring = v.ring ∧ (warmStarved (warmBase f v)).planner = v.planner ∧
      (warmStarved (warmBase f v)).intake = v.intake ∧
      (warmStarved (warmBase f v)).engine.slotOpen = v.engine.slotOpen ∧
      (warmStarved (warmBase f v)).engine.holeWait = 0 ∧ (warmStarved (warmBase f v)).conceal.gc = 4096 ∧
      StallRuns (warmBase f v) (warmStarved (warmBase f v)) := by
    rw [warmStarved_eq]; exact ⟨hring, hplanner, hintake, hopen, rfl, hu.gc, _, rfl, rfl, rfl⟩
  obtain ⟨htring, htplanner, htintake, htopen, hwait, htgc, hstall⟩ := hparts
  rw [StallRuns, hparams, hnow] at hstall
  rw [hring] at htold
  exact ⟨⟨htplanner, htintake, by rw [htring]⟩, htring, hlands, hstall, htopen, hwait, htgc, htold⟩

theorem warm_expired (f : Nat) : let t := expireHole (warmStarved (warmBase f v))
    KeptAs v t ∧ t.ring = v.ring.giveUpHole v.ring.p ∧ Lands t .playing .play f 4096 4096 ∧ t.engine.slotOpen = true ∧
    t.conceal.gc = 0 ∧ t.counter .starveEpisodes = min (v.counter .starveEpisodes + 1) 16777215 ∧
    t.counter .slotsAbandoned = min (v.counter .slotsAbandoned + 1) 16777215 ∧
    ∃ n, ⟨SEvent.slotAbandoned v.ring.p v.ring.p, n⟩ ∈ t.events.sSet := by
  intro t
  have hgo := warmStarved_goesOn (warmBase_placed hq hplay f)
  obtain ⟨⟨hplanner, hintake, -⟩, hring, hlands, -, -, -, -, -⟩ := warm_starved hplay hq f
  obtain ⟨hstarves, hothers⟩ := warm_starved_counter f v
  obtain ⟨habandons, hsame⟩ := abandoned_counter (warmStarved (warmBase f v))
  obtain ⟨hcounters, htold, habandoned⟩ := expireHole_events hgo (by rw [hlands.state]; decide)
  have hcount : ∀ c, t.counter c = (abandoned (warmStarved (warmBase f v))).counter c := counter_congr hcounters
  have hstate := expireHole_state hgo
  rw [hring] at habandoned hstate
  rw [hlands.aim] at htold
  have hparts : t.ring = v.ring.giveUpHole v.ring.p ∧ t.planner = v.planner ∧ t.intake = v.intake ∧
      t.engine.slotOpen = true ∧ t.engine.play = .playing ∧ t.engine.intent = .play ∧ t.engine.f = f ∧
      t.conceal.gp = 4096 ∧ t.conceal.gpTarget = 4096 ∧ t.conceal.gc = 0 := by
    rw [show t = _ from hstate]
    exact ⟨rfl, hplanner, hintake, rfl, rfl, hlands.aim, hlands.frame, hlands.gp, hlands.gpTarget, rfl⟩
  obtain ⟨htring, htplanner, htintake, hopen, hstarted, haim, hframe, hgp, htarget, hgc⟩ := hparts
  exact ⟨⟨htplanner, htintake, by rw [htring]; exact giveUpHole_frame _ _⟩, htring,
    ⟨hstarted, haim, hframe, hgp, htarget, htold⟩, hopen, hgc,
    by rw [hcount, hsame _ (by decide), hstarves], by rw [hcount, habandons, hothers _ (by decide)], habandoned⟩

end

end Sys2Proof.Machine
end

section
/-! PROOF. A directory starts a session: the rows at the end of the event. -/

namespace Sys2Proof.Machine

/-! ### The end of the event -/

/-- A scan finds nothing where nothing is held (R58, R59). -/
theorem scanned_empty {t : State} (h : t.ring.e = t.ring.p) : scanned t [] = [] := by
  have hlow : t.ring.e - t.lowestPlaceable = 0 := by
    unfold State.lowestPlaceable; split <;> omega
  have hbad : uncoveredBad { t with planner := { t.planner with queue := [] } } = [] := by
    show ranges (((t.badIn t.lowestPlaceable (t.ring.e - t.lowestPlaceable))).filter _) = []
    rw [hlow]; rfl
  unfold scanned scan
  split
  · rw [hbad]; rfl
  · rfl

section
variable {cap : Option Rate} {e : SEvent} {d : Directory} {fp : BitVec 32} {s t : State}

/-- The part before its start, as the intake has handed over the payload. -/
def atEntry (cap : Option Rate) (e : SEvent) (d : Directory) (fp : BitVec 32) (s : State) : State :=
  entered cap e d fp (setRx rxHunt s)

theorem atEntry_parts (cap : Option Rate) (e : SEvent) (d : Directory) (fp : BitVec 32) (s : State) :
    (atEntry cap e d fp s).ring = s.ring ∧ (atEntry cap e d fp s).planner = { s.planner with fails := 0 } ∧
    (atEntry cap e d fp s).intake = { s.intake with rx := rxHunt } ∧ (atEntry cap e d fp s).engine = s.engine ∧
    (atEntry cap e d fp s).session.fingerprint = some fp ∧ (atEntry cap e d fp s).session.directory = some d ∧
    (atEntry cap e d fp s).params = s.params ∧ (atEntry cap e d fp s).now = s.now := by
  rw [atEntry, entered_eq]; exact ⟨rfl, rfl, rfl, rfl, rfl, rfl, rfl, rfl⟩

theorem atEntry_counter (c : CounterId) : (atEntry cap e d fp s).counter c = 0 := by
  simp [State.counter, atEntry, entered_counters]

/-- The part with its ring flushed to `a` for the disc, at the end of the event. -/
def FlushedTo (fp : BitVec 32) (a : Nat) (s t : State) : Prop :=
  t.ring = { s.ring with slots := [], p := a, e := a, owner := some fp } ∧
  t.planner.queue = [] ∧ t.planner.tagCounter = 0 ∧ t.intake = ⟨⟨.hunt, [], true⟩, none, false⟩ ∧
  t.engine.slotOpen = false ∧ t.events.counters = Vector.replicate 15 ⟨0, false⟩

theorem Flushed.begun {a : Nat} (h : Flushed (atEntry cap e d fp s) t a) (hq : t.planner.queue = []) :
    FlushedTo fp a s (begun s t) := by
  obtain ⟨hring, hplanner, hintake, hengine, hfp, -, -, -⟩ := atEntry_parts cap e d fp s
  obtain ⟨hbring, hbintake, hbengine, -, -, -, hbcounters⟩ := begun_frame s t
  have hflush : t.ring = { s.ring with slots := [], p := a, e := a, owner := some fp } := by
    rw [h.ring, hring, hfp]; rfl
  refine ⟨hbring.trans hflush, ?_, ?_, ?_, ?_, ?_⟩
  · rw [begun_planner, hq]
    exact scanned_empty (by rw [hbring, hflush])
  · rw [begun_planner]
    exact h.tagCounter
  · rw [hbintake, h.intake, hintake]; rfl
  · rw [hbengine, h.slotOpen]
  · rw [hbcounters, h.counters]
    exact entered_counters ..

/-- The part with its ring kept, at the end of the event. -/
def KeptBy (s t : State) : Prop :=
  t.ring = { s.ring with slots := t.ring.slots } ∧
  t.planner = { s.planner with queue := scanned t [], fails := 0 } ∧ WorkTold [] s t ∧
  t.intake = { s.intake with rx := ⟨.hunt, [], true⟩ }

theorem KeptAs.begun (h : KeptAs (atEntry cap e d fp s) t) (hst : Starts (atEntry cap e d fp s) t)
    (hscan : s.planner.scanDue = false) : KeptBy s (begun s t) := by
  obtain ⟨hring, hplanner, hintake, -, -, -, -, -⟩ := atEntry_parts cap e d fp s
  obtain ⟨hbring, hbintake, -⟩ := begun_frame s t
  refine ⟨?_, ?_, ?_, ?_⟩
  · rw [hbring, ← hring]; exact h.ring
  · rw [begun_planner, hst.queue, h.planner, hplanner, ← hscan]
  · have hwork : WorkTold t.planner.queue s (Machine.begun s t) :=
      finish_workTold (u := raiseD (.seekRequested t.ring.e) (dueScan t)) fun x hx => by
        rw [raiseD_dSet, mem_latch_other (by rw [hx]; simp [DEvent.pos])]
        show x ∈ t.events.dSet ↔ _
        rw [hst.dSet, atEntry, entered_dSet]
        split
        · exact mem_latch_other (by rw [hx]; decide) _
        · rfl
    rwa [hst.queue] at hwork
  · rw [hbintake, h.intake, hintake]; rfl

theorem Lands.begun {play : Play} {intent : Intent} {f gp target : Nat} (h : Lands t play intent f gp target) (s : State) :
    Lands (begun s t) play intent f gp target := by
  obtain ⟨hstate, haim, hframe, hgp, htarget, htold⟩ := h
  obtain ⟨-, -, hengine, hconceal, -, hsSet, -⟩ := begun_frame s t
  rw [← hengine] at hstate haim hframe
  rw [← hconceal] at hgp htarget
  rw [← hsSet] at htold
  exact ⟨hstate, haim, hframe, hgp, htarget, htold⟩

theorem Lands.all {play : Play} {intent : Intent} {f gp target : Nat} (h : Lands t play intent f gp target) :
    t.engine.play = play ∧ t.engine.intent = intent ∧ t.engine.f = f ∧ t.conceal.gp = gp ∧ t.conceal.gpTarget = target ∧
    ∃ n, ⟨SEvent.playStateChanged play intent, n⟩ ∈ t.events.sSet :=
  ⟨h.state, h.aim, h.frame, h.gp, h.gpTarget, h.told⟩

end

end Sys2Proof.Machine
end

section
/-! PROOF. DirectoryStartsSession: the frame, its checks, and the rows of R140 and R141. -/

namespace Sys2Proof.Machine

theorem Begun.all {cap : Option Rate} {d : Directory} {fp : BitVec 32} {s t : State} (h : Begun cap d fp s t) :
    t.session = { s.session with
      state := .present, directory := some d, fingerprint := some fp, identify := none } ∧
    t.rates = ⟨none, 0, cap⟩ ∧ t.planner.fails = 0 ∧ t.planner.scanDue = false ∧
    t.engine.anticipate = false ∧ t.conceal.left = ⟨0, none⟩ ∧ t.conceal.right = ⟨0, none⟩ ∧
    t.conceal.gcTarget = 4096 ∧ ProgramTold s t ∧ FlagTold s t ∧ RatesDropTold s t ∧
    (∃ n, ⟨DEvent.seekRequested t.ring.e, n⟩ ∈ t.events.dSet) ∧
    t.line = s.line ∧ t.power = s.power ∧ t.params = s.params ∧ t.sPort = s.sPort ∧ t.dPort = s.dPort ∧ t.now = s.now :=
  ⟨h.session, h.rates, h.fails, h.scanned, h.anticipate, h.left, h.right, h.target, h.program, h.pause, h.drop, h.seek,
    h.rest⟩

theorem StallRuns.begun {v s t : State} (h : StallRuns v t) (hnow : v.now = s.now) (hparams : v.params = s.params) :
    StallRuns s (begun s t) := by
  obtain ⟨k, hk, hsince, htimeout⟩ := h
  exact ⟨k, by rw [(begun_frame s t).2.2.1, hk], hsince.trans hnow, by rw [htimeout, hparams]⟩

/-! ### No match (R141) -/

theorem unmatched_start {v : State} {a : Nat} (hq : v.planner.queue = []) (hplay : v.engine.play = .halted)
    (hdepth : 1 ≤ v.params.startDepth) (ha : a ≠ v.t) :
    Flushed v (startUnmatched a v) a ∧ (startUnmatched a v).conceal.gc = 4096 ∧
    (v.params.autoPlay = true → Lands (startUnmatched a v) .priming .play 0 0 0 ∧ StallRuns v (startUnmatched a v)) ∧
    (v.params.autoPlay = false → Lands (startUnmatched a v) .stopped .stop 0 0 0) := by
  obtain ⟨hp, he, hsession, hparams, -⟩ := coldBase_parts a 0 v
  cases hauto : v.params.autoPlay with
  | true =>
    have ht : (coldBase a 0 v).t = v.t := by rw [State.t, hsession]; rfl
    have hstart : startUnmatched a v = priming (coldBase a 0 v) := by
      rw [startUnmatched_eq hq, if_pos hauto, enterPriming_empty (by rw [hp, he]) (by rw [hparams]; exact hdepth),
        if_neg (by rw [hp, ht]; exact ha)]
    obtain ⟨hflushed, hlands, hstall, hgc⟩ := cold_priming hplay a 0
    rw [hstart]
    exact ⟨hflushed, hgc, fun _ => ⟨hlands, hstall⟩, fun h => Bool.noConfusion h⟩
  | false =>
    have hstart : startUnmatched a v = enterStopped (setIntent .stop (coldBase a 0 v)) := by
      rw [startUnmatched_eq hq, hauto, if_neg Bool.false_ne_true]
    obtain ⟨hflushed, hlands, hgc⟩ := cold_stopped hplay a
    rw [hstart]
    exact ⟨hflushed, hgc, fun h => Bool.noConfusion h, fun _ => hlands⟩

/-! ### A match (R140) -/

/-- What decides a start on a match: the ring kept for this disc at the entry's address, and play asked for. -/
def WarmFor (v : State) (e : ResumeEntry) : Prop := v.ring.owner = v.session.fingerprint ∧ v.ring.p = e.address

def Asked (v : State) (e : ResumeEntry) : Prop := v.params.autoResume = true ∧ e.intent = .playing

section
variable {v : State} {e : ResumeEntry}

theorem asked_iff : (v.params.autoResume && e.intent == .playing) = true ↔ Asked v e := by simp [Asked]

theorem startMatched_warmPaused (hwarm : WarmFor v e) (hasked : ¬ Asked v e) :
    startMatched e v = startPaused (warmBase e.frame v) := by
  rw [startMatched_warm hwarm, if_neg (mt asked_iff.mp hasked)]

theorem startMatched_warmPlay (hwarm : WarmFor v e) (hasked : Asked v e) :
    startMatched e v = startWarmPlay (warmBase e.frame v) := by
  rw [startMatched_warm hwarm, if_pos (asked_iff.mpr hasked)]

variable (hq : v.planner.queue = [])
include hq

theorem startMatched_coldPaused (hcold : ¬ WarmFor v e) (hasked : ¬ Asked v e) :
    startMatched e v = startPaused (coldBase e.address e.frame v) := by
  rw [startMatched_cold hq hcold, if_neg (mt asked_iff.mp hasked)]

theorem startMatched_coldPlay (hdepth : 1 ≤ v.params.startDepth) (hcold : ¬ WarmFor v e) (hasked : Asked v e) :
    startMatched e v = if e.address = v.t then endOfDisc (priming (coldBase e.address e.frame v))
      else priming (coldBase e.address e.frame v) := by
  obtain ⟨hp, he, hsession, hparams, -⟩ := coldBase_parts e.address e.frame v
  have ht : (coldBase e.address e.frame v).t = v.t := by rw [State.t, hsession]; rfl
  rw [startMatched_cold hq hcold, if_pos (asked_iff.mpr hasked),
    enterPriming_empty (by rw [hp, he]) (by rw [hparams]; exact hdepth), hp, ht]

end

/-- What the warm start reads of its base is what the ring was kept with. -/
theorem startWarmPlay_base {v : State} {f : Nat} (hq : v.planner.queue = []) (hplay : v.engine.play = .halted) :
    startWarmPlay (warmBase f v) =
      if v.ring.p = v.t then endOfDisc (setIntent .play (warmBase f v))
      else if v.playable v.ring.p then warmPlaying (warmBase f v)
      else if v.holeWaitLimit = 0 ∧ (v.slot v.ring.p).isMissing = true then expireHole (warmStarved (warmBase f v))
      else warmStarved (warmBase f v) := by
  obtain ⟨hring, -, -, -, hsession, hparams, -⟩ := warmBase_parts f v
  have ht : (warmBase f v).t = v.t := by rw [State.t, hsession]; rfl
  have hlimit : (warmBase f v).holeWaitLimit = v.holeWaitLimit := by
    rw [State.holeWaitLimit, State.rate, hsession, hparams]; rfl
  have hslot : (warmBase f v).slot = v.slot := by funext a; rw [State.slot, hring]; rfl
  rw [startWarmPlay_eq (warmBase_placed hq hplay f), State.playable, hring, ht, hlimit, hslot]
  rfl

/-- With play asked for, a start at T is the end of the disc, the ring kept or not (R95). -/
theorem matched_end {v : State} {e : ResumeEntry} (hq : v.planner.queue = []) (hplay : v.engine.play = .halted)
    (hdepth : 1 ≤ v.params.startDepth) (hasked : Asked v e) (ht : e.address = v.t) :
    Flushed v (startMatched e v) v.t ∧ Lands (startMatched e v) .stopped .stop 0 0 0 ∧
    ∃ n, ⟨SEvent.endOfDisc v.t, n⟩ ∈ (startMatched e v).events.sSet := by
  by_cases hwarm : WarmFor v e
  · have hp : v.ring.p = v.t := hwarm.2.trans ht
    rw [startMatched_warmPlay hwarm hasked, startWarmPlay_base hq hplay, if_pos hp]
    exact warm_end hplay hq hp e.frame
  · rw [startMatched_coldPlay hq hdepth hwarm hasked, if_pos ht, ht]
    exact cold_end hplay e.frame

/-! ### What every row has -/

theorem matched_begun {d : Directory} {fp : BitVec 32} {s : State} {x : SEvent} (e : ResumeEntry)
    (hq : s.planner.queue = []) (hplay : s.engine.play = .halted) (hdepth : 1 ≤ s.params.startDepth)
    (hx : x.pos = 7 ∨ x.pos = 8) :
    let t := startMatched e (atEntry e.cap x d fp s)
    Starts (atEntry e.cap x d fp s) t ∧ Begun e.cap d fp s (begun s t) ∧ ∃ n, ⟨x, n⟩ ∈ (begun s t).events.sSet := by
  intro t
  obtain ⟨-, hplanner, -, hengine, -, -, hparams, -⟩ := atEntry_parts e.cap x d fp s
  have hst : Starts (atEntry e.cap x d fp s) t :=
    starts_matched (by rw [hplanner]; exact hq) (by rw [hengine]; exact hplay) (by rw [hparams]; exact hdepth) e
  obtain ⟨hrates, hline, hsession, hsPort, hdPort, hpower, htparams, hnow, -⟩ := startMatched_frame e (atEntry e.cap x d fp s)
  refine ⟨hst, Starts.begun hx hst rfl ⟨hsession, hrates, ?_⟩, Starts.record hx hst⟩
  rw [hline, hpower, htparams, hsPort, hdPort, hnow, atEntry, entered_eq]
  exact ⟨rfl, rfl, rfl, rfl, rfl, rfl⟩

theorem unmatched_begun {d : Directory} {fp : BitVec 32} {s : State} {x : SEvent} (first : Nat)
    (hq : s.planner.queue = []) (hplay : s.engine.play = .halted) (hdepth : 1 ≤ s.params.startDepth)
    (hx : x.pos = 7 ∨ x.pos = 8) :
    let t := startUnmatched first (atEntry none x d fp s)
    Starts (atEntry none x d fp s) t ∧ Begun none d fp s (begun s t) ∧ ∃ n, ⟨x, n⟩ ∈ (begun s t).events.sSet := by
  intro t
  obtain ⟨-, hplanner, -, hengine, -, -, hparams, -⟩ := atEntry_parts none x d fp s
  have hst : Starts (atEntry none x d fp s) t :=
    starts_unmatched (by rw [hplanner]; exact hq) (by rw [hengine]; exact hplay) (by rw [hparams]; exact hdepth) first
  obtain ⟨hrates, hline, hsession, hsPort, hdPort, hpower, htparams, hnow, -⟩ :=
    startUnmatched_frame first (atEntry none x d fp s)
  refine ⟨hst, Starts.begun hx hst rfl ⟨hsession, hrates, ?_⟩, Starts.record hx hst⟩
  rw [hline, hpower, htparams, hsPort, hdPort, hnow, atEntry, entered_eq]
  exact ⟨rfl, rfl, rfl, rfl, rfl, rfl⟩

end Sys2Proof.Machine
end

section
/-! PROOF. DirectoryStartsSession: its checks, and its rows. -/

namespace Sys2Proof.Machine

theorem firstFlaw_none {rate : Byte} {t : Nat} {starts : List Nat} (h : firstFlaw rate t starts = none) :
    starts ≠ [] ∧ starts.Pairwise (· < ·) ∧ ∀ x ∈ starts, x < t := by
  unfold firstFlaw at h
  split at h
  · cases h
  split at h
  · cases h
  rename_i hcount
  split at h
  · cases h
  split at h
  · cases h
  rename_i hpair
  split at h
  · cases h
  rename_i hrange
  refine ⟨fun hnil => hcount (.inl (by rw [hnil]; rfl)), not_not.mp hpair, fun x hx => ?_⟩
  by_contra hge
  exact hrange ⟨x, hx, by omega⟩

/-- The session starts at the first program (R96, R141). -/
theorem unmatched_program {d : Directory} {fp : BitVec 32} {s t : State} {x : SEvent} (hne : d.starts ≠ [])
    (hpair : d.starts.Pairwise (· < ·)) (hbegun : Begun none d fp s (begun s t))
    (h : Flushed (atEntry none x d fp s) t (d.starts.headD 0)) : (begun s t).engine.program = 1 := by
  have hp : (begun s t).ring.p = d.starts.headD 0 := by rw [(begun_frame s t).1, h.ring]; rfl
  have hnow : (begun s t).programNow = programAt d.starts (begun s t).ring.p := by
    rw [State.programNow, hbegun.session]
  rw [hbegun.program.number, hnow, hp, programAt_head hpair hne]

/-- L is at least 512 (R1). -/
theorem len_pos (r : Ring) : 0 < r.len := by
  unfold Ring.len ringLength; (repeat' split) <;> omega

/-- The pause flag stands in STOPPED (R36). -/
theorem Lands.pauseFlag {t : State} {intent : Intent} {f gp target : Nat} (h : Lands t .stopped intent f gp target) :
    t.pauseFlag = true := by simp [State.pauseFlag, h.state]

/-- The ring of this disc is kept for it at the entry's address (R140). -/
theorem warmFor_atEntry {cap : Option Rate} {x : SEvent} {d : Directory} {fp : BitVec 32} {s : State} {e : ResumeEntry} :
    WarmFor (atEntry cap x d fp s) e ↔ s.ring.owner = some fp ∧ s.ring.p = e.address := by
  obtain ⟨hring, -, -, -, hfp, -⟩ := atEntry_parts cap x d fp s
  rw [WarmFor, hring, hfp]

theorem asked_atEntry {cap : Option Rate} {x : SEvent} {d : Directory} {fp : BitVec 32} {s : State} {e : ResumeEntry} :
    Asked (atEntry cap x d fp s) e ↔ s.params.autoResume = true ∧ e.intent = .playing := by
  obtain ⟨-, -, -, -, -, -, hparams, -⟩ := atEntry_parts cap x d fp s
  rw [Asked, hparams]

/-- The counters stand at 0 as a start begins (R139), and the rows that count nothing leave them so. -/
theorem begun_zeroed {cap : Option Rate} {x : SEvent} {d : Directory} {fp : BitVec 32} {s t : State}
    (h : t.events.counters = (atEntry cap x d fp s).events.counters) :
    (begun s t).events.counters = Vector.replicate 15 ⟨0, false⟩ := by
  rw [(begun_frame s t).2.2.2.2.2.2, h]
  exact entered_counters ..

theorem atEntry_disc (cap : Option Rate) (x : SEvent) (d : Directory) (fp : BitVec 32) (s : State) :
    (atEntry cap x d fp s).t = d.t ∧ (atEntry cap x d fp s).slot = s.slot ∧
    (atEntry cap x d fp s).holeWaitLimit = s.params.holeWait * d.rate.hz / 1000 := by
  obtain ⟨hring, -, -, -, -, hdir, hparams, -⟩ := atEntry_parts cap x d fp s
  refine ⟨by rw [State.t, hdir], by funext a; rw [State.slot, hring]; rfl, ?_⟩
  rw [State.holeWaitLimit, State.rate, hdir, hparams]; rfl

/-! ### The rows of R140, at the end of the event -/

/-- The part at the end of a start on a match. -/
def resumed (x : SEvent) (d : Directory) (fp : BitVec 32) (s : State) (e : ResumeEntry) : State :=
  begun s (startMatched e (atEntry e.cap x d fp s))

/-- It leaves what `begun` leaves. -/
theorem resumed_frame (x : SEvent) (d : Directory) (fp : BitVec 32) (s : State) (e : ResumeEntry) :
    (resumed x d fp s e).ring = (startMatched e (atEntry e.cap x d fp s)).ring ∧
    (resumed x d fp s e).engine = (startMatched e (atEntry e.cap x d fp s)).engine ∧
    (resumed x d fp s e).conceal = (startMatched e (atEntry e.cap x d fp s)).conceal ∧
    (resumed x d fp s e).events.sSet = (startMatched e (atEntry e.cap x d fp s)).events.sSet ∧
    ∀ c, (resumed x d fp s e).counter c = (startMatched e (atEntry e.cap x d fp s)).counter c := by
  obtain ⟨hring, -, hengine, hconceal, -, hsSet, hcounters⟩ := begun_frame s (startMatched e (atEntry e.cap x d fp s))
  exact ⟨hring, hengine, hconceal, hsSet, counter_congr hcounters⟩

theorem atEntry_ready {cap : Option Rate} {x : SEvent} {d : Directory} {fp : BitVec 32} {s : State}
    (hq : s.planner.queue = []) (hplay : s.engine.play = .halted) :
    (atEntry cap x d fp s).planner.queue = [] ∧ (atEntry cap x d fp s).engine.play = .halted := by
  obtain ⟨-, hplanner, -, hengine, -⟩ := atEntry_parts cap x d fp s
  rw [hplanner, hengine]
  exact ⟨hq, hplay⟩

/-- Before T a warm start goes by the slot P. -/
theorem startMatched_warmRow {x : SEvent} {d : Directory} {fp : BitVec 32} {s : State} {e : ResumeEntry}
    (hq : s.planner.queue = []) (hplay : s.engine.play = .halted) (hwarm : s.ring.owner = some fp ∧ s.ring.p = e.address)
    (hasked : s.params.autoResume = true ∧ e.intent = .playing) (ht : s.ring.p ≠ d.t) : startMatched e (atEntry e.cap x d fp s) =
    if (s.slot s.ring.p).playable then warmPlaying (warmBase e.frame (atEntry e.cap x d fp s))
    else if s.params.holeWait * d.rate.hz / 1000 = 0 ∧ (s.slot s.ring.p).isMissing = true
      then expireHole (warmStarved (warmBase e.frame (atEntry e.cap x d fp s)))
    else warmStarved (warmBase e.frame (atEntry e.cap x d fp s)) := by
  obtain ⟨hvq, hvplay⟩ := atEntry_ready (cap := e.cap) (x := x) (d := d) (fp := fp) hq hplay
  obtain ⟨hvt, hslot, hlimit⟩ := atEntry_disc e.cap x d fp s
  have hring := (atEntry_parts e.cap x d fp s).1
  rw [startMatched_warmPlay (warmFor_atEntry.mpr hwarm) (asked_atEntry.mpr hasked), startWarmPlay_base hvq hvplay,
    State.playable, hring, hvt, if_neg ht, hslot, hlimit]

section
variable {x : SEvent} {d : Directory} {fp : BitVec 32} {s : State} {e : ResumeEntry} (hq : s.planner.queue = [])
  (hplay : s.engine.play = .halted) (hst : Starts (atEntry e.cap x d fp s) (startMatched e (atEntry e.cap x d fp s)))
include hq hplay hst

theorem resumed_coldPaused (hcold : ¬ (s.ring.owner = some fp ∧ s.ring.p = e.address))
    (hasked : ¬ (s.params.autoResume = true ∧ e.intent = .playing)) :
    FlushedTo fp e.address s (resumed x d fp s e) ∧ Lands (resumed x d fp s e) .paused .pause e.frame 0 0 ∧
    (resumed x d fp s e).conceal.gc = 4096 := by
  obtain ⟨hvq, hvplay⟩ := atEntry_ready (cap := e.cap) (x := x) (d := d) (fp := fp) hq hplay
  obtain ⟨hflushed, hlands, hgc⟩ := cold_paused hvplay e.address e.frame
  rw [← startMatched_coldPaused hvq (mt warmFor_atEntry.mp hcold) (mt asked_atEntry.mp hasked)] at hflushed hlands hgc
  obtain ⟨-, -, hconceal, -⟩ := resumed_frame x d fp s e
  exact ⟨hflushed.begun hst.queue, hlands.begun s, hconceal ▸ hgc⟩

section
variable (hdepth : 1 ≤ s.params.startDepth) (hasked : s.params.autoResume = true ∧ e.intent = .playing)
include hdepth hasked

theorem resumed_coldPriming (hcold : ¬ (s.ring.owner = some fp ∧ s.ring.p = e.address)) (ht : e.address ≠ d.t) :
    FlushedTo fp e.address s (resumed x d fp s e) ∧ Lands (resumed x d fp s e) .priming .play e.frame 0 0 ∧
    StallRuns s (resumed x d fp s e) ∧ (resumed x d fp s e).conceal.gc = 4096 := by
  obtain ⟨hvq, hvplay⟩ := atEntry_ready (cap := e.cap) (x := x) (d := d) (fp := fp) hq hplay
  obtain ⟨-, -, -, -, -, -, hparams, hnow⟩ := atEntry_parts e.cap x d fp s
  have hstart := startMatched_coldPlay hvq (by rw [hparams]; exact hdepth) (mt warmFor_atEntry.mp hcold)
    (asked_atEntry.mpr hasked)
  rw [(atEntry_disc e.cap x d fp s).1, if_neg ht] at hstart
  obtain ⟨hflushed, hlands, hstall, hgc⟩ := cold_priming hvplay e.address e.frame
  rw [← hstart] at hflushed hlands hstall hgc
  obtain ⟨-, -, hconceal, -⟩ := resumed_frame x d fp s e
  exact ⟨hflushed.begun hst.queue, hlands.begun s, hstall.begun hnow hparams, hconceal ▸ hgc⟩

theorem resumed_end (ht : e.address = d.t) :
    FlushedTo fp d.t s (resumed x d fp s e) ∧ Lands (resumed x d fp s e) .stopped .stop 0 0 0 ∧
    ∃ n, ⟨SEvent.endOfDisc d.t, n⟩ ∈ (resumed x d fp s e).events.sSet := by
  obtain ⟨hvq, hvplay⟩ := atEntry_ready (cap := e.cap) (x := x) (d := d) (fp := fp) hq hplay
  obtain ⟨-, -, -, -, -, -, hparams, -⟩ := atEntry_parts e.cap x d fp s
  have hvt := (atEntry_disc e.cap x d fp s).1
  obtain ⟨hflushed, hlands, htold⟩ := matched_end hvq hvplay (by rw [hparams]; exact hdepth) (asked_atEntry.mpr hasked)
    (ht.trans hvt.symm)
  rw [hvt] at hflushed htold
  obtain ⟨-, -, -, hsSet, -⟩ := resumed_frame x d fp s e
  exact ⟨hflushed.begun hst.queue, hlands.begun s, hsSet ▸ htold⟩

end

section
variable (hscan : s.planner.scanDue = false) (hwarm : s.ring.owner = some fp ∧ s.ring.p = e.address)
include hscan hwarm

theorem resumed_warmPaused (hasked : ¬ (s.params.autoResume = true ∧ e.intent = .playing)) :
    KeptBy s (resumed x d fp s e) ∧ (resumed x d fp s e).ring = s.ring ∧
    Lands (resumed x d fp s e) .paused .pause e.frame 0 0 ∧ (resumed x d fp s e).conceal.gc = 4096 ∧
    (resumed x d fp s e).events.counters = Vector.replicate 15 ⟨0, false⟩ := by
  obtain ⟨hvq, hvplay⟩ := atEntry_ready (cap := e.cap) (x := x) (d := d) (fp := fp) hq hplay
  obtain ⟨hkept, hring, hlands, hgc, hcounters⟩ := warm_paused hvplay hvq e.frame
  rw [← startMatched_warmPaused (warmFor_atEntry.mpr hwarm) (mt asked_atEntry.mp hasked)] at hkept hring hlands hgc hcounters
  obtain ⟨hbring, -, hconceal, -⟩ := resumed_frame x d fp s e
  exact ⟨hkept.begun hst hscan, hbring.trans (hring.trans (atEntry_parts e.cap x d fp s).1), hlands.begun s, hconceal ▸ hgc,
    begun_zeroed hcounters⟩

variable (hasked : s.params.autoResume = true ∧ e.intent = .playing) (ht : s.ring.p ≠ d.t)
include hasked ht

theorem resumed_warmPlaying (hslot : (s.slot s.ring.p).playable = true) :
    KeptBy s (resumed x d fp s e) ∧ (resumed x d fp s e).ring = s.ring ∧
    Lands (resumed x d fp s e) .playing .play e.frame 0 4096 ∧ (resumed x d fp s e).engine.slotOpen = true ∧
    (resumed x d fp s e).conceal.gpStep = stepOf s.params.rp ∧ (resumed x d fp s e).conceal.gc = 4096 ∧
    (resumed x d fp s e).events.counters = Vector.replicate 15 ⟨0, false⟩ := by
  obtain ⟨hvq, hvplay⟩ := atEntry_ready (cap := e.cap) (x := x) (d := d) (fp := fp) hq hplay
  obtain ⟨hvring, -, -, -, -, -, hparams, -⟩ := atEntry_parts e.cap x d fp s
  obtain ⟨hkept, hring, hlands, hopen, hstep, hgc, hcounters⟩ := warm_playing hvplay hvq e.frame
  have hstart := startMatched_warmRow (x := x) hq hplay hwarm hasked ht
  rw [if_pos hslot] at hstart
  rw [← hstart] at hkept hring hlands hopen hstep hgc hcounters
  rw [hparams] at hstep
  obtain ⟨hbring, hengine, hconceal, -⟩ := resumed_frame x d fp s e
  exact ⟨hkept.begun hst hscan, hbring.trans (hring.trans hvring), hlands.begun s, hengine ▸ hopen, hconceal ▸ hstep,
    hconceal ▸ hgc, begun_zeroed hcounters⟩

theorem resumed_warmStarved (hslot : (s.slot s.ring.p).playable = false)
    (hwait : 0 < s.params.holeWait * d.rate.hz / 1000 ∨ (s.slot s.ring.p).isMissing = false) :
    KeptBy s (resumed x d fp s e) ∧ (resumed x d fp s e).ring = s.ring ∧
    Lands (resumed x d fp s e) .starved .play e.frame 4096 4096 ∧ StallRuns s (resumed x d fp s e) ∧
    (resumed x d fp s e).engine.slotOpen = s.engine.slotOpen ∧ (resumed x d fp s e).engine.holeWait = 0 ∧
    (resumed x d fp s e).conceal.gc = 4096 ∧ (resumed x d fp s e).counter .starveEpisodes = 1 ∧
    ∃ n, ⟨SEvent.starved s.ring.p, n⟩ ∈ (resumed x d fp s e).events.sSet := by
  obtain ⟨hvq, hvplay⟩ := atEntry_ready (cap := e.cap) (x := x) (d := d) (fp := fp) hq hplay
  obtain ⟨hvring, -, -, hvengine, -, -, hparams, hnow⟩ := atEntry_parts e.cap x d fp s
  obtain ⟨hkept, hring, hlands, hstall, hopen, hhole, hgc, htold⟩ := warm_starved hvplay hvq e.frame
  obtain ⟨hcount, -⟩ := warm_starved_counter e.frame (atEntry e.cap x d fp s)
  have hstart := startMatched_warmRow (x := x) hq hplay hwarm hasked ht
  have hnot : ¬ (s.params.holeWait * d.rate.hz / 1000 = 0 ∧ (s.slot s.ring.p).isMissing = true) := fun ⟨h0, hm⟩ => by
    rcases hwait with h | h
    · omega
    · rw [hm] at h; cases h
  rw [if_neg (by rw [hslot]; decide), if_neg hnot] at hstart
  rw [← hstart] at hkept hring hlands hstall hopen hhole hgc htold hcount
  rw [atEntry_counter] at hcount
  rw [hvengine] at hopen
  rw [hvring] at htold
  obtain ⟨hbring, hengine, hconceal, hsSet, hcounter⟩ := resumed_frame x d fp s e
  exact ⟨hkept.begun hst hscan, hbring.trans (hring.trans hvring), hlands.begun s, hstall.begun hnow hparams,
    hengine ▸ hopen, hengine ▸ hhole, hconceal ▸ hgc, (hcounter _).trans hcount, hsSet ▸ htold⟩

theorem resumed_warmExpired (hm : (s.slot s.ring.p).isMissing = true) (hwait : s.params.holeWait * d.rate.hz / 1000 = 0)
    (hlaw : s.ring.Law) :
    KeptBy s (resumed x d fp s e) ∧ (resumed x d fp s e).slot s.ring.p = .void s.ring.p ∧
    (∀ a, s.ring.p < a → a < s.ring.p + s.ring.len → (resumed x d fp s e).slot a = s.slot a) ∧
    Lands (resumed x d fp s e) .playing .play e.frame 4096 4096 ∧ (resumed x d fp s e).engine.slotOpen = true ∧
    (resumed x d fp s e).conceal.gc = 0 ∧ (resumed x d fp s e).counter .starveEpisodes = 1 ∧
    (resumed x d fp s e).counter .slotsAbandoned = 1 ∧
    ∃ n, ⟨SEvent.slotAbandoned s.ring.p s.ring.p, n⟩ ∈ (resumed x d fp s e).events.sSet := by
  obtain ⟨hvq, hvplay⟩ := atEntry_ready (cap := e.cap) (x := x) (d := d) (fp := fp) hq hplay
  have hvring := (atEntry_parts e.cap x d fp s).1
  obtain ⟨hkept, hring, hlands, hopen, hgc, hstarves, habandons, htold⟩ := warm_expired hvplay hvq e.frame
  have hstart := startMatched_warmRow (x := x) hq hplay hwarm hasked ht
  have hslot : ¬ (s.slot s.ring.p).playable = true := by
    cases h : s.slot s.ring.p <;> simp_all [Slot.isMissing, Slot.playable]
  rw [if_neg hslot, if_pos ⟨hwait, hm⟩] at hstart
  rw [← hstart] at hkept hring hlands hopen hgc hstarves habandons htold
  rw [atEntry_counter] at hstarves habandons
  rw [hvring] at hring htold
  obtain ⟨hbring, hengine, hconceal, hsSet, hcounter⟩ := resumed_frame x d fp s e
  have hpl : s.ring.p < s.ring.p + s.ring.len := Nat.lt_add_of_pos_right (len_pos s.ring)
  obtain ⟨hvoid, hothers⟩ := giveUpHole_slot hlaw (le_refl _) hpl hm
  have hslots : ∀ a, (resumed x d fp s e).slot a = (s.ring.giveUpHole s.ring.p).slot a := fun a => by
    rw [State.slot, hbring, hring]
  exact ⟨hkept.begun hst hscan, (hslots _).trans hvoid,
    fun a hlo hhi => (hslots a).trans (hothers a hlo.le hhi (by omega)), hlands.begun s, hengine ▸ hopen, hconceal ▸ hgc,
    (hcounter _).trans hstarves, (hcounter _).trans habandons, hsSet ▸ htold⟩

end

end

/-- Settles O52: a frame that is not taken, or not valid, changes next to nothing; a valid one makes one of the starts. -/
theorem directoryStartsSession : Obligations.DirectoryStartsSession := by
  intro rate flags tag length addresses address s
  have hlen : addresses.length = (addresses.map BitVec.toNat).length := (List.length_map _).symm
  have hstarts : ∀ x ∈ addresses.map BitVec.toNat, x < 16777216 := fun x hx => by
    obtain ⟨y, -, rfl⟩ := List.mem_map.mp hx
    exact y.isLt
  have ht24 : length.toNat < 16777216 := length.isLt
  rw [hlen]
  clear hlen
  generalize addresses.map BitVec.toNat = starts at *
  generalize length.toNat = t24 at *
  intro n starts' payload head bytes c d fp hunt flaw haddr hn hready hscan hrx
  refine ⟨fun hs => exec_directory_ignored haddr hn hready hrx hscan hs, fun reason hs hflaw =>
    ⟨_, exec_directory_bad haddr hn hready hrx ht24 hstarts hs hscan hflaw, rfl, rfl, rfl, rfl⟩,
    fun hs hflaw hplay hdepth htable hq => ?_⟩
  intro raised begun' zeroed flushed plays waits
  have hexec : exec c s = .next (begun s (startOn d fp (setRx rxHunt s))) :=
    exec_directory_good haddr hn hready hrx ht24 hstarts hs hflaw
  obtain ⟨hne, hpair, hrange⟩ := firstFlaw_none hflaw
  refine ⟨fun hno => ?_, fun k e he hfp hprogs het => ?_⟩
  · have hhead : d.startOf 1 = starts.headD 0 := by cases starts <;> rfl
    rw [startOn_unmatched (matchEntry_none hno)] at hexec
    obtain ⟨hst, hbegun, hrecord⟩ := unmatched_begun (d := d) (fp := fp)
      (x := .discIdentified fp d.rate d.starts.length d.t) (d.startOf 1) hq hplay hdepth (.inl rfl)
    obtain ⟨hvq, hvplay⟩ := atEntry_ready (cap := none) (x := .discIdentified fp d.rate d.starts.length d.t) (d := d)
      (fp := fp) hq hplay
    obtain ⟨-, -, -, -, -, -, hparams, hnow⟩ := atEntry_parts none (.discIdentified fp d.rate d.starts.length d.t) d fp s
    obtain ⟨hflushed, hgc, hprimes, hstops⟩ := unmatched_start (a := d.startOf 1) hvq hvplay (by rw [hparams]; exact hdepth)
      (by
        rw [(atEntry_disc ..).1, hhead]
        obtain ⟨a, rest, rfl⟩ := List.exists_cons_of_ne_nil hne
        exact (hrange a (by simp)).ne)
    rw [hparams] at hprimes hstops
    have hprogram := unmatched_program hne hpair hbegun (by rw [← hhead]; exact hflushed)
    have hflushed' := hflushed.begun hst.queue
    refine ⟨_, hexec, hbegun.all, by rw [← hhead]; exact hflushed', (congrArg Conceal.gc (begun_frame ..).2.2.2.1).trans hgc,
      hrecord, fun hauto => ?_, fun hauto => ?_⟩
    · obtain ⟨hlands, hstall⟩ := hprimes hauto
      exact ⟨(hlands.begun s).all, hprogram, hstall.begun hnow hparams⟩
    · have hlands := (hstops hauto).begun s
      exact ⟨hlands.all, hprogram, hlands.pauseFlag⟩
  · intro p warm asked limit kept
    have hmatch := matchEntry_some htable he ⟨hfp, hprogs, het⟩
    rw [startOn_matched hmatch] at hexec
    obtain ⟨hst, hbegun, hrecord⟩ := matched_begun (d := d) (fp := fp)
      (x := .discMatched (k + 1) e.address e.frame e.intent) e hq hplay hdepth (.inr rfl)
    refine ⟨resumed (.discMatched (k + 1) e.address e.frame e.intent) d fp s e, hexec, hbegun.all, hrecord,
      fun hw ha => ?_, fun hw ha ht hs => ?_, fun hw ha ht hs hl => ?_, fun hw ha ht hm hl hlaw => ?_, fun hw ha => ?_,
      fun hw ha ht => ?_, fun ha ht => ?_⟩
    · obtain ⟨hkept, hring, hlands, hgc, hzero⟩ := resumed_warmPaused hq hplay hst hscan hw ha
      exact ⟨hkept, hring, hlands.all, hgc, hzero⟩
    · obtain ⟨hkept, hring, hlands, hopen, hstep, hgc, hzero⟩ := resumed_warmPlaying hq hplay hst hscan hw ha ht hs
      exact ⟨hkept, hring, hlands.all, hopen, hstep, hgc, hzero⟩
    · obtain ⟨hkept, hring, hlands, hrest⟩ := resumed_warmStarved hq hplay hst hscan hw ha ht hs hl
      exact ⟨hkept, hring, hlands.all, hrest⟩
    · obtain ⟨hkept, hvoid, hothers, hlands, hrest⟩ := resumed_warmExpired hq hplay hst hscan hw ha ht hm hl hlaw
      exact ⟨hkept, hvoid, hothers, hlands.all, hrest⟩
    · obtain ⟨hflushed, hlands, hgc⟩ := resumed_coldPaused hq hplay hst hw ha
      exact ⟨hflushed, hlands.all, hgc⟩
    · obtain ⟨hflushed, hlands, hrest⟩ := resumed_coldPriming hq hplay hst hdepth ha hw ht
      exact ⟨hflushed, hlands.all, hrest⟩
    · obtain ⟨hflushed, hlands, htold⟩ := resumed_end hq hplay hst hdepth ha ht
      exact ⟨hflushed, hlands.all, htold⟩

end Sys2Proof.Machine
end

section
/-! PROOF. MergeByTable: R52's table as equations at each position, what a merge leaves of a held copy (R53), and two
copies in either order (R55). -/

namespace Sys2Proof.Machine

/-! ### R52's table, position by position -/

@[simp] theorem mergeMarks_length : ∀ hms ams : List Bool, (mergeMarks hms ams).length = hms.length
  | [], _ => by simp [mergeMarks]
  | _ :: _, [] => by simp [mergeMarks]
  | _ :: hms, _ :: ams => by simp [mergeMarks, mergeMarks_length hms ams]

/-- A mark stays where both copies are marked. -/
theorem mergeMarks_getD : ∀ {hms ams : List Bool} (i : Nat), ams.length = hms.length →
    (mergeMarks hms ams).getD i false = (hms.getD i false && ams.getD i false)
  | [], [], _, _ => rfl
  | _ :: _, _ :: _, 0, _ => rfl
  | _ :: hms, _ :: ams, i + 1, h => mergeMarks_getD (hms := hms) (ams := ams) i (Nat.succ.inj h)

/-- The arriving word is taken where the held one is flawed and it is clean. -/
theorem mergeWords_getD : ∀ {hms : List Bool} {hws : List Word} {ams : List Bool} {aws : List Word} (i : Nat),
    hws.length = hms.length → ams.length = hms.length → aws.length = hms.length →
    (mergeWords hms hws ams aws).getD i 0 =
      if hms.getD i false = true ∧ ams.getD i false = false then aws.getD i 0 else hws.getD i 0
  | [], [], [], [], _, _, _, _ => rfl
  | _ :: _, _ :: _, _ :: _, _ :: _, 0, _, _, _ => by simp [mergeWords]
  | _ :: hms, _ :: hws, _ :: ams, _ :: aws, i + 1, hw, hm, ha =>
    mergeWords_getD (hms := hms) (hws := hws) (ams := ams) (aws := aws) i (Nat.succ.inj hw) (Nat.succ.inj hm)
      (Nat.succ.inj ha)

@[simp] theorem mergeWords_length : ∀ (hms : List Bool) (hws : List Word) (ams : List Bool) (aws : List Word),
    (mergeWords hms hws ams aws).length = hws.length
  | [], _, _, _ | _ :: _, [], _, _ | _ :: _, _ :: _, [], _ | _ :: _, _ :: _, _ :: _, [] => by simp [mergeWords]
  | _ :: hms, _ :: hws, _ :: ams, _ :: aws => by simp [mergeWords, mergeWords_length hms hws ams aws]

/-- The number of words gained: positions marked in the held copy and clean in the arriving one (R52). -/
def wordsGained (hms ams : List Bool) : Nat :=
  ((List.range hms.length).filter fun i => hms.getD i false && !ams.getD i false).length

theorem wordsGained_cons (hm am : Bool) (hms ams : List Bool) :
    wordsGained (hm :: hms) (am :: ams) = oneIf (hm && !am) + wordsGained hms ams := by
  simp only [wordsGained, List.length_cons, List.range_succ_eq_map, List.filter_cons, List.filter_map]
  cases hm <;> cases am <;> simp [oneIf, Function.comp_def, Nat.add_comm]

/-- The flaw count falls by the words gained (R52). -/
theorem markCount_mergeMarks : ∀ {hms ams : List Bool}, ams.length = hms.length →
    markCount (mergeMarks hms ams) + wordsGained hms ams = markCount hms
  | [], [], _ => rfl
  | hm :: hms, am :: ams, h => by
    have ih := markCount_mergeMarks (hms := hms) (ams := ams) (Nat.succ.inj h)
    rw [wordsGained_cons, mergeMarks]
    simp only [markCount, List.countP_cons] at ih ⊢
    cases hm <;> cases am <;> simp [oneIf] <;> omega

/-- A copy without marks gains nothing (R54). -/
theorem mergeMarks_clean (n : Nat) (ams : List Bool) :
    mergeMarks (List.replicate n false) ams = List.replicate n false := by
  induction n generalizing ams with
  | zero => simp [mergeMarks]
  | succ n ih => cases ams <;> simp [List.replicate_succ, mergeMarks, ih]

theorem mergeWords_clean (n : Nat) (hws : List Word) (ams : List Bool) (aws : List Word) :
    mergeWords (List.replicate n false) hws ams aws = hws := by
  induction n generalizing hws ams aws with
  | zero => simp [mergeWords]
  | succ n ih => cases hws <;> cases ams <;> cases aws <;> simp [List.replicate_succ, mergeWords, ih]

/-- The marks left by two copies do not depend on their order (R55). -/
theorem mergeMarks_right_comm : ∀ hms ams bms : List Bool,
    mergeMarks (mergeMarks hms ams) bms = mergeMarks (mergeMarks hms bms) ams
  | [], _, _ | _ :: _, [], [] | _ :: _, [], _ :: _ | _ :: _, _ :: _, [] => by simp [mergeMarks]
  | hm :: hms, am :: ams, bm :: bms => by
    simp only [mergeMarks, mergeMarks_right_comm hms ams bms, Bool.and_right_comm hm am bm]

/-- Where exactly one of two copies is clean, or the held word is, their order leaves the word alone (R55). -/
theorem mergeWords_right_comm_getD {hms : List Bool} {hws : List Word} {b c : Block} (i : Nat)
    (hw : hws.length = hms.length) (hbw : b.words.length = hms.length) (hbm : b.marks.length = hms.length)
    (hcw : c.words.length = hms.length) (hcm : c.marks.length = hms.length)
    (h : b.marks.getD i false ≠ c.marks.getD i false ∨ hms.getD i false = false) :
    (mergeWords (mergeMarks hms b.marks) (mergeWords hms hws b.marks b.words) c.marks c.words).getD i 0 =
      (mergeWords (mergeMarks hms c.marks) (mergeWords hms hws c.marks c.words) b.marks b.words).getD i 0 := by
  simp only [mergeWords_getD, mergeMarks_getD, mergeWords_length, mergeMarks_length, hw, hbw, hbm, hcw, hcm]
  revert h
  cases hms.getD i false
  · intro _; rfl
  · cases b.marks.getD i false <;> cases c.marks.getD i false <;> simp

/-! ### The slot after a merge (R53) -/

/-- A held copy is in a slot that is not EMPTY. -/
theorem Slot.Copies.nonempty {n : Nat} {marks : List Bool} {words : List Word} {v : Slot}
    (hv : v.Copies n marks words) : v.isEmpty = false := by
  obtain ⟨tag, source, rfl, -⟩ | ⟨tag, source, settled, rfl⟩ := hv <;> rfl

theorem Slot.Copies.map {n : Nat} {marks : List Bool} {words : List Word} {v : Slot} (hv : v.Copies n marks words) :
    v.map n = marks := by
  obtain ⟨tag, source, rfl, rfl⟩ | ⟨tag, source, settled, rfl⟩ := hv <;> rfl

theorem Slot.Copies.wordAt {n i : Nat} {marks : List Bool} {words : List Word} {v : Slot}
    (hv : v.Copies n marks words) (hn : marks.length = n) (hi : i < n) :
    v.wordAt i = (marks.getD i false, words.getD i 0) := by
  obtain ⟨tag, source, rfl, rfl⟩ | ⟨tag, source, settled, rfl⟩ := hv
  · simp [Slot.wordAt, hi]
  · simp [Slot.wordAt, hn ▸ hi]

/-- A FLAWED slot after a merge by the words gained: CLEAN when they are all its marks, otherwise FLAWED with its
settled flag kept; from REPAIR when there is one (R53). -/
theorem mergeFlawed_eq (tag : Nat) {map : List Bool} (words : List Word) (source : Source) (settled : Bool) {b : Block}
    (hb : b.marks.length = map.length) : mergeFlawed tag map words source settled b =
      let words' := mergeWords map words b.marks b.words
      let source' := if 0 < wordsGained map b.marks then .repair else source
      if wordsGained map b.marks = markCount map then .clean tag words' source'
      else .flawed tag (mergeMarks map b.marks) words' source' settled := by
  have hcount := markCount_mergeMarks hb
  have hnone : markCount (mergeMarks map b.marks) = 0 ↔ wordsGained map b.marks = markCount map := by omega
  have hfalls : markCount (mergeMarks map b.marks) < markCount map ↔ 0 < wordsGained map b.marks := by omega
  simp only [mergeFlawed, hnone, hfalls]

/-- A held copy, CLEAN or FLAWED, takes a block by R52's table; for a CLEAN one the table keeps all (R52, R54). -/
theorem acceptInto_copies {n : Nat} {marks : List Bool} {words : List Word} {v : Slot} {b : Block} (a : Nat)
    (hv : v.Copies n marks words) (hn : marks.length = n) :
    (acceptInto a b v).Copies n (mergeMarks marks b.marks) (mergeWords marks words b.marks b.words) := by
  obtain ⟨tag, source, rfl, rfl⟩ | ⟨tag, source, settled, rfl⟩ := hv
  · rw [mergeMarks_clean, mergeWords_clean]
    exact .inl ⟨tag, source, rfl, rfl⟩
  · simp only [acceptInto, mergeFlawed]
    split
    · rename_i hzero
      have hnone : ∀ m ∈ mergeMarks marks b.marks, m = false := by
        simpa [markCount, List.countP_eq_zero] using hzero
      exact .inl ⟨_, _, rfl, List.eq_replicate_iff.mpr ⟨by rw [mergeMarks_length, hn], hnone⟩⟩
    · exact .inr ⟨_, _, _, rfl⟩

/-! ### The block written into a held copy -/

/-- The write keeps the ring's law and merges the block into the held copy (R52, R54). -/
theorem writeBlock_copies {s : State} {n a : Nat} {marks : List Bool} {words : List Word} (hr : s.ring.Law)
    (hlo : s.ring.p ≤ a) (hhi : a < s.ring.p + s.ring.len) (hv : (s.slot a).Copies n marks words)
    (hn : marks.length = n) (b : Block) :
    (writeBlock a b s).ring.Law ∧ (writeBlock a b s).ring.len = s.ring.len ∧
    ((writeBlock a b s).slot a).Copies n (mergeMarks marks b.marks) (mergeWords marks words b.marks b.words) := by
  obtain ⟨hwrite, hslot⟩ := written_copies hr hlo hhi hv b
  refine ⟨?_, by rw [hwrite]; rfl, hslot ▸ acceptInto_copies a hv hn⟩
  rw [writeBlock_below b (slot_held hr hlo hhi hv.nonempty).2]
  exact (moves_accept (live := False) (fp := none) (t := 0) a b s.ring).law hr

/-- Two blocks written one after the other merge one after the other. -/
theorem writeBlock_twice_copies {s : State} {n a : Nat} {marks : List Bool} {words : List Word} (hr : s.ring.Law)
    (hlo : s.ring.p ≤ a) (hhi : a < s.ring.p + s.ring.len) (hv : (s.slot a).Copies n marks words)
    (hn : marks.length = n) (b c : Block) :
    ((writeBlock a c (writeBlock a b s)).slot a).Copies n (mergeMarks (mergeMarks marks b.marks) c.marks)
      (mergeWords (mergeMarks marks b.marks) (mergeWords marks words b.marks b.words) c.marks c.words) := by
  obtain ⟨hlaw, hlen, hcopies⟩ := writeBlock_copies hr hlo hhi hv hn b
  exact (writeBlock_copies hlaw (by simpa using hlo) (by simpa [hlen] using hhi) hcopies (by simpa using hn) c).2.2

/-- Settles O48: one merge by the table at each position, two by the table applied twice. -/
theorem mergeByTable : Obligations.MergeByTable := by
  intro s a tag map words source settled b hr hae hlo hflawed hwords hbw hbm t gained
  have hhi : a < s.ring.p + s.ring.len := hae.trans_le hr.2.2.1
  have hv : (s.slot a).Copies map.length map words := .inr ⟨tag, source, settled, hflawed⟩
  obtain ⟨-, -, hcopies⟩ := writeBlock_copies hr hlo hhi hv rfl b
  obtain ⟨hwrite, hslot⟩ := written_copies hr hlo hhi hv b
  have hmerged := hslot.trans ((congrArg (acceptInto a b) hflawed).trans (mergeFlawed_eq tag words source settled hbm))
  have htag : (t.slot a).tag = some tag := by rw [hmerged]; dsimp only; split <;> rfl
  refine ⟨fun i hi => ?_, ?_, htag, fun h => ⟨_, hmerged.trans (if_pos h)⟩,
    fun h => ⟨_, _, hmerged.trans (if_neg h.ne)⟩, fun x hx hx' hne => ?_, by simp only [t, hwrite]; rfl,
    fun b' hbw' hbm' => ⟨?_, fun i hi hone => ?_⟩⟩
  · rw [hcopies.wordAt (by simp) hi, mergeMarks_getD i hbm, mergeWords_getD i hwords hbm hbw]
    cases map.getD i false <;> cases b.marks.getD i false <;> rfl
  · rw [Slot.flawCount, hcopies.map]
    exact markCount_mergeMarks hbm
  · simp only [t, hwrite]
    exact slot_setSlot_ne (lo := s.ring.p) _ ⟨hlo, hhi⟩ ⟨hx, hx'⟩ hne
  · rw [(writeBlock_twice_copies hr hlo hhi hv rfl b b').map, (writeBlock_twice_copies hr hlo hhi hv rfl b' b).map,
      mergeMarks_right_comm]
  · rw [(writeBlock_twice_copies hr hlo hhi hv rfl b b').wordAt (by simp) hi,
      (writeBlock_twice_copies hr hlo hhi hv rfl b' b).wordAt (by simp) hi, mergeMarks_right_comm,
      mergeWords_right_comm_getD i hwords hbw hbm hbw' hbm' hone]

end Sys2Proof.Machine
end

section
/-! PROOF. The Order Queue's law by its entries, and how a scan lets the queue grow (R56, R60). -/

namespace Sys2Proof.Machine

/-! ### The law of the queue -/

/-- The laws of the Order Queue, entry by entry (R56, R65). -/
structure QueueLaw (q : List Order) : Prop where
  size : q.length ≤ 16
  apart : Apart q
  small : ∀ o ∈ q, o.count ≤ 64
  tags : ∀ o ∈ q, ∀ i ∈ o.issue, 1 ≤ i.tag ∧ i.tag ≤ 255
  issued : q.countP Order.isIssued ≤ 1

theorem good_iff (o : Order) :
    o.good = true ↔ 1 ≤ o.count ∧ o.count ≤ 64 ∧ ∀ i ∈ o.issue, 1 ≤ i.tag ∧ i.tag ≤ 255 := by
  unfold Order.good
  cases o.issue <;> simp [and_assoc]

theorem disjoint_of_pairwise {q : List Order} (h : q.Pairwise fun x y => x.first + x.count ≤ y.first) :
    disjointOrders q = true := by
  induction q with
  | nil => rfl
  | cons a rest ih =>
    obtain ⟨ha, hrest⟩ := List.pairwise_cons.mp h
    cases rest with
    | nil => rfl
    | cons b rest => simp [disjointOrders, ha b (by simp), ih hrest]

theorem plannerLaw_iff (p : Planner) : p.Law ↔ QueueLaw p.queue ∧ p.tagCounter ≤ 255 := by
  constructor
  · intro h
    have hapart := apart_of_law h
    obtain ⟨hsize, -, hgood, hissued, htag⟩ := h
    simp only [good_iff] at hgood
    exact ⟨⟨hsize, hapart, fun o ho => (hgood o ho).2.1, fun o ho => (hgood o ho).2.2, hissued⟩, htag⟩
  · rintro ⟨⟨hsize, ⟨hpair, hcount⟩, hsmall, htags, hissued⟩, htag⟩
    exact ⟨hsize, disjoint_of_pairwise hpair, fun o ho => (good_iff o).mpr ⟨hcount o ho, hsmall o ho, htags o ho⟩,
      hissued, htag⟩

/-- Two entries that cover one address are one. -/
theorem Apart.eq_of_covered {q : List Order} (h : Apart q) {x y : Order} {a : Nat} (hx : x ∈ q) (hy : y ∈ q)
    (hxa : x.first ≤ a ∧ a < x.first + x.count) (hya : y.first ≤ a ∧ a < y.first + y.count) : x = y := by
  obtain ⟨l, r, rfl⟩ := List.append_of_mem hx
  exact (eq_of_covers (a := a) h (by simpa [Order.covers] using hxa) hy (by simpa [Order.covers] using hya)).symm

/-- Two entries that begin at one address are one. -/
theorem Apart.eq_of_first {q : List Order} (h : Apart q) {x y : Order} (hx : x ∈ q) (hy : y ∈ q)
    (hfirst : x.first = y.first) : x = y := by
  have hcx := h.2 x hx
  have hcy := h.2 y hy
  exact h.eq_of_covered (a := x.first) hx hy (by omega) (by omega)

/-- The entries before and behind one of a queue whose entries are apart. -/
theorem Apart.append_cons_iff {l r : List Order} {o : Order} : Apart (l ++ o :: r) ↔ Apart (l ++ r) ∧
    1 ≤ o.count ∧ (∀ x ∈ l, x.first + x.count ≤ o.first) ∧ ∀ y ∈ r, o.first + o.count ≤ y.first := by
  simp only [Apart, List.pairwise_append, List.pairwise_cons, List.mem_append, List.mem_cons]
  constructor
  · rintro ⟨⟨hl, ⟨hor, hr⟩, hcross⟩, hcount⟩
    exact ⟨⟨⟨hl, hr, fun x hx y hy => hcross x hx y (.inr hy)⟩, fun x hx => hcount x (by tauto)⟩,
      hcount o (by simp), fun x hx => hcross x hx o (.inl rfl), hor⟩
  · rintro ⟨⟨⟨hl, hr, hcross⟩, hcount⟩, ho, hlo, hor⟩
    refine ⟨⟨hl, ⟨hor, hr⟩, fun x hx y hy => ?_⟩, fun x hx => ?_⟩
    · rcases hy with rfl | hy
      · exact hlo x hx
      · exact hcross x hx y hy
    · rcases hx with hx | rfl | hx
      · exact hcount x (.inl hx)
      · exact ho
      · exact hcount x (.inr hx)

theorem coveredBy_append_cons {l r : List Order} {o : Order} {a : Nat} : coveredBy (l ++ o :: r) a ↔
    coveredBy (l ++ r) a ∨ o.first ≤ a ∧ a < o.first + o.count := by
  simp only [coveredBy, List.mem_append, List.mem_cons]
  constructor
  · rintro ⟨x, hx | rfl | hx, ha⟩
    exacts [.inl ⟨x, .inl hx, ha⟩, .inr ha, .inl ⟨x, .inr hx, ha⟩]
  · rintro (⟨x, hx | hx, ha⟩ | ha)
    exacts [⟨x, .inl hx, ha⟩, ⟨x, .inr (.inr hx), ha⟩, ⟨o, .inr (.inl rfl), ha⟩]

/-! ### Growth -/

/-- What a scan may make of an entry: a QUEUED one takes in addresses of `X`, an ISSUED one stays as it is (R60). -/
structure Order.Grown (X : Nat → Prop) (o g : Order) : Prop where
  attempts : g.attempts = o.attempts
  issue : g.issue = o.issue
  first : g.first ≤ o.first
  last : o.first + o.count ≤ g.first + g.count
  held : o.issue ≠ none → g = o
  only : ∀ a, g.first ≤ a → a < g.first + g.count → o.first ≤ a ∧ a < o.first + o.count ∨ X a

/-- A new entry, of addresses of `X` alone (R60). -/
structure Order.Fresh (X : Nat → Prop) (g : Order) : Prop where
  attempts : g.attempts = 0
  issue : g.issue = none
  only : ∀ a, g.first ≤ a → a < g.first + g.count → X a

/-- A queue that grows by addresses of `X`: its entries keep their order, with new ones between them. -/
inductive Grows (X : Nat → Prop) : List Order → List Order → Prop where
  | nil : Grows X [] []
  | grown {o g : Order} {q q' : List Order} : o.Grown X g → Grows X q q' → Grows X (o :: q) (g :: q')
  | fresh {g : Order} {q q' : List Order} : g.Fresh X → Grows X q q' → Grows X q (g :: q')

section
variable {X Y : Nat → Prop} {o g g' : Order} {q q' q'' l r : List Order}

theorem Order.Grown.refl (X : Nat → Prop) (o : Order) : o.Grown X o :=
  ⟨rfl, rfl, le_refl _, le_refl _, fun _ => rfl, fun _ h1 h2 => .inl ⟨h1, h2⟩⟩

theorem Order.Grown.mono (h : o.Grown X g) (hXY : ∀ a, X a → Y a) : o.Grown Y g :=
  { h with only := fun a h1 h2 => (h.only a h1 h2).imp_right (hXY a) }

theorem Order.Grown.trans (h : o.Grown X g) (h' : g.Grown X g') : o.Grown X g' where
  attempts := h'.attempts.trans h.attempts
  issue := h'.issue.trans h.issue
  first := h'.first.trans h.first
  last := h.last.trans h'.last
  held hi := (h'.held (h.issue ▸ hi)).trans (h.held hi)
  only a h1 h2 := (h'.only a h1 h2).elim (fun ha => h.only a ha.1 ha.2) .inr

/-- An entry that cannot have grown at either end is the one that was there. -/
theorem Order.Grown.eq (h : o.Grown X g) (hfirst : o.first ≤ g.first)
    (hlast : g.first + g.count ≤ o.first + o.count) : g = o := by
  have hlo := h.first
  have hhi := h.last
  have hf : g.first = o.first := by omega
  have hc : g.count = o.count := by omega
  have hattempts := h.attempts
  have hissue := h.issue
  cases o; cases g
  simp_all

theorem Order.Fresh.mono (h : g.Fresh X) (hXY : ∀ a, X a → Y a) : g.Fresh Y :=
  { h with only := fun a h1 h2 => hXY a (h.only a h1 h2) }

theorem Order.Fresh.grow (h : g.Fresh X) (h' : g.Grown X g') : g'.Fresh X where
  attempts := h'.attempts.trans h.attempts
  issue := h'.issue.trans h.issue
  only a h1 h2 := (h'.only a h1 h2).elim (fun ha => h.only a ha.1 ha.2) id

theorem Grows.refl (X : Nat → Prop) : ∀ q, Grows X q q
  | [] => .nil
  | o :: q => .grown (.refl X o) (Grows.refl X q)

theorem Grows.mono (h : Grows X q q') (hXY : ∀ a, X a → Y a) : Grows Y q q' := by
  induction h with
  | nil => exact .nil
  | grown hg _ ih => exact .grown (hg.mono hXY) ih
  | fresh hg _ ih => exact .fresh (hg.mono hXY) ih

theorem Grows.trans (h : Grows X q q') (h' : Grows X q' q'') : Grows X q q'' := by
  induction h' generalizing q with
  | nil => exact h
  | grown hg _ ih =>
    cases h with
    | grown ho hq => exact .grown (ho.trans hg) (ih hq)
    | fresh ho hq => exact .fresh (ho.grow hg) (ih hq)
  | fresh hg _ ih => exact .fresh hg (ih h)

theorem Grows.append (hr : Grows X q q') : ∀ l, Grows X (l ++ q) (l ++ q')
  | [] => hr
  | o :: l => .grown (.refl X o) (hr.append l)

theorem Grows.of_mem (h : Grows X q q') (ho : o ∈ q) : ∃ g ∈ q', o.Grown X g := by
  induction h with
  | nil => cases ho
  | grown hg _ ih =>
    rcases List.mem_cons.mp ho with rfl | ho
    · exact ⟨_, by simp, hg⟩
    · obtain ⟨g, hin, hog⟩ := ih ho
      exact ⟨g, List.mem_cons_of_mem _ hin, hog⟩
  | fresh _ _ ih =>
    obtain ⟨g, hin, hog⟩ := ih ho
    exact ⟨g, List.mem_cons_of_mem _ hin, hog⟩

/-- The entries that were there stand in their order among those of the grown queue; the others are new. -/
theorem Grows.sublist (h : Grows X q q') : ∃ kept, kept.Sublist q' ∧ List.Forall₂ (Order.Grown X) q kept ∧
    ∀ g ∈ q', g ∈ kept ∨ g.Fresh X := by
  induction h with
  | nil => exact ⟨[], .slnil, .nil, by simp⟩
  | @grown o g _ _ hg _ ih =>
    obtain ⟨kept, hsub, hall, hnew⟩ := ih
    refine ⟨g :: kept, hsub.cons_cons g, .cons hg hall, fun x hx => ?_⟩
    rcases List.mem_cons.mp hx with rfl | hx
    · exact .inl (by simp)
    · exact (hnew x hx).imp_left (List.mem_cons_of_mem _)
  | @fresh g _ _ hg _ ih =>
    obtain ⟨kept, hsub, hall, hnew⟩ := ih
    refine ⟨kept, hsub.cons g, hall, fun x hx => ?_⟩
    rcases List.mem_cons.mp hx with rfl | hx
    · exact .inr hg
    · exact hnew x hx

theorem Grows.mem_cases (h : Grows X q q') (hg : g ∈ q') : (∃ o ∈ q, o.Grown X g) ∨ g.Fresh X := by
  induction h with
  | nil => cases hg
  | grown hog _ ih =>
    rcases List.mem_cons.mp hg with rfl | hg
    · exact .inl ⟨_, by simp, hog⟩
    · exact (ih hg).imp_left fun ⟨o, ho, hgo⟩ => ⟨o, List.mem_cons_of_mem _ ho, hgo⟩
  | fresh hf _ ih =>
    rcases List.mem_cons.mp hg with rfl | hg
    · exact .inr hf
    · exact ih hg

/-- Growth issues nothing. -/
theorem Grows.countP_issued (h : Grows X q q') : q'.countP Order.isIssued = q.countP Order.isIssued := by
  induction h with
  | nil => rfl
  | @grown o g _ _ hg _ ih =>
    have hsame : g.isIssued = o.isIssued := by rw [Order.isIssued, Order.isIssued, hg.issue]
    rw [List.countP_cons, List.countP_cons, ih, hsame]
  | fresh hg _ ih => simp [ih, Order.isIssued, hg.issue]

theorem Grows.covered (h : Grows X q q') {a : Nat} (ha : coveredBy q a) : coveredBy q' a := by
  obtain ⟨o, ho, h1, h2⟩ := ha
  obtain ⟨g, hg, hog⟩ := h.of_mem ho
  exact ⟨g, hg, hog.first.trans h1, h2.trans_le hog.last⟩

theorem Grows.covered_cases (h : Grows X q q') {a : Nat} (ha : coveredBy q' a) : coveredBy q a ∨ X a := by
  obtain ⟨g, hg, h1, h2⟩ := ha
  rcases h.mem_cases hg with ⟨o, ho, hog⟩ | hf
  · exact (hog.only a h1 h2).imp_left fun ha => ⟨o, ho, ha⟩
  · exact .inr (hf.only a h1 h2)

/-- An entry all above what comes to be covered is neither new nor changed. -/
theorem Grows.mem_above_iff {m : Nat} (h : Grows X q q') (hX : ∀ a, X a → a < m) (hm : m < o.first)
    (hcount : 1 ≤ o.count) : o ∈ q' ↔ o ∈ q := by
  constructor
  · intro ho
    rcases h.mem_cases ho with ⟨x, hx, hxo⟩ | hf
    · have hlast : o.first + o.count ≤ x.first + x.count := by
        by_contra hlt
        have hfirst := hxo.first
        rcases hxo.only (x.first + x.count) (by omega) (by omega) with h1 | h1
        · omega
        · have := hX _ h1; omega
      have hfirst : x.first ≤ o.first := by
        rcases hxo.only o.first (le_refl _) (by omega) with h1 | h1
        · exact h1.1
        · have := hX _ h1; omega
      exact hxo.eq hfirst hlast ▸ hx
    · have := hX _ (hf.only o.first (le_refl _) (by omega)); omega
  · intro ho
    obtain ⟨g, hg, hog⟩ := h.of_mem ho
    have hle := hog.first
    have hge := hog.last
    have hfirst : o.first ≤ g.first := by
      by_contra hlt
      rcases hog.only (o.first - 1) (by omega) (by omega) with h1 | h1
      · omega
      · have := hX _ h1; omega
    have hlast : g.first + g.count ≤ o.first + o.count := by
      by_contra hlt
      rcases hog.only (o.first + o.count) (by omega) (by omega) with h1 | h1
      · omega
      · have := hX _ h1; omega
    exact hog.eq hfirst hlast ▸ hg

/-- An entry that ends at an address which does not come to be covered, keeps its end. -/
theorem Order.Grown.last_eq (h : o.Grown X g) (hX : ¬ X (o.first + o.count)) :
    g.first + g.count = o.first + o.count := by
  have hfirst := h.first
  have hlast := h.last
  by_contra hne
  rcases h.only (o.first + o.count) (by omega) (by omega) with h1 | h1
  · omega
  · exact hX h1

/-- Where all that comes to be covered lies above it, an entry keeps its first address. -/
theorem Order.Grown.first_eq {m : Nat} (h : o.Grown X g) (hX : ∀ a, X a → m ≤ a) (hm : o.first ≤ m)
    (hcount : 1 ≤ o.count) : g.first = o.first := by
  have hfirst := h.first
  have hlast := h.last
  by_contra hne
  rcases h.only g.first (le_refl _) (by omega) with h1 | h1
  · omega
  · have := hX _ h1; omega

/-- An entry all below what comes to be covered stays as it is. -/
theorem Grows.mem_below {m : Nat} (h : Grows X q q') (hX : ∀ a, X a → m ≤ a) (ho : o ∈ q)
    (hm : o.first + o.count < m) (hcount : 1 ≤ o.count) : o ∈ q' := by
  obtain ⟨g, hg, hog⟩ := h.of_mem ho
  have hlast := hog.last_eq fun hx => by have := hX _ hx; omega
  exact hog.eq (hog.first_eq hX (by omega) hcount).ge hlast.le ▸ hg

/-- An entry of 64 addresses stays as it is. -/
theorem Grows.mem_full (h : Grows X q q') (hsmall : ∀ g ∈ q', g.count ≤ 64) (ho : o ∈ q) (hfull : o.count = 64) :
    o ∈ q' := by
  obtain ⟨g, hg, hog⟩ := h.of_mem ho
  have hcount := hsmall g hg
  have hfirst := hog.first
  have hlast := hog.last
  exact hog.eq (by omega) (by omega) ▸ hg

/-! ### A queue filled -/

/-- A queue that grows, within its law, to cover the addresses of `X`. -/
structure Fills (X : Nat → Prop) (q q' : List Order) : Prop where
  law : QueueLaw q'
  grows : Grows X q q'
  all : ∀ a, X a → coveredBy q' a

theorem Fills.none (h : QueueLaw q) (hX : ∀ a, ¬ X a) : Fills X q q := ⟨h, .refl X q, fun a ha => absurd ha (hX a)⟩

theorem Fills.trans {Z : Nat → Prop} (h : Fills X q q') (h' : Fills Y q' q'') (hZ : ∀ a, Z a ↔ X a ∨ Y a) :
    Fills Z q q'' where
  law := h'.law
  grows := (h.grows.mono fun a ha => (hZ a).mpr (.inl ha)).trans (h'.grows.mono fun a ha => (hZ a).mpr (.inr ha))
  all a ha := ((hZ a).mp ha).elim (fun hx => h'.grows.covered (h.all a hx)) (h'.all a)

theorem Fills.covered_iff (h : Fills X q q') (a : Nat) : coveredBy q' a ↔ coveredBy q a ∨ X a :=
  ⟨h.grows.covered_cases, fun ha => ha.elim h.grows.covered (h.all a)⟩

/-- A QUEUED entry extended over addresses that no entry covered (R60 steps 1 and 2). -/
theorem fills_extend (h : QueueLaw (l ++ o :: r)) (hqueued : o.issue = none) (hgrown : o.Grown X g)
    (hsmall : g.count ≤ 64) (hfree : ∀ a, X a → ¬ coveredBy (l ++ o :: r) a)
    (hall : ∀ a, X a → g.first ≤ a ∧ a < g.first + g.count) : Fills X (l ++ o :: r) (l ++ g :: r) := by
  have hgrows : Grows X (l ++ o :: r) (l ++ g :: r) := (Grows.grown hgrown (.refl X r)).append l
  obtain ⟨hsize, hapart, hsm, htags, hissued⟩ := h
  obtain ⟨hlr, ho, hl, hr⟩ := Apart.append_cons_iff.mp hapart
  have hfirst := hgrown.first
  have hlast := hgrown.last
  have hmiss : ∀ x ∈ l ++ r, ∀ a, x.first ≤ a → a < x.first + x.count → ¬ X a := fun x hx a h1 h2 ha =>
    hfree a ha (coveredBy_append_cons.mpr (.inl ⟨x, hx, h1, h2⟩))
  have hgissue : g.issue = none := hgrown.issue.trans hqueued
  refine ⟨⟨by simpa using hsize, Apart.append_cons_iff.mpr ⟨hlr, by omega, fun x hx => ?_, fun x hx => ?_⟩, ?_, ?_,
    hgrows.countP_issued ▸ hissued⟩, hgrows, fun a ha => coveredBy_append_cons.mpr (.inr (hall a ha))⟩
  · have hx1 := hlr.2 x (by simp [hx])
    have hxo := hl x hx
    by_contra hlt
    rcases hgrown.only (x.first + x.count - 1) (by omega) (by omega) with h1 | h1
    · omega
    · exact hmiss x (by simp [hx]) _ (by omega) (by omega) h1
  · have hx1 := hlr.2 x (by simp [hx])
    have hxo := hr x hx
    by_contra hlt
    rcases hgrown.only x.first (by omega) (by omega) with h1 | h1
    · omega
    · exact hmiss x (by simp [hx]) _ (by omega) (by omega) h1
  · simp only [List.mem_append, List.mem_cons] at hsm ⊢
    rintro x (hx | rfl | hx)
    exacts [hsm x (.inl hx), hsmall, hsm x (.inr (.inr hx))]
  · simp only [List.mem_append, List.mem_cons] at htags ⊢
    rintro x (hx | rfl | hx)
    exacts [htags x (.inl hx), by simp [hgissue], htags x (.inr (.inr hx))]

/-- A new entry put in its place (R60 step 3). -/
theorem fills_insert (h : QueueLaw (l ++ r)) (hfresh : g.Fresh X) (hcount : 1 ≤ g.count) (hsmall : g.count ≤ 64)
    (hroom : (l ++ r).length < 16) (hl : ∀ x ∈ l, x.first ≤ g.first) (hr : ∀ y ∈ r, g.first < y.first)
    (hfree : ∀ a, X a → ¬ coveredBy (l ++ r) a) (hall : ∀ a, X a → g.first ≤ a ∧ a < g.first + g.count) :
    Fills X (l ++ r) (l ++ g :: r) := by
  have hgrows : Grows X (l ++ r) (l ++ g :: r) := (Grows.fresh hfresh (.refl X r)).append l
  obtain ⟨hsize, hapart, hsm, htags, hissued⟩ := h
  have hmiss : ∀ x ∈ l ++ r, ∀ a, x.first ≤ a → a < x.first + x.count → a < g.first ∨ g.first + g.count ≤ a :=
    fun x hx a h1 h2 => by
      by_contra hin
      exact hfree a (hfresh.only a (by omega) (by omega)) ⟨x, hx, h1, h2⟩
  refine ⟨⟨?_, Apart.append_cons_iff.mpr ⟨hapart, hcount, fun x hx => ?_, fun x hx => ?_⟩, ?_, ?_,
    hgrows.countP_issued ▸ hissued⟩, hgrows, fun a ha => coveredBy_append_cons.mpr (.inr (hall a ha))⟩
  · simp only [List.length_append, List.length_cons] at hroom ⊢; omega
  · have hx1 := hapart.2 x (by simp [hx])
    have hxg := hl x hx
    by_contra hlt
    have := hmiss x (by simp [hx]) g.first hxg (by omega)
    omega
  · have hx1 := hapart.2 x (by simp [hx])
    have hxg := hr x hx
    have := hmiss x (by simp [hx]) x.first (le_refl _) (by omega)
    omega
  · simp only [List.mem_append, List.mem_cons] at hsm ⊢
    rintro x (hx | rfl | hx)
    exacts [hsm x (.inl hx), hsmall, hsm x (.inr hx)]
  · simp only [List.mem_append, List.mem_cons] at htags ⊢
    rintro x (hx | rfl | hx)
    exacts [htags x (.inl hx), by simp [hfresh.issue], htags x (.inr hx)]

end

end Sys2Proof.Machine
end

section
/-! PROOF. One range placed in the queue: the joins below and above, and the new entries (R60, R61). -/

namespace Sys2Proof.Machine

/-! ### The joins and the new entry -/

/-- Step 1 extends the one QUEUED entry that ends just below, or finds none (R60). -/
theorem joinBelow_cases (first n : Nat) (q : List Order) :
    joinBelow first n q = (q, 0) ∧ (∀ o ∈ q, o.issue = none → o.first + o.count ≠ first) ∨
    ∃ l o r, q = l ++ o :: r ∧ o.issue = none ∧ o.first + o.count = first ∧ joinBelow first n q =
      (l ++ { o with count := o.count + min n (64 - o.count) } :: r, min n (64 - o.count)) := by
  induction q with
  | nil => exact .inl ⟨rfl, by simp⟩
  | cons x rest ih =>
    by_cases hx : (!x.isIssued && x.first + x.count = first) = true
    · have hx' : x.issue = none ∧ x.first + x.count = first := by simpa [Order.isIssued] using hx
      exact .inr ⟨[], x, rest, rfl, hx'.1, hx'.2, by simp only [joinBelow, hx, if_true, List.nil_append]⟩
    · have hne : x.issue = none → x.first + x.count ≠ first := by simpa [Order.isIssued] using hx
      rcases ih with ⟨heq, hnone⟩ | ⟨l, o, r, hq, ho, hend, heq⟩
      · exact .inl ⟨by simp [joinBelow, hx, heq], List.forall_mem_cons.mpr ⟨hne, hnone⟩⟩
      · exact .inr ⟨x :: l, o, r, by simp [hq], ho, hend, by simp [joinBelow, hx, heq]⟩

/-- Step 2 extends the one QUEUED entry that begins just above and has room, or finds none (R60). -/
theorem joinAbove_cases (first n : Nat) (q : List Order) :
    joinAbove first n q = none ∧ (∀ o ∈ q, o.issue = none → o.first = first + n → 64 < o.count + n) ∨
    ∃ l o r, q = l ++ o :: r ∧ o.issue = none ∧ o.first = first + n ∧ o.count + n ≤ 64 ∧
      joinAbove first n q = some (l ++ { o with first := first, count := o.count + n } :: r) := by
  induction q with
  | nil => exact .inl ⟨rfl, by simp⟩
  | cons x rest ih =>
    by_cases hx : (!x.isIssued && x.first = first + n && x.count + n ≤ 64) = true
    · have hx' : (x.issue = none ∧ x.first = first + n) ∧ x.count + n ≤ 64 := by simpa [Order.isIssued] using hx
      obtain ⟨⟨hq, hf⟩, hc⟩ := hx'
      exact .inr ⟨[], x, rest, rfl, hq, hf, hc, by simp only [joinAbove, hx, if_true, List.nil_append]⟩
    · have hne : x.issue = none → x.first = first + n → 64 < x.count + n := by simpa [Order.isIssued] using hx
      rcases ih with ⟨heq, hnone⟩ | ⟨l, o, r, hq, ho, hf, hc, heq⟩
      · exact .inl ⟨by simp [joinAbove, hx, heq], List.forall_mem_cons.mpr ⟨hne, hnone⟩⟩
      · exact .inr ⟨x :: l, o, r, by simp [hq], ho, hf, hc, by simp [joinAbove, hx, heq]⟩

/-- A new entry goes behind those that begin at or below it. -/
theorem insertOrder_split {q : List Order} (o : Order) (h : q.Pairwise fun x y => x.first ≤ y.first) : ∃ l r, q = l ++ r ∧
    insertOrder o q = l ++ o :: r ∧ (∀ x ∈ l, x.first ≤ o.first) ∧ ∀ y ∈ r, o.first < y.first := by
  induction q with
  | nil => exact ⟨[], [], rfl, rfl, by simp, by simp⟩
  | cons x rest ih =>
    obtain ⟨hx, hrest⟩ := List.pairwise_cons.mp h
    by_cases hlt : o.first < x.first
    · refine ⟨[], x :: rest, rfl, by simp [insertOrder, hlt], by simp, List.forall_mem_cons.mpr ⟨hlt, fun y hy => ?_⟩⟩
      exact hlt.trans_le (hx y hy)
    · obtain ⟨l, r, hq, heq, hl, hr⟩ := ih hrest
      exact ⟨x :: l, r, by simp [hq], by simp [insertOrder, hlt, heq], List.forall_mem_cons.mpr ⟨not_lt.mp hlt, hl⟩, hr⟩

theorem Apart.firsts_rise {q : List Order} (h : Apart q) : q.Pairwise fun x y => x.first ≤ y.first :=
  h.1.imp fun hxy => (Nat.le_add_right _ _).trans hxy

/-- The addresses of `lo`..`hi`−1. -/
def Span (lo hi a : Nat) : Prop := lo ≤ a ∧ a < hi

/-- No entry covers an address of `lo`..`hi`−1. -/
def FreeFrom (lo hi : Nat) (q : List Order) : Prop := ∀ a, lo ≤ a → a < hi → ¬ coveredBy q a

theorem FreeFrom.after {lo mid hi : Nat} {q q' : List Order} (h : FreeFrom lo hi q) (hlo : lo ≤ mid)
    (hf : Grows (Span lo mid) q q') : FreeFrom mid hi q' := fun a h1 h2 ha =>
  (hf.covered_cases ha).elim (h a (hlo.trans h1) h2) fun hx => by have := hx.2; omega

theorem fills_joinBelow {first k hi : Nat} {l r : List Order} {o : Order} (h : QueueLaw (l ++ o :: r))
    (hqueued : o.issue = none) (hend : o.first + o.count = first) (hsmall : o.count + k ≤ 64)
    (hfree : FreeFrom first hi (l ++ o :: r)) (hhi : first + k ≤ hi) :
    Fills (Span first (first + k)) (l ++ o :: r) (l ++ { o with count := o.count + k } :: r) := by
  refine fills_extend h hqueued ⟨rfl, rfl, le_refl _, ?_, fun hi => absurd hqueued hi, fun a h1 h2 => ?_⟩ hsmall
    (fun a ha => hfree a ha.1 (ha.2.trans_le hhi)) fun a ha => ?_
  · dsimp only; omega
  · simp only [Span] at *; omega
  · simp only [Span] at *; omega

theorem fills_joinAbove {first n : Nat} {l r : List Order} {o : Order} (h : QueueLaw (l ++ o :: r))
    (hqueued : o.issue = none) (hfirst : o.first = first + n) (hsmall : o.count + n ≤ 64)
    (hfree : FreeFrom first (first + n) (l ++ o :: r)) :
    Fills (Span first (first + n)) (l ++ o :: r) (l ++ { o with first := first, count := o.count + n } :: r) := by
  refine fills_extend h hqueued ⟨rfl, rfl, ?_, ?_, fun hi => absurd hqueued hi, fun a h1 h2 => ?_⟩ hsmall
    (fun a ha => hfree a ha.1 ha.2) fun a ha => ?_
  · dsimp only; omega
  · dsimp only; omega
  · simp only [Span] at *; omega
  · simp only [Span] at *; omega

theorem fills_insertOrder {first n : Nat} {q : List Order} (h : QueueLaw q) (hn : 1 ≤ n) (hsmall : n ≤ 64)
    (hroom : q.length < 16) (hfree : FreeFrom first (first + n) q) :
    Fills (Span first (first + n)) q (insertOrder ⟨first, n, 0, none⟩ q) ∧
      ⟨first, n, 0, none⟩ ∈ insertOrder ⟨first, n, 0, none⟩ q := by
  obtain ⟨l, r, rfl, heq, hl, hr⟩ := insertOrder_split ⟨first, n, 0, none⟩ h.apart.firsts_rise
  rw [heq]
  exact ⟨fills_insert h ⟨rfl, rfl, fun a h1 h2 => ⟨h1, h2⟩⟩ hn hsmall hroom hl hr
    (fun a ha => hfree a ha.1 ha.2) fun a ha => ha, by simp⟩

/-! ### The pieces of a range -/

/-- A QUEUED entry of `q` that begins at `z` and has room for the addresses from `b` on (R60 step 2). -/
def JoinsAt (b z : Nat) (q : List Order) (o : Order) : Prop :=
  o ∈ q ∧ o.issue = none ∧ o.first = z ∧ o.count + (z - b) ≤ 64

/-- Where the piece at `b` of a range that ends before `z` goes: to the QUEUED entry just above where there is one with room,
else into an entry of its own (R60). -/
structure PieceAt (b z : Nat) (q q' : List Order) : Prop where
  joins : ∀ o, JoinsAt b z q o → ∃ g ∈ q', g.issue = none ∧ g.first = b ∧ o.first + o.count ≤ g.first + g.count
  fresh : (∀ o, ¬ JoinsAt b z q o) → ⟨b, min 64 (z - b), 0, none⟩ ∈ q'

/-- The queue is full and the piece at `b`, which no entry just above has room for, is left out (R61). -/
def LeftOutAt (b z : Nat) (q q' : List Order) : Prop :=
  q'.length = 16 ∧ ¬ coveredBy q' b ∧ ∀ o, ¬ JoinsAt b z q o

/-- The addresses `a`..`z`−1 put into the queue up to `stop`, cut at each 64 addresses (R60, R61). -/
structure Pieces (a z stop : Nat) (q q' : List Order) (ended : Bool) : Prop where
  fills : Fills (Span a stop) q q'
  from_le : a ≤ stop
  to_le : stop ≤ z
  whole : ended = false → stop = z
  full : ended = true → stop < z ∧ q'.length = 16
  piece : ∀ k b, b = a + 64 * k → b < z → b ≤ stop → PieceAt b z q q' ∨ LeftOutAt b z q q'

/-- The range joins the QUEUED entry above. -/
theorem pieces_joinAbove {a n : Nat} {l r : List Order} {o : Order} (h : QueueLaw (l ++ o :: r))
    (hqueued : o.issue = none) (hfirst : o.first = a + n) (hsmall : o.count + n ≤ 64) (hcount : 1 ≤ o.count)
    (hfree : FreeFrom a (a + n) (l ++ o :: r)) : Pieces a (a + n) (a + n) (l ++ o :: r)
      (l ++ { o with first := a, count := o.count + n } :: r) false where
  fills := fills_joinAbove h hqueued hfirst hsmall hfree
  from_le := by omega
  to_le := le_refl _
  whole _ := rfl
  full := nofun
  piece k b hb hz _ := by
    obtain rfl : b = a := by omega
    refine .inl ⟨fun x hx => ?_, fun hnone => absurd ⟨by simp, hqueued, hfirst, by omega⟩ (hnone o)⟩
    obtain ⟨hin, -, hxf, -⟩ := hx
    obtain rfl := h.apart.eq_of_first hin (by simp : o ∈ l ++ o :: r) (by omega)
    exact ⟨_, List.mem_append_right _ List.mem_cons_self, hqueued, rfl, by dsimp only; omega⟩

/-- A piece that the full queue leaves out. -/
theorem pieces_leftOut {a n : Nat} {q : List Order} (h : QueueLaw q) (hn : 1 ≤ n) (hfull : ¬ q.length < 16)
    (hfree : FreeFrom a (a + n) q) (hnone : ∀ o, ¬ JoinsAt a (a + n) q o) : Pieces a (a + n) a q q true where
  fills := .none h fun x hx => by have := hx.1; have := hx.2; omega
  from_le := le_refl _
  to_le := by omega
  whole := nofun
  full _ := ⟨by omega, by have := h.size; omega⟩
  piece k b hb hz hstop := by
    obtain rfl : b = a := by omega
    exact .inr ⟨by have := h.size; omega, hfree b (le_refl _) hz, hnone⟩

theorem pieces_newEntries {fuel a n : Nat} {q : List Order} (hfuel : n ≤ fuel) (hn : 1 ≤ n) (h : QueueLaw q)
    (hfree : FreeFrom a (a + n) q) :
    ∃ stop, Pieces a (a + n) stop q (newEntries fuel a n q).1 (newEntries fuel a n q).2 := by
  induction fuel generalizing a n q with
  | zero => omega
  | succ fuel ih =>
    have hn0 : n ≠ 0 := by omega
    simp only [newEntries, hn0, if_false]
    by_cases hsmall : n ≤ 64
    · simp only [hsmall, if_true]
      rcases joinAbove_cases a n q with ⟨heq, hnone⟩ | ⟨l, o, r, rfl, hqueued, hfirst, hroom, heq⟩
      · have hno : ∀ o, ¬ JoinsAt a (a + n) q o := fun o ⟨hin, hq, hf, hc⟩ => by
          have := hnone o hin hq hf; omega
        simp only [heq]
        by_cases hroom : q.length < 16
        · simp only [hroom, if_true]
          obtain ⟨hfills, hin⟩ := fills_insertOrder h hn hsmall hroom hfree
          refine ⟨a + n, hfills, by omega, le_refl _, fun _ => rfl, nofun, fun k b hb hz _ => ?_⟩
          obtain rfl : b = a := by omega
          refine .inl ⟨fun o ho => absurd ho (hno o), fun _ => ?_⟩
          have hmin : min 64 (b + n - b) = n := by omega
          rwa [hmin]
        · simp only [hroom, if_false]
          exact ⟨a, pieces_leftOut h hn hroom hfree hno⟩
      · simp only [heq]
        exact ⟨a + n, pieces_joinAbove h hqueued hfirst hroom (h.apart.2 o (by simp)) hfree⟩
    · simp only [hsmall, if_false]
      have hno : ∀ o, ¬ JoinsAt a (a + n) q o := fun o ⟨_, _, _, hc⟩ => by omega
      by_cases hroom : q.length < 16
      · simp only [hroom, if_true]
        obtain ⟨hfills, hin⟩ := fills_insertOrder (first := a) (n := 64) h (by omega) (le_refl _) hroom
          fun x h1 h2 => hfree x h1 (by omega)
        have hfree' := FreeFrom.after (mid := a + 64) hfree (by omega) hfills.grows
        have hz : a + 64 + (n - 64) = a + n := by omega
        obtain ⟨stop, hp⟩ := ih (a := a + 64) (n := n - 64) (by omega) (by omega) hfills.law (by rwa [hz])
        rw [hz] at hp
        obtain ⟨hfills', hfrom, hto, hwhole, hfull, hpiece⟩ := hp
        have hjoins : ∀ b o, JoinsAt b (a + n) (insertOrder ⟨a, 64, 0, none⟩ q) o ↔ JoinsAt b (a + n) q o := fun b o => by
          have hiff := fun hf : o.first = a + n => hfills.grows.mem_above_iff (o := o) (m := a + 64) (fun x hx => hx.2)
            (by omega)
          constructor
          · rintro ⟨hin, hq, hf, hc⟩
            exact ⟨(hiff hf (hfills.law.apart.2 o hin)).mp hin, hq, hf, hc⟩
          · rintro ⟨hin, hq, hf, hc⟩
            exact ⟨(hiff hf (h.apart.2 o hin)).mpr hin, hq, hf, hc⟩
        refine ⟨stop, hfills.trans hfills' fun x => by simp only [Span]; omega, by omega, hto, hwhole, hfull,
          fun k b hb hbz hstop => ?_⟩
        rcases k with _ | k
        · obtain rfl : b = a := by omega
          refine .inl ⟨fun o ho => absurd ho (hno o), fun _ => ?_⟩
          have hmin : min 64 (b + n - b) = 64 := by omega
          rw [hmin]
          exact hfills'.grows.mem_full hfills'.law.small hin rfl
        · refine (hpiece k b (by omega) hbz hstop).imp
            (fun ⟨hj, hf⟩ => ⟨fun o ho => hj o ((hjoins b o).mpr ho), fun hnone => ?_⟩)
            fun ⟨hsize, hout, hnone⟩ => ⟨hsize, hout, fun o ho => hnone o ((hjoins b o).mpr ho)⟩
          exact hf fun o ho => hnone o ((hjoins b o).mp ho)
      · simp only [hroom, if_false]
        exact ⟨a, pieces_leftOut h hn hroom hfree hno⟩

end Sys2Proof.Machine
end

section
/-! PROOF. The ranges placed in turn, and what the scan makes of each (R59 to R61). -/

namespace Sys2Proof.Machine

/-! ### One range -/

/-- The QUEUED entry of `q` that ends just below `first`, extended up to `a` in `q'`; without one `a` is `first` (R60 step
1). -/
structure RestAt (first a z : Nat) (q q' : List Order) : Prop where
  from_le : first ≤ a
  joined : ∀ o ∈ q, o.issue = none → o.first + o.count = first →
    ∃ g ∈ q', g.issue = none ∧ g.first ≤ o.first ∧ g.first + g.count = a ∧ a = min z (g.first + 64)
  alone : (∀ o ∈ q, o.issue = none → o.first + o.count ≠ first) → a = first

/-- The range `first`..`z`−1 put into the queue up to `stop` (R60, R61). -/
structure RangePlaced (first z stop : Nat) (q q' : List Order) (ended : Bool) : Prop where
  fills : Fills (Span first stop) q q'
  to_le : stop ≤ z
  whole : ended = false → stop = z
  full : ended = true → first ≤ stop ∧ stop < z ∧ q'.length = 16
  rest : ∃ a, RestAt first a z q q' ∧
    ∀ k b, b = a + 64 * k → b < z → b ≤ stop → PieceAt b z q q' ∨ LeftOutAt b z q q'

/-- An entry that begins at or above what has come to be covered is the same before and after. -/
theorem joinsAt_congr {b m z : Nat} {q q' : List Order} {X : Nat → Prop} (hf : Fills X q q') (h : QueueLaw q)
    (hX : ∀ a, X a → a < m) (hm : m < z) (o : Order) : JoinsAt b z q' o ↔ JoinsAt b z q o := by
  constructor
  · rintro ⟨hin, hq, hfirst, hc⟩
    exact ⟨(hf.grows.mem_above_iff hX (by omega) (hf.law.apart.2 o hin)).mp hin, hq, hfirst, hc⟩
  · rintro ⟨hin, hq, hfirst, hc⟩
    exact ⟨(hf.grows.mem_above_iff hX (by omega) (h.apart.2 o hin)).mpr hin, hq, hfirst, hc⟩

theorem piece_congr {b z : Nat} {q p q' : List Order} (h : PieceAt b z p q' ∨ LeftOutAt b z p q')
    (hj : ∀ o, JoinsAt b z p o ↔ JoinsAt b z q o) : PieceAt b z q q' ∨ LeftOutAt b z q q' :=
  h.imp (fun ⟨hjoin, hfresh⟩ => ⟨fun o ho => hjoin o ((hj o).mpr ho), fun hn => hfresh fun o ho => hn o ((hj o).mp ho)⟩)
    fun ⟨hsize, hout, hn⟩ => ⟨hsize, hout, fun o ho => hn o ((hj o).mpr ho)⟩

/-- Steps 2 and 3 for what step 1 has left of a range (R60). -/
theorem pieces_rest {a n : Nat} {q : List Order} (hn : 1 ≤ n) (h : QueueLaw q) (hfree : FreeFrom a (a + n) q) :
    ∃ stop q' ended, (match joinAbove a n q with
      | some q2 => (q2, false)
      | none => newEntries n a n q) = (q', ended) ∧ Pieces a (a + n) stop q q' ended := by
  rcases joinAbove_cases a n q with ⟨heq, -⟩ | ⟨l, o, r, rfl, hqueued, hfirst, hroom, heq⟩
  · obtain ⟨stop, hp⟩ := pieces_newEntries (le_refl n) hn h hfree
    exact ⟨stop, _, _, by simp only [heq], hp⟩
  · exact ⟨a + n, _, _, by simp only [heq], pieces_joinAbove h hqueued hfirst hroom (h.apart.2 o (by simp)) hfree⟩

theorem rangePlaced_placeRange {first n : Nat} {q : List Order} (hn : 1 ≤ n) (h : QueueLaw q)
    (hfree : FreeFrom first (first + n) q) : ∃ stop q' ended, placeRange first n q = (q', ended) ∧
      RangePlaced first (first + n) stop q q' ended := by
  rcases joinBelow_cases first n q with ⟨heq, hnone⟩ | ⟨l, o, r, rfl, hqueued, hend, heq⟩
  · obtain ⟨stop, q', ended, hrest, hfills, hfrom, hto, hwhole, hfull, hpiece⟩ := pieces_rest hn h hfree
    refine ⟨stop, q', ended, ?_, hfills, hto, hwhole, fun he => ⟨hfrom, hfull he⟩, first,
      ⟨le_refl _, fun o ho hq he => absurd he (hnone o ho hq), fun _ => rfl⟩, hpiece⟩
    have hn0 : ¬ n ≤ 0 := by omega
    simp only [placeRange, heq, hn0, if_false, Nat.add_zero, Nat.sub_zero]
    exact hrest
  · have hsmall := h.small o (by simp)
    generalize hk : min n (64 - o.count) = k at heq
    have hfills := fills_joinBelow (k := k) h hqueued hend (by omega) hfree (by omega)
    have hpos := h.apart.2 o (by simp)
    generalize hq1 : l ++ { o with count := o.count + k } :: r = q1 at heq hfills
    have hg : ({ o with count := o.count + k } : Order) ∈ q1 := by simp [← hq1]
    by_cases hall : n ≤ k
    · have hkn : k = n := by omega
      subst hkn
      refine ⟨first + k, q1, false, ?_, hfills, le_refl _, fun _ => rfl, nofun, first + k, ⟨by omega, ?_, ?_⟩, ?_⟩
      · simp only [placeRange, heq, le_refl, if_true]
      · intro x hx hxq hxe
        obtain rfl := h.apart.eq_of_covered (a := first - 1) hx (by simp : o ∈ l ++ o :: r)
          (by have := h.apart.2 x hx; omega) (by omega)
        exact ⟨_, hg, hqueued, le_refl _, by dsimp only; omega, by dsimp only; omega⟩
      · intro hno
        exact absurd hend (hno o (by simp) hqueued)
      · intro j b hb hbz; omega
    · have hz : first + k + (n - k) = first + n := by omega
      have hfree' := FreeFrom.after (mid := first + k) hfree (by omega) hfills.grows
      obtain ⟨stop, q', ended, hrest, hfills', hfrom, hto, hwhole, hfull, hpiece⟩ :=
        pieces_rest (a := first + k) (n := n - k) (by omega) hfills.law (by rwa [hz])
      rw [hz] at hto hwhole hfull hpiece
      refine ⟨stop, q', ended, ?_, hfills.trans hfills' fun x => by simp only [Span]; omega, hto, hwhole,
        fun he => ⟨by omega, hfull he⟩, first + k, ⟨by omega, ?_, ?_⟩, fun j b hb hbz hstop => ?_⟩
      · simp only [placeRange, heq, hall, if_false]
        exact hrest
      · intro x hx hxq hxe
        obtain rfl := h.apart.eq_of_covered (a := first - 1) hx (by simp : o ∈ l ++ o :: r)
          (by have := h.apart.2 x hx; omega) (by omega)
        refine ⟨_, hfills'.grows.mem_full hfills'.law.small hg (by dsimp only; omega), hqueued, le_refl _, ?_, ?_⟩
        · dsimp only; omega
        · dsimp only; omega
      · intro hno
        exact absurd hend (hno o (by simp) hqueued)
      · exact piece_congr (hpiece j b hb hbz hstop) (joinsAt_congr hfills h (fun x hx => hx.2) (by omega))

/-! ### The ranges in turn -/

/-- The addresses of a list of ranges, each given by its first address and its count. -/
def Within (rs : List (Nat × Nat)) (a : Nat) : Prop := ∃ x ∈ rs, x.1 ≤ a ∧ a < x.1 + x.2

/-- Ranges in ascending order, with an address between any two. -/
def Separate (rs : List (Nat × Nat)) : Prop :=
  rs.Pairwise (fun x y => x.1 + x.2 < y.1) ∧ ∀ x ∈ rs, 1 ≤ x.2

/-- What comes of the range `first`..`z`−1 of the addresses `X`, once the scan has come to it (R60, R61). -/
structure RangeShaped (X : Nat → Prop) (first z : Nat) (q q' : List Order) : Prop where
  rest : ∃ a, RestAt first a z q q' ∧ ∀ k b, b = a + 64 * k → b < z → (∀ c, X c → c < b → coveredBy q' c) →
    PieceAt b z q q' ∨ LeftOutAt b z q q'

/-- A queue after the scan of the addresses `X`, of which it has come to cover `Y`, the lowest of them (R59 to R61). -/
structure Scanned (rs : List (Nat × Nat)) (Y : Nat → Prop) (q q' : List Order) : Prop where
  fills : Fills Y q q'
  part : ∀ a, Y a → Within rs a
  lowest : ∀ a b, Within rs a → ¬ Y a → Y b → b < a
  full : (∀ a, Within rs a → Y a) ∨ q'.length = 16
  shaped : ∀ x ∈ rs, (∀ c, Within rs c → c < x.1 → coveredBy q' c) → RangeShaped (Within rs) x.1 (x.1 + x.2) q q'

theorem within_cons {x : Nat × Nat} {rs : List (Nat × Nat)} {a : Nat} :
    Within (x :: rs) a ↔ Span x.1 (x.1 + x.2) a ∨ Within rs a := by
  simp [Within, Span]

/-- What later ranges leave of a range already placed. -/
theorem RangePlaced.shaped {X Y : Nat → Prop} {first z : Nat} {q q1 q' : List Order}
    (h : RangePlaced first z z q q1 false) (hf : Fills Y q1 q') (hY : ∀ a, Y a → z < a) : RangeShaped X first z q q' := by
  obtain ⟨hfills, -, -, -, a, ⟨hfrom, hjoined, halone⟩, hpiece⟩ := h
  have hstay : ∀ g ∈ q1, g.first + g.count ≤ z → g ∈ q' := fun g hg hz =>
    hf.grows.mem_below (m := z + 1) hY hg (by omega) (hfills.law.apart.2 g hg)
  refine ⟨a, ⟨hfrom, fun o ho hq he => ?_, halone⟩, fun k b hb hbz _ => ?_⟩
  · obtain ⟨g, hg, hgq, hgf, hga, ha⟩ := hjoined o ho hq he
    exact ⟨g, hstay g hg (by omega), hgq, hgf, hga, ha⟩
  · rcases hpiece k b hb hbz (by omega) with ⟨hjoins, hfresh⟩ | ⟨-, hout, -⟩
    · refine .inl ⟨fun o ho => ?_, fun hn => hstay _ (hfresh hn) (by dsimp only; omega)⟩
      obtain ⟨g, hg, hgq, hgf, hgl⟩ := hjoins o ho
      obtain ⟨g', hg', hgg⟩ := hf.grows.of_mem hg
      have hfirst := hgg.first_eq (m := z) (fun x hx => by have := hY x hx; omega) (by omega) (hfills.law.apart.2 g hg)
      exact ⟨g', hg', hgg.issue.trans hgq, hfirst.trans hgf, hgl.trans hgg.last⟩
    · exact absurd (hfills.all b ⟨by omega, hbz⟩) hout

/-- What comes of a range is the same for the queue found and for that in which ranges below it have been placed. -/
theorem RangeShaped.of_below {X X' : Nat → Prop} {lo hi first z : Nat} {q q1 q' : List Order}
    (h : RangeShaped X' first z q1 q') (hf : Fills (Span lo hi) q q1) (hhi : hi < first) (hz : first < z)
    (hlaw : QueueLaw q) (hXX : ∀ c, X' c → X c) : RangeShaped X first z q q' := by
  obtain ⟨a, ⟨hfrom, hjoined, halone⟩, hpiece⟩ := h
  refine ⟨a, ⟨hfrom, fun o ho hq he => ?_, fun hno => halone fun o ho hq he => ?_⟩, fun k b hb hbz hreach => ?_⟩
  · obtain ⟨o1, ho1, hgrown⟩ := hf.grows.of_mem ho
    have hlast := hgrown.last_eq fun hx => by have := hx.2; omega
    obtain ⟨g, hg, hgq, hgf, hrest⟩ := hjoined o1 ho1 (hgrown.issue.trans hq) (hlast.trans he)
    exact ⟨g, hg, hgq, hgf.trans hgrown.first, hrest⟩
  · have hcount := hf.law.apart.2 o ho
    rcases hf.grows.mem_cases ho with ⟨x, hx, hgrown⟩ | hfresh
    · refine hno x hx (hgrown.issue ▸ hq) ?_
      have hlast := hgrown.last
      by_contra hne
      rcases hgrown.only (first - 1) (by omega) (by omega) with h1 | h1
      · omega
      · have := h1.2; omega
    · have := (hfresh.only (first - 1) (by omega) (by omega)).2
      omega
  · exact piece_congr (hpiece k b hb hbz fun c hc => hreach c (hXX c hc))
      (joinsAt_congr hf hlaw (fun x hx => hx.2) (by omega))

theorem scanned_placeRanges {rs : List (Nat × Nat)} {q : List Order} (hrs : Separate rs) (h : QueueLaw q)
    (hfree : ∀ a, Within rs a → ¬ coveredBy q a) : ∃ Y, Scanned rs Y q (placeRanges rs q) := by
  induction rs generalizing q with
  | nil =>
    exact ⟨fun _ => False, .none h fun _ => id, fun _ => False.elim, fun _ _ _ _ hb => hb.elim,
      .inl fun a ⟨x, hx, _⟩ => absurd hx List.not_mem_nil, fun x hx => absurd hx List.not_mem_nil⟩
  | cons x more ih =>
    obtain ⟨first, n⟩ := x
    obtain ⟨hpair, hcount⟩ := hrs
    obtain ⟨hx, hmore⟩ := List.pairwise_cons.mp hpair
    have hn : 1 ≤ n := hcount (first, n) (by simp)
    have habove : ∀ a, Within more a → first + n < a := fun a ⟨y, hy, hya, _⟩ => (hx y hy).trans_le hya
    obtain ⟨stop, q1, ended, heq, hp⟩ := rangePlaced_placeRange (first := first) hn h fun a h1 h2 =>
      hfree a (within_cons.mpr (.inl ⟨h1, h2⟩))
    cases ended with
    | true =>
      have hplace : placeRanges ((first, n) :: more) q = q1 := by simp [placeRanges, heq]
      obtain ⟨hfills, hto, -, hfull, a, hrest, hpiece⟩ := hp
      obtain ⟨hfrom, hstop, hsize⟩ := hfull rfl
      have hout : ¬ coveredBy q1 stop := fun hc => ((hfills.covered_iff stop).mp hc).elim
        (hfree stop (within_cons.mpr (.inl ⟨hfrom, hstop⟩))) fun hs => lt_irrefl _ hs.2
      rw [hplace]
      refine ⟨Span first stop, hfills, fun a ha => within_cons.mpr (.inl ⟨ha.1, ha.2.trans hstop⟩),
        fun a b ha hna hb => ?_, .inr hsize, fun y hy hreach => ?_⟩
      · rcases within_cons.mp ha with ha | ha
        · simp only [Span] at *; omega
        · have := habove a ha; have := hb.2; omega
      · have hat : ∀ c, stop < c → ∃ d, Within ((first, n) :: more) d ∧ d < c ∧ ¬ coveredBy q1 d := fun c hc =>
          ⟨stop, within_cons.mpr (.inl ⟨hfrom, hstop⟩), hc, hout⟩
        rcases List.mem_cons.mp hy with rfl | hy
        · refine ⟨a, hrest, fun k b hb hbz hcov => hpiece k b hb hbz ?_⟩
          by_contra hlt
          obtain ⟨d, hd, hdb, hno⟩ := hat b (by omega)
          exact hno (hcov d hd hdb)
        · obtain ⟨d, hd, hdy, hno⟩ := hat y.1 (by have := hx y hy; dsimp only at this; omega)
          exact absurd (hreach d hd hdy) hno
    | false =>
      have hplace : placeRanges ((first, n) :: more) q = placeRanges more q1 := by simp [placeRanges, heq]
      obtain rfl := hp.whole rfl
      have hfree' : ∀ a, Within more a → ¬ coveredBy q1 a := fun a ha hc =>
        ((hp.fills.covered_iff a).mp hc).elim (hfree a (within_cons.mpr (.inr ha)))
          fun hs => by have := habove a ha; have := hs.2; omega
      obtain ⟨Y, hfills, hpart, hlowest, hfull, hshaped⟩ :=
        ih ⟨hmore, fun y hy => hcount y (List.mem_cons_of_mem _ hy)⟩ hp.fills.law hfree'
      rw [hplace]
      refine ⟨fun a => Span first (first + n) a ∨ Y a, hp.fills.trans hfills fun _ => .rfl,
        fun a ha => within_cons.mpr (ha.imp_right (hpart a)), fun a b ha hna hb => ?_,
        hfull.imp_left fun hall a ha => (within_cons.mp ha).imp_right (hall a), fun y hy hreach => ?_⟩
      · rcases within_cons.mp ha with ha | ha
        · exact absurd (.inl ha) hna
        · rcases hb with hb | hb
          · exact hb.2.trans (habove a ha)
          · exact hlowest a b ha (fun hya => hna (.inr hya)) hb
      · rcases List.mem_cons.mp hy with rfl | hy
        · exact hp.shaped hfills fun a ha => habove a (hpart a ha)
        · have hsub : ∀ c, Within more c → Within ((first, n) :: more) c := fun c hc => within_cons.mpr (.inr hc)
          have hy1 := hcount y (List.mem_cons_of_mem _ hy)
          exact (hshaped y hy fun c hc => hreach c (hsub c hc)).of_below hp.fills (hx y hy) (by omega) h hsub

end Sys2Proof.Machine
end

section
/-! PROOF. The scan (R59 to R61): the ranges it looks for, and ScanCoversBadSlots. -/

namespace Sys2Proof.Machine

/-! ### The ranges of a list of addresses -/

theorem Separate.eq_or_apart {rs : List (Nat × Nat)} (h : Separate rs) {x y : Nat × Nat} (hx : x ∈ rs) (hy : y ∈ rs) :
    y = x ∨ y.1 + y.2 < x.1 ∨ x.1 + x.2 < y.1 := by
  obtain ⟨l, r, rfl⟩ := List.append_of_mem hx
  obtain ⟨-, hxr, hcross⟩ := List.pairwise_append.mp h.1
  rcases List.mem_append.mp hy with hy | hy
  · exact .inr (.inl (hcross y hy x (by simp)))
  · rcases List.mem_cons.mp hy with rfl | hy
    · exact .inl rfl
    · exact .inr (.inr ((List.pairwise_cons.mp hxr).1 y hy))

/-- Ascending addresses grouped into ranges: the same addresses, each range maximal. -/
theorem ranges_spec {l : List Nat} (h : l.Pairwise (· < ·)) : Separate (ranges l) ∧ ∀ a, Within (ranges l) a ↔ a ∈ l := by
  induction l with
  | nil => exact ⟨⟨.nil, by simp [ranges]⟩, fun a => by simp [ranges, Within]⟩
  | cons a rest ih =>
    obtain ⟨ha, hrest⟩ := List.pairwise_cons.mp h
    obtain ⟨⟨hpair, hcount⟩, hmem⟩ := ih hrest
    have habove : ∀ x ∈ ranges rest, a < x.1 := fun x hx =>
      ha _ ((hmem x.1).mp ⟨x, hx, le_refl _, by have := hcount x hx; omega⟩)
    simp only [ranges]
    split
    · rename_i b n more heq
      rw [heq] at hpair hcount hmem habove
      obtain ⟨hb, hmore⟩ := List.pairwise_cons.mp hpair
      simp only [List.forall_mem_cons] at hcount habove
      have hab := habove.1
      split
      · rename_i hnext
        refine ⟨⟨List.pairwise_cons.mpr ⟨fun y hy => ?_, hmore⟩,
          List.forall_mem_cons.mpr ⟨by omega, hcount.2⟩⟩, fun c => ?_⟩
        · have := hb y hy; dsimp only at this ⊢; omega
        · rw [List.mem_cons, ← hmem, within_cons, within_cons]
          simp only [Span]
          refine (or_congr_left ?_).trans or_assoc
          omega
      · rename_i hnext
        refine ⟨⟨List.pairwise_cons.mpr ⟨List.forall_mem_cons.mpr ⟨by dsimp only; omega, fun y hy => ?_⟩, hpair⟩,
          List.forall_mem_cons.mpr ⟨le_refl _, List.forall_mem_cons.mpr hcount⟩⟩, fun c => ?_⟩
        · have := hb y hy; have := hcount.1; dsimp only at *; omega
        · rw [List.mem_cons, ← hmem, within_cons]
          simp only [Span]
          refine or_congr_left ?_
          omega
    · rename_i heq
      rw [heq] at hmem
      refine ⟨⟨List.pairwise_singleton .., by simp⟩, fun c => ?_⟩
      rw [List.mem_cons, ← hmem, within_cons]
      simp only [Span]
      refine or_congr_left ?_
      omega

/-- The ranges for which a scan looks (R59). -/
theorem within_uncoveredBad (s : State) (a : Nat) : Within (uncoveredBad s) a ↔ s.unplaced a := by
  have hspec := ranges_spec (((badIn_pairwise s s.lowestPlaceable (s.ring.e - s.lowestPlaceable))).filter
    fun a => !s.planner.queue.any fun o => o.covers a)
  rw [uncoveredBad, hspec.2, List.mem_filter, mem_badIn]
  simp only [State.unplaced, coveredBy, Bool.not_eq_true', List.any_eq_false, Order.covers, Bool.and_eq_true,
    decide_eq_true_eq, not_exists, not_and]
  constructor
  · rintro ⟨⟨⟨hlo, hhi⟩, hbad⟩, hfree⟩
    exact ⟨hlo, by omega, hbad, hfree⟩
  · rintro ⟨hlo, hhi, hbad, hfree⟩
    exact ⟨⟨⟨hlo, by omega⟩, hbad⟩, hfree⟩

theorem separate_uncoveredBad (s : State) : Separate (uncoveredBad s) :=
  (ranges_spec ((badIn_pairwise s s.lowestPlaceable (s.ring.e - s.lowestPlaceable)).filter _)).1

/-- A maximal range of slots for which a scan looks is one of its ranges. -/
theorem mem_uncoveredBad {s : State} {first last : Nat} (h : s.UnplacedRange first last) :
    (first, last + 1 - first) ∈ uncoveredBad s := by
  obtain ⟨hordered, hinside, hbelow, habove⟩ := h
  have hin := fun a => within_uncoveredBad s a
  obtain ⟨⟨f, n⟩, hx, hf, hn⟩ := (hin first).mpr (hinside first (le_refl _) hordered)
  dsimp only at hf hn
  have hmem : ∀ a, f ≤ a → a < f + n → s.unplaced a := fun a h1 h2 => (hin a).mp ⟨_, hx, h1, h2⟩
  have hfirst : f = first := by
    by_contra hne
    exact hbelow (first - 1) (by omega) (hmem _ (by omega) (by omega))
  have hlo : last + 1 ≤ f + n := by
    by_contra hlt
    obtain ⟨y, hy, hya, hyb⟩ := (hin (f + n)).mpr (hinside _ (by omega) (by omega))
    rcases (separate_uncoveredBad s).eq_or_apart hx hy with rfl | hy | hy
    all_goals dsimp only at *; omega
  have hhi : f + n ≤ last + 1 := by
    by_contra hlt
    exact habove (hmem _ (by omega) (by omega))
  obtain rfl := hfirst
  rwa [show last + 1 - f = n by omega]

/-! ### The scan -/

/-- A scan in RUNNING with the session PRESENT covers the lowest of the slots that it looks for (R59 to R61). -/
theorem scanned_scan {s : State} (h : QueueLaw s.planner.queue) (hmode : s.power.mode = .running)
    (hsession : s.session.state = .present) :
    ∃ Y, Scanned (uncoveredBad s) Y s.planner.queue (scan s).planner.queue := by
  have hscan : (scan s).planner.queue = placeRanges (uncoveredBad s) s.planner.queue := by
    rw [scan, if_pos ⟨hmode, hsession⟩]; rfl
  rw [hscan]
  exact scanned_placeRanges (separate_uncoveredBad s) h fun a ha => ((within_uncoveredBad s a).mp ha).2.2.2

/-- A scan keeps the law of the queue, and covers nothing else. -/
theorem fills_scan {s : State} (h : QueueLaw s.planner.queue) :
    Fills (fun a => coveredBy (scan s).planner.queue a ∧ s.unplaced a) s.planner.queue (scan s).planner.queue := by
  by_cases hscan : s.power.mode = .running ∧ s.session.state = .present
  · obtain ⟨Y, hfills, hpart, -⟩ := scanned_scan h hscan.1 hscan.2
    exact ⟨hfills.law, hfills.grows.mono fun a ha => ⟨hfills.all a ha, (within_uncoveredBad s a).mp (hpart a ha)⟩,
      fun a ha => ha.1⟩
  · rw [scan, if_neg hscan]
    exact ⟨h, .refl _ _, fun a ha => ha.1⟩

theorem le_restFrom (t : State) (first : Nat) : first ≤ restFrom t first := by
  unfold restFrom
  split
  · rename_i g hfind
    have hp := List.find?_some hfind
    simp only [Bool.and_eq_true, decide_eq_true_eq] at hp
    exact hp.2.2
  · exact le_refl _

/-- Where the rest of a range begins, as `restFrom` finds it in the queue that the scan leaves (R60 step 1). -/
theorem restFrom_eq {s t : State} {X : Nat → Prop} {first z a : Nat}
    (hlaw : QueueLaw s.planner.queue) (h : RestAt first a z s.planner.queue t.planner.queue)
    (hf : Fills X s.planner.queue t.planner.queue) (hX : ∀ c, c + 1 = first → ¬ X c)
    (hfree : ¬ coveredBy s.planner.queue first) : restFrom t first = a := by
  have hbelow : ∀ g ∈ t.planner.queue, g.issue = none → g.first < first → first ≤ g.first + g.count →
      ∃ o ∈ s.planner.queue, o.issue = none ∧ o.first + o.count = first := fun g hg hq h1 h2 => by
    rcases hf.grows.mem_cases hg with ⟨o, ho, hgrown⟩ | hfresh
    · refine ⟨o, ho, hgrown.issue ▸ hq, ?_⟩
      rcases hgrown.only (first - 1) (by omega) (by omega) with hin | hin
      · by_contra hne
        exact hfree ⟨o, ho, by omega, by omega⟩
      · exact absurd hin (hX _ (by omega))
    · exact absurd (hfresh.only (first - 1) (by omega) (by omega)) (hX _ (by omega))
  unfold restFrom
  split
  · rename_i g hfind
    have hg := List.mem_of_find?_eq_some hfind
    have hp := List.find?_some hfind
    simp only [Bool.and_eq_true, Option.isNone_iff_eq_none, decide_eq_true_eq] at hp
    obtain ⟨hq, h1, h2⟩ := hp
    obtain ⟨o, ho, hoq, hend⟩ := hbelow g hg hq h1 h2
    obtain ⟨g', hg', -, hg'f, hg'a, -⟩ := h.joined o ho hoq hend
    have hcount := hf.law.apart.2 g hg
    have hocount := hlaw.apart.2 o ho
    have hfrom := h.from_le
    obtain rfl := hf.law.apart.eq_of_covered (a := first - 1) hg hg' (by omega) (by omega)
    exact hg'a
  · rename_i hfind
    refine (h.alone fun o ho hq hend => ?_).symm
    obtain ⟨g, hg, hgq, hgf, hga, ha⟩ := h.joined o ho hq hend
    have hcount := hlaw.apart.2 o ho
    have hfrom := h.from_le
    have := List.find?_eq_none.mp hfind g hg
    simp only [hgq, Option.isNone_none, Bool.true_and, decide_eq_true_eq] at this
    omega

/-- What the scan makes of a maximal range is what R60 says. -/
theorem Scanned.shapes {s t : State} {Y : Nat → Prop} (h : QueueLaw s.planner.queue)
    (hs : Scanned (uncoveredBad s) Y s.planner.queue t.planner.queue) {first last : Nat}
    (hr : s.UnplacedRange first last) : Shaped s t first last := by
  have hz : first + (last + 1 - first) = last + 1 := by have := hr.ordered; omega
  have hshaped := hs.shaped _ (mem_uncoveredBad hr)
  have hin' : Within (uncoveredBad s) = s.unplaced := funext fun a => propext (within_uncoveredBad s a)
  simp only [hin', hz] at hshaped
  have hin := hr.inside first (le_refl _) hr.ordered
  have hrest : ∀ a, RestAt first a (last + 1) s.planner.queue t.planner.queue → restFrom t first = a := fun a ha =>
    restFrom_eq h ha hs.fills (fun c hc hY => hr.below c hc ((within_uncoveredBad s c).mp (hs.part c hY))) hin.2.2.2
  refine ⟨fun o ho hq hend hreach => ?_, fun o ho hq hfirst k b hb hbl hreach hroom => ?_,
    fun k b hb hbl hreach hnone => ?_⟩
  · obtain ⟨a, hat, -⟩ := hshaped hreach
    obtain ⟨g, hg, hgq, hgf, hga, ha⟩ := hat.joined o ho hq hend
    exact ⟨g, hg, hgq, hgf, hga.trans ha⟩
  · have hle := hb ▸ Nat.le_add_right_of_le (le_restFrom t first)
    obtain ⟨a, hat, hpiece⟩ := hshaped fun c hc hlt => hreach c hc (hlt.trans_le hle)
    obtain rfl := hrest a hat
    rcases hpiece k b hb (by omega) hreach with ⟨hjoins, -⟩ | ⟨-, -, hno⟩
    · exact hjoins o ⟨ho, hq, hfirst, hroom⟩
    · exact absurd ⟨ho, hq, hfirst, hroom⟩ (hno o)
  · have hle := hb ▸ Nat.le_add_right_of_le (le_restFrom t first)
    obtain ⟨a, hat, hpiece⟩ := hshaped fun c hc hlt => hreach c hc (hlt.trans_le hle)
    obtain rfl := hrest a hat
    rcases hpiece k b hb (by omega) hreach with ⟨-, hfresh⟩ | ⟨hsize, hout, -⟩
    · exact .inl (hfresh fun o ⟨ho, hq, hfirst, hroom⟩ => by have := hnone o ho hq hfirst; omega)
    · exact .inr ⟨hsize, hout⟩

/-- Settles O38: `Scanned` carries the queue's law, what comes to be covered and the shape of each range through the ranges
that the scan places in turn. -/
theorem scanCoversBadSlots : Obligations.ScanCoversBadSlots := by
  intro s hlaw hmode hsession
  obtain ⟨hqueue, htag⟩ := (plannerLaw_iff _).mp hlaw
  obtain ⟨Y, hs⟩ := scanned_scan hqueue hmode hsession
  have hpart : ∀ a, Y a → s.unplaced a := fun a ha => (within_uncoveredBad s a).mp (hs.part a ha)
  have hplanner : (scan s).planner = { s.planner with queue := (scan s).planner.queue } := by rw [scan_eq]
  intro low t covered
  have hlook : ∀ a, low ≤ a → a < s.ring.e → s.badAt a = true → ¬ covered t a → Within (uncoveredBad s) a ∧ ¬ Y a :=
    fun a hlo hhi hbad hout => ⟨(within_uncoveredBad s a).mpr ⟨hlo, hhi, hbad, fun hc => hout (hs.fills.grows.covered hc)⟩,
      fun hY => hout (hs.fills.all a hY)⟩
  refine ⟨(plannerLaw_iff _).mpr ⟨hs.fills.law, hplanner ▸ htag⟩, fun a hlo hhi hbad => ?_, fun a => hs.fills.grows.covered,
    fun a ha => ?_, ?_, fun a b hlo hhi hbad hout hb => ?_, fun first last hr => hs.shapes hqueue hr, scan_eq s⟩
  · by_contra hnot
    obtain ⟨hout, hroom⟩ := not_or.mp hnot
    obtain ⟨hin, hY⟩ := hlook a hlo hhi hbad hout
    exact hs.full.elim (fun hall => hY (hall a hin)) hroom
  · refine (hs.fills.grows.covered_cases ha).imp_right fun hY => ?_
    obtain ⟨hlo, hhi, hbad, -⟩ := hpart a hY
    exact ⟨hlo, hhi, hbad⟩
  · obtain ⟨kept, hsub, hall, hnew⟩ := hs.fills.grows.sublist
    refine ⟨kept, hsub, hall.length_eq.symm, fun k o g ho hg => ?_, fun g hg => ?_⟩
    · obtain ⟨hk, rfl⟩ := List.getElem?_eq_some_iff.mp ho
      obtain ⟨hk', rfl⟩ := List.getElem?_eq_some_iff.mp hg
      obtain ⟨hattempts, hissue, hfirst, hlast, hheld, -⟩ := hall.get hk hk'
      exact ⟨hattempts, hissue, hfirst, hlast, hheld⟩
    · exact (hnew g hg).imp_right fun hf => ⟨hf.attempts, hf.issue, fun a h1 h2 => (hpart a (hf.only a h1 h2)).2.2.2⟩
  · obtain ⟨hin, hY⟩ := hlook a hlo hhi hbad hout
    exact (hs.fills.grows.covered_cases hb).imp_right (hs.lowest a b hin hY)

end Sys2Proof.Machine
end

section
/-! PROOF. What an operation keeps of the Order Queue: its law (R56), its place in the repair region (R58, R76). -/

namespace Sys2Proof.Machine

/-! ### A queue cut -/

/-- A part of an entry: addresses of it alone, and its tag while it is ISSUED. -/
structure Order.Part (o x : Order) : Prop where
  first : o.first ≤ x.first
  last : x.first + x.count ≤ o.first + o.count
  count : 1 ≤ o.count → 1 ≤ x.count
  issue : ∀ i ∈ x.issue, ∃ j ∈ o.issue, i.tag = j.tag

/-- A queue whose entries stay, each whole or in part, or go. -/
inductive Cut : List Order → List Order → Prop where
  | nil : Cut [] []
  | keep {o x : Order} {q q' : List Order} : o.Part x → Cut q q' → Cut (o :: q) (x :: q')
  | drop {o : Order} {q q' : List Order} : Cut q q' → Cut (o :: q) q'

theorem Order.Part.refl (o : Order) : o.Part o := ⟨le_refl _, le_refl _, id, fun i hi => ⟨i, hi, rfl⟩⟩

theorem Order.Part.trans {o x y : Order} (h : o.Part x) (h' : x.Part y) : o.Part y :=
  ⟨h.first.trans h'.first, h'.last.trans h.last, fun hc => h'.count (h.count hc), fun i hi =>
    let ⟨j, hj, hij⟩ := h'.issue i hi
    let ⟨k, hk, hjk⟩ := h.issue j hj
    ⟨k, hk, hij.trans hjk⟩⟩

theorem Cut.refl : ∀ q, Cut q q
  | [] => .nil
  | o :: q => .keep (.refl o) (Cut.refl q)

theorem Cut.trans {q q' q'' : List Order} (h : Cut q q') (h' : Cut q' q'') : Cut q q'' := by
  induction h generalizing q'' with
  | nil => exact h'
  | keep hx _ ih =>
    cases h' with
    | keep hy hq => exact .keep (hx.trans hy) (ih hq)
    | drop hq => exact .drop (ih hq)
  | drop _ ih => exact .drop (ih h')

theorem cut_filter (p : Order → Bool) : ∀ q, Cut q (q.filter p)
  | [] => .nil
  | o :: q => by
    rw [List.filter_cons]
    split
    · exact .keep (.refl o) (cut_filter p q)
    · exact .drop (cut_filter p q)

theorem cut_filterMap {f : Order → Option Order} :
    ∀ {q : List Order}, (∀ o ∈ q, ∀ x ∈ f o, o.Part x) → Cut q (q.filterMap f)
  | [], _ => .nil
  | o :: q, h => by
    rw [List.filterMap_cons]
    have hrest := cut_filterMap (q := q) fun x hx => h x (List.mem_cons_of_mem _ hx)
    split
    · exact .drop hrest
    · rename_i x hx
      exact .keep (h o (by simp) x hx) hrest

theorem cut_map {f : Order → Order} {q : List Order} (h : ∀ o ∈ q, o.Part (f o)) : Cut q (q.map f) := by
  rw [← List.filterMap_eq_map]
  exact cut_filterMap fun o ho x hx => by cases hx; exact h o ho

theorem Cut.of_mem {q q' : List Order} (h : Cut q q') {x : Order} (hx : x ∈ q') : ∃ o ∈ q, o.Part x := by
  induction h with
  | nil => cases hx
  | keep hp _ ih =>
    rcases List.mem_cons.mp hx with rfl | hx
    · exact ⟨_, by simp, hp⟩
    · obtain ⟨o, ho, hox⟩ := ih hx
      exact ⟨o, List.mem_cons_of_mem _ ho, hox⟩
  | drop _ ih =>
    obtain ⟨o, ho, hox⟩ := ih hx
    exact ⟨o, List.mem_cons_of_mem _ ho, hox⟩

theorem Cut.length_le {q q' : List Order} (h : Cut q q') : q'.length ≤ q.length := by
  induction h with
  | nil => exact le_refl _
  | keep _ _ ih => simpa using ih
  | drop _ ih => exact ih.trans (Nat.le_succ _)

theorem Cut.issued_le {q q' : List Order} (h : Cut q q') : q'.countP Order.isIssued ≤ q.countP Order.isIssued := by
  induction h with
  | nil => exact le_refl _
  | @keep o x _ _ hp _ ih =>
    have himp : x.isIssued = true → o.isIssued = true := fun hx => by
      obtain ⟨i, hi⟩ := Option.isSome_iff_exists.mp hx
      obtain ⟨j, hj, -⟩ := hp.issue i hi
      exact Option.isSome_iff_exists.mpr ⟨j, hj⟩
    rw [List.countP_cons, List.countP_cons]
    split <;> rename_i hx
    · rw [if_pos (himp hx)]; omega
    · omega
  | drop _ ih => rw [List.countP_cons]; omega

theorem Cut.apart {q q' : List Order} (h : Cut q q') (ha : Apart q) : Apart q' := by
  refine ⟨?_, fun x hx => ?_⟩
  · obtain ⟨hpair, hcount⟩ := ha
    clear hcount
    induction h with
    | nil => exact .nil
    | keep hp hq ih =>
      obtain ⟨ho, hrest⟩ := List.pairwise_cons.mp hpair
      refine List.pairwise_cons.mpr ⟨fun y hy => ?_, ih hrest⟩
      obtain ⟨z, hz, hzy⟩ := hq.of_mem hy
      exact hp.last.trans ((ho z hz).trans hzy.first)
    | drop _ ih => exact ih (List.pairwise_cons.mp hpair).2
  · obtain ⟨o, ho, hox⟩ := h.of_mem hx
    exact hox.count (ha.2 o ho)

/-- A queue cut keeps its law (R56). -/
theorem Cut.law {q q' : List Order} (h : Cut q q') (hq : QueueLaw q) : QueueLaw q' where
  size := h.length_le.trans hq.size
  apart := h.apart hq.apart
  small x hx := by
    obtain ⟨o, ho, hox⟩ := h.of_mem hx
    have := hq.small o ho
    have := hox.first
    have := hox.last
    omega
  tags x hx i hi := by
    obtain ⟨o, ho, hox⟩ := h.of_mem hx
    obtain ⟨j, hj, hij⟩ := hox.issue i hi
    exact hij ▸ hq.tags o ho j hj
  issued := h.issued_le.trans hq.issued

/-! ### What an operation keeps -/

/-- What an operation keeps of the Order Queue: its law, and where `ok` holds the repair region too. -/
structure Plans (ok : Prop) (s t : State) : Prop where
  law : s.planner.Law → t.planner.Law
  region : ok → s.planner.Law → s.RegionLaw → t.RegionLaw

/-- The repair region, by its lowest placeable address (R58). -/
theorem regionLaw_iff (s : State) : s.RegionLaw ↔
    (∀ o ∈ s.planner.queue, s.lowestPlaceable ≤ o.first ∧ o.first + o.count ≤ s.ring.e) ∧
    (s.session.state ≠ .present → s.planner.queue = []) := Iff.rfl

section
variable {ok : Prop} {s t u : State}

theorem Plans.refl (s : State) : Plans ok s s := ⟨id, fun _ _ => id⟩

theorem Plans.trans (h : Plans ok s t) (h' : Plans ok t u) : Plans ok s u :=
  ⟨fun hl => h'.law (h.law hl), fun hok hl hr => h'.region hok (h.law hl) (h.region hok hl hr)⟩

theorem Plans.mono {ok' : Prop} (h : Plans ok s t) (himp : ok' → ok) : Plans ok' s t :=
  ⟨h.law, fun hok => h.region (himp hok)⟩

/-- A law-abiding queue has its entries apart. -/
theorem Plans.of_apart (h : Apart s.planner.queue → Plans ok s t) : Plans ok s t :=
  ⟨fun hl => (h (apart_of_law hl)).law hl, fun hok hl => (h (apart_of_law hl)).region hok hl⟩

/-- An operation that cuts the queue, the repair region as it was or wider. -/
theorem Plans.of_cut (hcut : Apart s.planner.queue → Cut s.planner.queue t.planner.queue)
    (htag : t.planner.tagCounter = s.planner.tagCounter) (hlow : t.lowestPlaceable ≤ s.lowestPlaceable)
    (he : s.ring.e ≤ t.ring.e) (hsession : t.session.state = s.session.state) : Plans ok s t where
  law h := by
    obtain ⟨hq, ht⟩ := (plannerLaw_iff _).mp h
    exact (plannerLaw_iff _).mpr ⟨(hcut hq.apart).law hq, htag ▸ ht⟩
  region _ h hr := by
    have hc := hcut (apart_of_law h)
    obtain ⟨hin, haway⟩ := (regionLaw_iff s).mp hr
    refine (regionLaw_iff t).mpr ⟨fun x hx => ?_, fun hs => ?_⟩
    · obtain ⟨o, ho, hox⟩ := hc.of_mem hx
      obtain ⟨h1, h2⟩ := hin o ho
      exact ⟨hlow.trans (h1.trans hox.first), hox.last.trans (h2.trans he)⟩
    · rw [haway (hsession ▸ hs)] at hc
      exact List.eq_nil_of_length_eq_zero (Nat.le_zero.mp hc.length_le)

/-- An operation that leaves the queue, P, the opening of slot P and the session state, and E or raises it. -/
theorem Plans.of_same (h : t.planner.queue = s.planner.queue ∧ t.planner.tagCounter = s.planner.tagCounter ∧
    t.ring.p = s.ring.p ∧ s.ring.e ≤ t.ring.e ∧ t.engine.slotOpen = s.engine.slotOpen ∧
    t.session.state = s.session.state) : Plans ok s t := by
  obtain ⟨hq, htag, hp, he, hopen, hsession⟩ := h
  refine .of_cut (fun _ => hq ▸ .refl _) htag (le_of_eq ?_) he hsession
  rw [State.lowestPlaceable, State.lowestPlaceable, hp, hopen]

/-- An operation that empties the queue (R76). -/
theorem Plans.of_empty (h : t.planner.queue = [] ∧ t.planner.tagCounter = 0) : Plans ok s t where
  law _ := by
    have hlaw : QueueLaw [] := ⟨Nat.zero_le _, ⟨.nil, by simp⟩, by simp, by simp, by simp⟩
    exact (plannerLaw_iff _).mpr ⟨h.1 ▸ hlaw, by omega⟩
  region _ _ _ := (regionLaw_iff t).mpr ⟨by simp [h.1], fun _ => h.1⟩

/-- An operation outside PRESENT, where the queue is empty, that leaves the queue. -/
theorem Plans.of_away (haway : ok → s.session.state ≠ .present) (hq : t.planner.queue = s.planner.queue)
    (htag : t.planner.tagCounter = s.planner.tagCounter ∨ t.planner.tagCounter = 0) : Plans ok s t where
  law h := by
    obtain ⟨hlaw, ht⟩ := (plannerLaw_iff _).mp h
    exact (plannerLaw_iff _).mpr ⟨hq ▸ hlaw, by omega⟩
  region hok _ hr := by
    have hnil : t.planner.queue = [] := hq.trans (hr.2 (haway hok))
    exact (regionLaw_iff t).mpr ⟨by simp [hnil], fun _ => hnil⟩

/-- What is left of an entry behind play is a part of it. -/
theorem part_of_behind {low : Nat} {o x : Order} (h : x ∈ o.behind low) : o.Part x ∧ low ≤ x.first := by
  unfold Order.behind at h
  split at h
  · cases h
  · cases h
    refine ⟨⟨le_max_left _ _, ?_, fun _ => ?_, fun i hi => ⟨i, hi, rfl⟩⟩, le_max_right _ _⟩
    · dsimp only; omega
    · dsimp only; omega

/-- The trim for play keeps the queue in a repair region that begins at `low` or below (R73). -/
theorem Plans.of_trim {low : Nat}
    (hq : Apart s.planner.queue → t.planner.queue = s.planner.queue.filterMap (Order.behind low))
    (htag : t.planner.tagCounter = s.planner.tagCounter) (hlow : t.lowestPlaceable ≤ low) (he : s.ring.e ≤ t.ring.e)
    (hsession : t.session.state = s.session.state) : Plans ok s t := by
  have hcut : Apart s.planner.queue → Cut s.planner.queue t.planner.queue := fun h => by
    rw [hq h]; exact cut_filterMap fun o _ x hx => (part_of_behind hx).1
  refine ⟨fun h => ?_, fun _ h hr => ?_⟩
  · obtain ⟨hlaw, ht⟩ := (plannerLaw_iff _).mp h
    exact (plannerLaw_iff _).mpr ⟨(hcut hlaw.apart).law hlaw, htag ▸ ht⟩
  · obtain ⟨hin, haway⟩ := (regionLaw_iff s).mp hr
    have heq := hq (apart_of_law h)
    refine (regionLaw_iff t).mpr ⟨fun x hx => ?_, fun hs => by rw [heq, haway (hsession ▸ hs)]; rfl⟩
    rw [heq] at hx
    obtain ⟨o, ho, hox⟩ := List.mem_filterMap.mp hx
    obtain ⟨hpart, hlo⟩ := part_of_behind hox
    exact ⟨hlow.trans hlo, hpart.last.trans ((hin o ho).2.trans he)⟩

/-! ### The scan and the end of an event -/

theorem plans_scan (s : State) : Plans ok s (scan s) where
  law h := by
    obtain ⟨hq, ht⟩ := (plannerLaw_iff _).mp h
    exact (plannerLaw_iff _).mpr ⟨(fills_scan hq).law, by rw [scan_eq]; exact ht⟩
  region _ h hr := by
    have hf := fills_scan ((plannerLaw_iff _).mp h).1
    obtain ⟨hin, haway⟩ := (regionLaw_iff s).mp hr
    have hlow : (scan s).lowestPlaceable = s.lowestPlaceable := by simp [State.lowestPlaceable]
    have hplace : ∀ a, coveredBy (scan s).planner.queue a → s.lowestPlaceable ≤ a ∧ a < s.ring.e := fun a ha => by
      rcases hf.grows.covered_cases ha with ⟨o, ho, h1, h2⟩ | ⟨-, h1, h2, -⟩
      · have := hin o ho; omega
      · exact ⟨h1, h2⟩
    refine (regionLaw_iff _).mpr ⟨fun g hg => ?_, fun hs => ?_⟩
    · have hcount := hf.law.apart.2 g hg
      have hlo := hplace g.first ⟨g, hg, le_refl _, by omega⟩
      have hhi := hplace (g.first + g.count - 1) ⟨g, hg, by omega, by omega⟩
      rw [hlow, (scan_frame s).1]
      omega
    · have hs' : s.session.state ≠ .present := by simpa using hs
      rw [scan, if_neg fun hn => hs' hn.2]
      exact haway hs'

theorem plans_scanIfDue (s : State) : Plans ok s (scanIfDue s) := by
  unfold scanIfDue
  split
  · exact (plans_scan s).trans (.of_same (by simp))
  · exact .refl s

/-- The end of an event keeps the queue's law and place (R59, log 15). -/
theorem plans_finish (b s : State) : Plans ok s (finish b s) := by
  unfold finish
  exact (plans_scanIfDue s).trans (.of_same (by simp))

end

end Sys2Proof.Machine
end

section
/-! PROOF. The operations of the planner, the engine and the start of a session keep the Order Queue's law and place. -/

namespace Sys2Proof.Machine

/-! ### Slot P, the queue and the tag counter after the small operations -/

@[simp] theorem setIntent_slotOpen (i : Intent) (s : State) : (setIntent i s).engine.slotOpen = s.engine.slotOpen := rfl
@[simp] theorem setFrame_slotOpen (f : Nat) (s : State) : (setFrame f s).engine.slotOpen = s.engine.slotOpen := rfl
@[simp] theorem closeSlot_slotOpen (s : State) : (closeSlot s).engine.slotOpen = false := rfl
@[simp] theorem dropWaits_slotOpen (s : State) : (dropWaits s).engine.slotOpen = s.engine.slotOpen := rfl
@[simp] theorem startStall_slotOpen (s : State) : (startStall s).engine.slotOpen = s.engine.slotOpen := rfl

@[simp] theorem judgeAnticipation_slotOpen (s : State) :
    (judgeAnticipation s).engine.slotOpen = s.engine.slotOpen := rfl

@[simp] theorem setPlay_slotOpen (p : Play) (s : State) : (setPlay p s).engine.slotOpen = s.engine.slotOpen := by
  rw [setPlay_engine]

@[simp] theorem restartStall_slotOpen (s : State) : (restartStall s).engine.slotOpen = s.engine.slotOpen := by
  unfold restartStall; split <;> rfl

@[simp] theorem judgeProgram_slotOpen (s : State) : (judgeProgram s).engine.slotOpen = s.engine.slotOpen := by
  unfold judgeProgram; dsimp only; split <;> rfl

@[simp] theorem produceSilence_slotOpen (s : State) : (produceSilence s).engine.slotOpen = s.engine.slotOpen := by
  simp [produceSilence]

@[simp] theorem startConceal_slotOpen (s : State) : (startConceal s).engine.slotOpen = s.engine.slotOpen := by
  simp [startConceal]

@[simp] theorem setQueue_planner (q : List Order) (s : State) :
    (setQueue q s).planner = { s.planner with queue := q } := rfl

@[simp] theorem dueScan_planner (s : State) : (dueScan s).planner = { s.planner with scanDue := true } := rfl

@[simp] theorem setFails_planner (n : Nat) (s : State) : (setFails n s).planner = { s.planner with fails := n } := rfl

@[simp] theorem judgeFails_planner (s : State) : (judgeFails s).planner = { s.planner with
    fails := if s.params.downgradeLimit ≤ s.planner.fails then 0 else s.planner.fails } := by
  unfold judgeFails
  split
  · simp
  · rfl

@[simp] theorem countFailure_planner (s : State) : (countFailure s).planner = { s.planner with
    fails := if s.params.downgradeLimit ≤ s.planner.fails + 1 then 0 else s.planner.fails + 1 } := by
  simp [countFailure]

@[simp] theorem emptyQueue_planner (s : State) :
    (emptyQueue s).planner = { s.planner with queue := [], tagCounter := 0 } := by
  unfold emptyQueue; dsimp only; split <;> rfl

@[simp] theorem flush_planner (a : Nat) (s : State) :
    (flush a s).planner = { s.planner with queue := [], tagCounter := 0, scanDue := true } := by
  simp [flush]

@[simp] theorem giveUpHole_window (a : Nat) (r : Ring) : (r.giveUpHole a).p = r.p ∧ (r.giveUpHole a).e = r.e := by
  unfold Ring.giveUpHole; split <;> exact ⟨rfl, rfl⟩

theorem giveUps_window (l : List Nat) (r : Ring) :
    (l.foldl (fun r a => r.giveUp a) r).p = r.p ∧ (l.foldl (fun r a => r.giveUp a) r).e = r.e := by
  obtain ⟨hp, he, -⟩ := (moves_giveUps (live := False) (fp := none) (t := 0) l r).still id
  exact ⟨hp, he⟩

theorem writeBlock_e (a : Nat) (b : Block) (s : State) : s.ring.e ≤ (writeBlock a b s).ring.e := by
  unfold writeBlock
  split
  · rename_i h
    simp only [judgeLatchHigh_frame]
    unfold Ring.place
    split
    · exact h.trans (Nat.le_succ a)
    · exact le_refl _
  · dsimp only
    unfold Ring.accept
    split <;> exact le_refl _

section
variable {ok : Prop}

/-! ### The planner -/

theorem plans_withdrawOrder (o : Order) (s : State) : Plans ok s (withdrawOrder o s) :=
  .of_cut (fun _ => cut_filter _ _) rfl (le_refl _) (le_refl _) rfl

/-- One entry of the queue replaced by a part of itself. -/
theorem plans_replaceOrder {o x : Order} {s : State} (ho : o ∈ s.planner.queue) (hx : o.Part x) :
    Plans ok s (replaceOrder o.first x s) := by
  refine .of_cut (fun ha => cut_map fun y hy => ?_) rfl (le_refl _) (le_refl _) rfl
  split
  · rename_i hf
    exact ha.eq_of_first hy ho hf ▸ hx
  · exact .refl y

/-- The trim to the bad addresses leaves a part, here QUEUED again or as it was (R66 to R68, R71). -/
theorem part_of_trimTo {s : State} {o x : Order} (h : s.badIn o.first o.count ≠ [])
    (hfirst : x.first = (trimTo (s.badIn o.first o.count) o).first)
    (hcount : x.count = (trimTo (s.badIn o.first o.count) o).count) (hissue : x.issue = none ∨ x.issue = o.issue) :
    o.Part x := by
  obtain ⟨h1, h2, h3, -⟩ := leftBad_some (leftBad_eq_trimTo h)
  refine ⟨hfirst ▸ h1, hfirst ▸ hcount ▸ h2, fun _ => hcount ▸ h3, fun i hi => ?_⟩
  rcases hissue with hn | hs
  · rw [hn] at hi; cases hi
  · exact ⟨i, hs ▸ hi, rfl⟩

theorem plans_judgeArrival {o : Order} {s : State} (ho : o ∈ s.planner.queue) : Plans ok s (judgeArrival o s) := by
  unfold judgeArrival
  dsimp only
  split
  · split
    · exact .of_cut (fun _ => cut_filter _ _) rfl (le_refl _) (le_refl _) rfl
    · exact plans_withdrawOrder o s
  · rename_i hne
    exact plans_replaceOrder ho (part_of_trimTo (by simpa using hne) rfl rfl (.inr rfl))

theorem judgeArrival_rest {l r : List Order} {o : Order} {s : State} (ha : Apart (l ++ o :: r))
    (hq : s.planner.queue = l ++ o :: r) : ∃ l', (judgeArrival o s).planner.queue = l' ++ r := by
  have hremove : (removeOrder o.first s).planner.queue = l ++ r := by
    rw [← ha.removeFirst, ← hq]; rfl
  unfold judgeArrival withdrawOrder
  dsimp only
  split
  · refine ⟨l, ?_⟩
    split <;> simpa using hremove
  · exact ⟨l ++ [trimTo (s.badIn o.first o.count) o], by rw [ha.replaceOrder _ hq]; simp⟩

theorem plans_judgeCovering (a : Nat) (s : State) : Plans ok s (judgeCovering a s) := by
  unfold judgeCovering
  split
  · exact .refl s
  · rename_i o hf
    exact plans_judgeArrival (List.mem_of_find?_eq_some hf)

theorem giveUpOrder_planner (o : Order) (s : State) : (giveUpOrder o s).planner = { s.planner with
    queue := removeFirst o.first s.planner.queue, scanDue := true } := by
  unfold giveUpOrder removeOrder; dsimp only; split <;> simp

theorem plans_giveUpOrder (o : Order) (s : State) : Plans ok s (giveUpOrder o s) := by
  have hwindow := giveUps_window (s.badIn o.first o.count) s.ring
  rw [← giveUpOrder_ring] at hwindow
  refine .of_cut (fun _ => ?_) (by rw [giveUpOrder_planner]) ?_ hwindow.2.ge (by simp)
  · rw [giveUpOrder_planner]; exact cut_filter _ _
  · exact le_of_eq (by simp only [State.lowestPlaceable, hwindow.1, giveUpOrder_frame])

theorem plans_failAttempt {o : Order} {s : State} (ho : o ∈ s.planner.queue) (hbad : s.badIn o.first o.count ≠ []) :
    Plans ok s (failAttempt o s).1 := by
  have hcount : Plans ok s (countFailure s) := .of_same (by simp)
  unfold failAttempt
  dsimp only
  split
  · have ho' : o ∈ (countFailure s).planner.queue := by simpa using ho
    have hpart : o.Part { trimTo (s.badIn o.first o.count) o with issue := none } :=
      part_of_trimTo hbad rfl rfl (.inl rfl)
    exact (hcount.trans (plans_replaceOrder ho' hpart)).trans (.of_same (by simp))
  · exact hcount.trans (plans_giveUpOrder o _)

/-- Operations that each act on one entry of the queue, in turn over the queue. -/
theorem plans_foldl {g : State → Order → State}
    (plans : ∀ (o : Order) (s : State), o ∈ s.planner.queue → Plans ok s (g s o))
    (rest : ∀ (s : State) (l r : List Order) (o : Order), Apart (l ++ o :: r) → s.planner.queue = l ++ o :: r →
      ∃ l', (g s o).planner.queue = l' ++ r)
    (r l : List Order) (s : State) (hq : s.planner.queue = l ++ r) : Plans ok s (r.foldl g s) := by
  induction r generalizing l s with
  | nil => exact .refl s
  | cons o r ih =>
    refine .of_apart fun ha => ?_
    obtain ⟨l', hl'⟩ := rest s l r o (hq ▸ ha) hq
    exact (plans o s (by simp [hq])).trans (ih l' _ hl')

/-! ### The output engine -/

theorem plans_openSlot (s : State) : Plans ok s (openSlot s) := .of_apart fun h => by
  have hstate : openSlot s = _ :=
    (trimmed_trimAll (s.ring.p + 1) (s := { s with engine := { s.engine with slotOpen := true } }) h).state
  rw [hstate]
  exact .of_trim (fun _ => rfl) rfl (le_refl (s.ring.p + 1)) (le_refl _) rfl

theorem plans_openAndPlay (s : State) : Plans ok s (openAndPlay s) :=
  (plans_openSlot s).trans (.of_same (by simp [openAndPlay]))

@[simp] theorem enterStopped_planner (s : State) :
    (enterStopped s).planner = { s.planner with queue := [], tagCounter := 0, scanDue := true } := by
  simp [enterStopped]

theorem plans_enterStopped (s : State) : Plans ok s (enterStopped s) := .of_empty (by simp)

theorem plans_endOfDisc (s : State) : Plans ok s (endOfDisc s) := .of_empty (by simp [endOfDisc])

theorem plans_exitStarved (s : State) : Plans ok s (exitStarved s) :=
  (plans_openSlot s).trans (.of_same (by simp [exitStarved]))

theorem plans_expireHole (s : State) : Plans ok s (expireHole s) := by
  unfold expireHole
  exact Plans.trans (.of_same (by simp)) (plans_exitStarved _)

theorem plans_judgeHoleWait (s : State) : Plans ok s (judgeHoleWait s) := by
  unfold judgeHoleWait
  split
  · exact plans_expireHole s
  · exact .refl s

theorem plans_enterStarved (s : State) : Plans ok s (enterStarved s) := by
  unfold enterStarved
  extract_lets u v w
  have hw : Plans ok s w := by
    simp only [w, v, u]
    split <;> exact .of_same (by simp)
  split
  · exact hw.trans (plans_judgeHoleWait w)
  · exact hw

theorem plans_endPriming (s : State) : Plans ok s (endPriming s) := by
  unfold endPriming
  split
  · exact plans_endOfDisc s
  · exact (plans_openSlot s).trans (.of_same (by simp))

theorem plans_react (s : State) : Plans ok s (react s) := by
  unfold react
  split
  · split
    · exact plans_exitStarved s
    · exact .refl s
  · split
    · exact plans_endPriming s
    · exact .refl s
  · exact .refl s

theorem plans_enterPriming (s : State) : Plans ok s (enterPriming s) := by
  unfold enterPriming
  exact Plans.trans (.of_same (by simp)) (plans_react _)

theorem plans_landJump (s : State) : Plans ok s (landJump s) := by
  unfold landJump
  split
  · exact plans_openAndPlay s
  · exact plans_enterStarved s

/-- P moves to `a`, slot P unopened, and the entries are trimmed behind it (R14, R73). -/
theorem plans_passTo {a : Nat} {r : Ring} {e : Engine} {s : State} (hp : r.p = a) (he : s.ring.e ≤ r.e)
    (hopen : e.slotOpen = false) : Plans ok s (trimAll a { s with ring := r, engine := e }) := .of_apart fun h => by
  rw [(trimmed_trimAll a (s := { s with ring := r, engine := e }) h).state]
  exact .of_trim (low := a) (fun _ => rfl) rfl (by simp [State.lowestPlaceable, hp, hopen]) he rfl

theorem plans_jump (a f : Nat) (s : State) : Plans ok s (jump a f s) := by
  have hwindow := emptySlots_frame (a - s.ring.p) s.ring.p s.ring
  have hpass : Plans ok s (trimAll a (setFrame f (closeSlot { s with ring := s.ring.advance a }))) :=
    plans_passTo rfl hwindow.2.2.1.ge rfl
  unfold jump
  exact (hpass.trans (.of_same (by simp))).trans (plans_landJump _)

theorem plans_seek (a f : Nat) (s : State) : Plans ok s (seek a f s) := by
  unfold seek
  exact Plans.trans (.of_empty (by simp)) (plans_enterPriming _)

theorem plans_playTo (a f : Nat) (s : State) : Plans ok s (playTo a f s) := by
  have hint : Plans ok s (setIntent .play s) := .of_same (by simp)
  unfold playTo
  dsimp only
  split
  · exact hint.trans (plans_jump a f _)
  · exact hint.trans (plans_seek a f _)

theorem plans_releaseSlot (s : State) : Plans ok s (releaseSlot s) := by
  have he : s.ring.release.e = s.ring.e := by unfold Ring.release; split <;> rfl
  unfold releaseSlot
  exact (plans_passTo (e := { s.engine with f := 0, slotOpen := false, anticipate := false }) rfl he.ge rfl).trans
    (.of_same (by simp))

/-! ### The stream intake -/

theorem plans_writeBlock (a : Nat) (b : Block) (s : State) : Plans ok s (writeBlock a b s) :=
  .of_same (by simp [writeBlock_e])

theorem plans_acceptBlock (r : Run) (a : Nat) (b : Block) (s : State) : Plans ok s (acceptBlock r a b s) := by
  unfold acceptBlock
  extract_lets u
  have hu : Plans ok s u := ((plans_writeBlock a b s).trans (.of_same (by simp))).trans (plans_judgeCovering a _)
  refine Plans.trans ?_ (plans_react _)
  split
  · exact hu.trans (.of_same (by simp))
  · exact hu

theorem plans_discardEndingRun (s : State) : Plans ok s (discardEndingRun s) := .of_same (by simp)

theorem plans_seamCheck (a : Nat) (tag : Byte) (b : Block) (s : State) : Plans ok s (seamCheck a tag b s) := by
  unfold seamCheck
  split
  case' h_3 => exact Plans.trans (.of_same (by simp)) (plans_acceptBlock _ a b _)
  all_goals
    dsimp only
    split
    · exact plans_acceptBlock _ a b s
    · exact .of_same (by simp)

theorem plans_audioBegins (a : Nat) (tag : Byte) (b : Block) (s : State) : Plans ok s (audioBegins a tag b s) := by
  unfold audioBegins
  split
  · exact plans_discardEndingRun s
  · exact plans_seamCheck a tag b s

theorem plans_audioContinues (r : Run) (a : Nat) (b : Block) (s : State) : Plans ok s (audioContinues r a b s) := by
  unfold audioContinues
  split
  · exact .of_same (by simp)
  · exact plans_acceptBlock r a b s

theorem plans_audioFrame (h : Header) (b : Block) (s : State) : Plans ok s (audioFrame h b s) := by
  unfold audioFrame
  split
  · split
    · exact plans_audioBegins _ _ b s
    · exact plans_audioContinues _ _ b s
  · exact plans_audioBegins _ _ b s
  · exact plans_audioContinues _ _ b s
  · exact .of_same (by simp)
  · exact plans_discardEndingRun s
  · exact .of_same (by simp)

/-! ### The start of a session -/

theorem plans_startWarmPlay (s : State) : Plans ok s (startWarmPlay s) := by
  have hint : Plans ok s (setIntent .play s) := .of_same (by simp)
  unfold startWarmPlay
  dsimp only
  split
  · exact hint.trans (plans_endOfDisc _)
  split
  · exact (hint.trans (plans_openAndPlay _)).trans (.of_same (by simp))
  · exact (hint.trans (.of_same (by simp))).trans (plans_enterStarved _)

theorem plans_startPaused (s : State) : Plans ok s (startPaused s) := .of_same (by simp [startPaused])

theorem plans_startMatched (e : ResumeEntry) (s : State) : Plans ok s (startMatched e s) := by
  unfold startMatched
  dsimp only
  split
  · have hu : Plans ok s (judgeProgram (setFrame e.frame (startConceal s))) := .of_same (by simp)
    split
    · exact hu.trans (plans_startWarmPlay _)
    · exact hu.trans (plans_startPaused _)
  · have hu : Plans ok s (setFrame e.frame (startConceal (flush e.address s))) := .of_empty (by simp)
    split
    · exact (hu.trans (.of_same (by simp))).trans (plans_enterPriming _)
    · exact hu.trans (plans_startPaused _)

theorem plans_startUnmatched (first : Nat) (s : State) : Plans ok s (startUnmatched first s) := by
  have hu : Plans ok s (setFrame 0 (startConceal (flush first s))) := .of_empty (by simp)
  unfold startUnmatched
  dsimp only
  split
  · exact (hu.trans (.of_same (by simp))).trans (plans_enterPriming _)
  · exact (hu.trans (.of_same (by simp))).trans (plans_enterStopped _)

theorem plans_enterPresent (d : Directory) (fp : BitVec 32) {s : State} (hs : s.session.state = .identifying) :
    Plans ok s (enterPresent d fp s) := by
  have hpresent : Plans ok s (presentWith d fp s) := .of_away (fun _ => by simp [hs]) rfl (.inl rfl)
  have hv : Plans ok s (setFails 0 (clearCounters (presentWith d fp s))) := hpresent.trans (.of_same (by simp))
  have hstart : Plans ok s (startOn d fp s) := by
    unfold startOn
    dsimp only
    split
    · exact (hv.trans (.of_same (by simp))).trans (plans_startMatched _ _)
    · exact (hv.trans (.of_same (by simp))).trans (plans_startUnmatched _ _)
  rw [enterPresent_eq]
  exact hstart.trans (.of_same (by simp))

theorem plans_takeDirectory (payload : List Byte) (s : State) : Plans ok s (takeDirectory payload s) := by
  unfold takeDirectory
  split
  · rename_i hs
    split
    · exact .of_same (by simp)
    · exact plans_enterPresent _ _ hs
  · exact .refl s

theorem plans_goodHeaderFrame (h : Header) (payload : List Byte) (s : State) :
    Plans ok s (goodHeaderFrame h payload s) := by
  unfold goodHeaderFrame
  split
  · split
    · exact plans_takeDirectory payload s
    · exact plans_discardEndingRun s
  split
  · exact .of_same (by simp)
  split
  · exact .of_same (by simp)
  · exact plans_audioFrame h _ s

theorem plans_cutFrame (ready : Bool) (byte0 : Byte) (s : State) : Plans ok s (cutFrame ready byte0 s) := by
  unfold cutFrame
  exact .of_same (by simp)

theorem plans_receiveFrame (ready : Bool) (bytes : List Byte) (s : State) : Plans ok s (receiveFrame ready bytes s) := by
  unfold receiveFrame
  extract_lets u low h
  have hu : Plans ok s u := by
    simp only [u]
    obtain heq | ⟨byte0, _, _, _, heq⟩ := takeMarked_cases ready bytes s <;> rw [heq]
    · exact .refl s
    · exact plans_cutFrame ready byte0 s
  refine hu.trans ?_
  split
  · exact .of_same (by simp)
  split
  · exact .of_same (by simp)
  split
  · exact .of_same (by simp)
  · have hrx : Plans ok u (setRx rxHunt u) := .of_same (by simp)
    split
    · exact hrx.trans (plans_discardEndingRun _)
    · exact hrx.trans (plans_goodHeaderFrame h _ _)

end

end Sys2Proof.Machine
end

section
/-! PROOF. The leave, frames of play and CONFIGURE keep the Order Queue's law and place. -/

namespace Sys2Proof.Machine

section
variable {ok : Prop}

/-! ### Loads, releases and the leave -/

theorem plans_loadDisc (s : State) : Plans ok s (loadDisc s) := by
  unfold loadDisc
  split <;> rename_i hs
  · exact .of_away (fun _ => by simp [hs]) rfl (.inl rfl)
  · exact .of_away (fun _ => by simp [hs]) rfl (.inl rfl)
  · exact .refl s
  · exact .of_same (by simp)

theorem plans_lookAtTray (s : State) : Plans ok s (lookAtTray s) := by
  unfold lookAtTray
  split
  · exact plans_loadDisc s
  · exact .refl s

/-- The entry completes with the tag counter at 0 (R167). -/
theorem completeEntry_planner (target : LowMode) (s : State) :
    (completeEntry target s).planner = { s.planner with tagCounter := 0 } := rfl

theorem leaveEnd_planner (s : State) : (leaveEnd s).planner.queue = s.planner.queue ∧
    ((leaveEnd s).planner.tagCounter = s.planner.tagCounter ∨ (leaveEnd s).planner.tagCounter = 0) ∧
    (leaveEnd s).planner.scanDue = s.planner.scanDue := by
  unfold leaveEnd endSession
  dsimp only
  split
  · simp [completeEntry_planner]
  · split <;> simp

/-- A leave ends outside PRESENT (R143). -/
theorem plans_leaveEnd {s : State} (hs : ok → s.session.state ≠ .present) : Plans ok s (leaveEnd s) :=
  .of_away hs (leaveEnd_planner s).1 (leaveEnd_planner s).2.1

theorem leavePlay_planner (s : State) : (leavePlay s).planner.queue = s.planner.queue ∧
    ((leavePlay s).planner.tagCounter = s.planner.tagCounter ∨ (leavePlay s).planner.tagCounter = 0) := by
  unfold leavePlay
  split
  · simp
  · simp
  · exact ⟨(leaveEnd_planner s).1, (leaveEnd_planner s).2.1⟩

theorem beginLeave_planner (s : State) :
    (beginLeave s).planner.queue = [] ∧ (beginLeave s).planner.tagCounter = 0 := by
  obtain ⟨hq, htag⟩ := leavePlay_planner { (s |> setSession .leaving |> emptyQueue |> endRun) with
    rates := { (s |> setSession .leaving |> emptyQueue |> endRun).rates with cap := none } }
  exact ⟨hq.trans (by simp), htag.elim (fun h => h.trans (by simp)) id⟩

theorem plans_beginLeave (s : State) : Plans ok s (beginLeave s) := .of_empty (beginLeave_planner s)

theorem plans_releaseDisc (s : State) : Plans ok s (releaseDisc s) := by
  unfold releaseDisc
  split <;> rename_i hs
  · exact .refl s
  · exact .of_away (fun _ => by simp [hs]) rfl (.inl rfl)
  · exact plans_beginLeave s
  · exact .of_same (by simp)

theorem plans_enterLow (target : LowMode) (s : State) : Plans ok s (enterLow target s) := by
  unfold enterLow
  extract_lets r w u
  refine Plans.trans ?_ (plans_finish s _)
  split <;> rename_i hs
  · exact .of_empty (beginLeave_planner u)
  · exact .of_same (by simp [u, r])
  · exact .of_away (fun _ => by simp [hs]) rfl (.inr rfl)
  · exact .of_away (fun _ => by simp [hs]) rfl (.inr rfl)

/-! ### Frames of play -/

theorem plans_silentTick (s : State) : Plans ok s (silentTick s) := by
  have hsilent : Plans ok s (produceSilence s) := .of_same (by simp)
  unfold silentTick
  dsimp only
  split
  · exact (hsilent.trans (.of_same (by simp))).trans (plans_judgeHoleWait _)
  · exact hsilent

/-- Where a leave ramp runs the session is not PRESENT. -/
def State.LeavesAway (s : State) : Prop := s.engine.play = .rampDown .leave → s.session.state ≠ .present

theorem leavesAway_of_modeLaw {s : State} (h : s.ModeLaw) : s.LeavesAway := fun hp hs => by
  have hfit := h.2.1
  rw [hs, hp] at hfit
  cases hfit

theorem plans_rampEnd {dest : Dest} {s : State} (hs : ok → s.LeavesAway) (hp : s.engine.play = .rampDown dest) :
    Plans ok s (rampEnd dest s) := by
  cases dest
  · exact .of_same (by simp [rampEnd])
  · exact plans_enterStopped s
  · exact plans_leaveEnd fun hok => hs hok hp

theorem plans_afterFrame {s : State} (hs : ok → s.LeavesAway) : Plans ok s (afterFrame s) := by
  unfold afterFrame
  split
  · rename_i hp
    split
    · exact plans_rampEnd hs hp
    · exact .refl s
  · exact .refl s

theorem plans_boundaryEndOfDisc {s : State} (hs : ok → s.LeavesAway) : Plans ok s (boundaryEndOfDisc s) := by
  unfold boundaryEndOfDisc
  split
  · rename_i hp
    exact Plans.trans (.of_same (by simp)) (plans_leaveEnd fun hok => by simpa using hs hok hp)
  · exact plans_endOfDisc s

theorem plans_boundaryNext {s : State} (hs : ok → s.LeavesAway) : Plans ok s (boundaryNext s) := by
  unfold boundaryNext
  split
  · rename_i hp
    split
    · exact plans_rampEnd hs hp
    split
    · exact plans_openSlot s
    · refine Plans.trans (.of_same (by simp)) (plans_rampEnd (fun hok => ?_) (by simpa using hp))
      simpa [State.LeavesAway] using hs hok
  · split
    · exact plans_openSlot s
    · exact plans_enterStarved s

theorem plans_blockBoundary {s : State} (hs : ok → s.LeavesAway) : Plans ok s (blockBoundary s) := by
  unfold blockBoundary
  dsimp only
  split
  · exact (plans_releaseSlot s).trans (plans_boundaryEndOfDisc fun hok => by simpa [State.LeavesAway] using hs hok)
  · refine ((plans_releaseSlot s).trans (.of_same (by simp))).trans (plans_boundaryNext fun hok => ?_)
    simpa [State.LeavesAway] using hs hok

theorem plans_playFrame {s : State} (hs : ok → s.LeavesAway) : Plans ok s (playFrame s) := by
  unfold playFrame
  extract_lets u v
  have hv : Plans ok s v := by simp only [v, u]; exact .of_same (by simp)
  have hleaves : ok → v.LeavesAway := fun hok => by simpa [State.LeavesAway, v, u] using hs hok
  split
  · exact hv.trans (plans_blockBoundary hleaves)
  · exact hv.trans (plans_afterFrame hleaves)

/-! ### CONFIGURE -/

theorem plans_applyThreshold (s : State) : Plans ok s (applyThreshold s) := by
  unfold applyThreshold
  have hdue : ∀ u, Plans ok u (dueScan u) := fun u => .of_same (by simp)
  refine Plans.trans (plans_foldl (fun o u ho => ?_) (fun u l r o ha hq => ?_) _ [] s rfl) (hdue _)
  · split
    · exact .refl u
    · exact plans_judgeArrival ho
  · split
    · exact ⟨l ++ [o], by simp [hq]⟩
    · exact judgeArrival_rest ha hq

theorem plans_applyRetryLimit (old : Nat) (s : State) : Plans ok s (applyRetryLimit old s) := by
  unfold applyRetryLimit
  dsimp only
  split
  · exact .refl s
  refine Plans.trans (plans_foldl (fun o u ho => ?_) (fun u l r o ha hq => ?_) _ [] s rfl) (plans_react _)
  · split
    · exact plans_replaceOrder ho ⟨le_refl _, le_refl _, id, fun i hi => ⟨i, hi, rfl⟩⟩
    split
    · exact plans_giveUpOrder o u
    · exact .refl u
  · split
    · exact ⟨l ++ [{ o with attempts := min o.attempts s.params.retryLimit }], by rw [ha.replaceOrder _ hq]; simp⟩
    split
    · exact ⟨l, by rw [giveUpOrder_planner, hq]; exact ha.removeFirst⟩
    · exact ⟨l ++ [o], by simp [hq]⟩

/-- A parameter stored, with an effect that keeps the queue's law and place. -/
theorem plans_setParams (p : Params) {effect : State → State} (plans : ∀ u, Plans ok u (effect u)) (s : State) :
    Plans ok s (effect (setParams p s)) :=
  Plans.trans (.of_same (by simp [setParams])) (plans _)

theorem applyAlert_same (s : State) : (applyAlert s).planner = s.planner ∧ (applyAlert s).ring = s.ring ∧
    (applyAlert s).engine = s.engine ∧ (applyAlert s).session = s.session := by
  unfold applyAlert; dsimp only; split <;> simp

/-- Effects on the attention lines alone. -/
theorem plans_applyAttention (old : Params) (s : State) : Plans ok s (applySMask old s) ∧ Plans ok s (applyDMask old s) ∧
    Plans ok s (applySMode old s) ∧ Plans ok s (applyDMode old s) := by
  unfold applySMask applyDMask applySMode applyDMode
  refine ⟨?_, ?_, ?_, ?_⟩ <;> split <;> exact .of_same (by simp)

theorem plans_applyParam (i v : Nat) (s : State) : Plans ok s (applyParam i v s) := by
  unfold applyParam
  dsimp only
  split
  case h_1 => exact plans_setParams _ plans_react s
  case h_6 => exact plans_setParams _ plans_judgeHoleWait s
  case h_7 => exact plans_setParams _ plans_applyThreshold s
  case h_10 => exact plans_setParams _ (plans_applyRetryLimit _) s
  case h_12 => exact plans_setParams _ (fun _ => .of_same (by simp)) s
  case h_13 => exact plans_setParams _ (effect := applyInterval) (fun _ => .of_same (by simp [applyInterval])) s
  case h_14 => exact plans_setParams _ (fun _ => .of_same (by simp)) s
  case h_15 => exact plans_setParams _ (effect := applyMargin) (fun _ => .of_same (by simp [applyMargin])) s
  case h_17 => exact plans_setParams _ (effect := applyAlert) (fun _ => .of_same (by simp [applyAlert_same])) s
  case h_20 => exact plans_setParams _ (fun u => (plans_applyAttention s.params u).1) s
  case h_21 => exact plans_setParams _ (fun u => (plans_applyAttention s.params u).2.1) s
  case h_22 => exact plans_setParams _ (fun u => (plans_applyAttention s.params u).2.2.1) s
  case h_23 => exact plans_setParams _ (fun u => (plans_applyAttention s.params u).2.2.2) s
  case h_24 => exact .refl s
  all_goals exact plans_setParams _ .refl s

theorem plans_applyPairs (pairs : List (Nat × Nat)) (s : State) : Plans ok s (applyPairs pairs s).1 := by
  induction pairs generalizing s with
  | nil => exact .refl s
  | cons x rest ih => exact (plans_applyParam x.1 _ s).trans (ih _)

end

end Sys2Proof.Machine
end

section
/-! PROOF. Every command keeps the Order Queue's law and place, and leaves no scan over. -/

namespace Sys2Proof.Machine

/-- What a command keeps of the Order Queue: its law, its place in a part of lawful mode, and no scan left over (R59). -/
structure Planned (s t : State) : Prop where
  plans : Plans s.ModeLaw s t
  due : s.planner.scanDue = false → t.planner.scanDue = false

section
variable {s t u : State}

theorem Planned.refl (s : State) : Planned s s := ⟨.refl s, id⟩

/-- A command that leaves all that the queue's laws speak of. -/
theorem Planned.of_same (h : t.planner.queue = s.planner.queue ∧ t.planner.tagCounter = s.planner.tagCounter ∧
    t.ring.p = s.ring.p ∧ t.ring.e = s.ring.e ∧ t.engine.slotOpen = s.engine.slotOpen ∧
    t.session.state = s.session.state ∧ t.planner.scanDue = s.planner.scanDue) : Planned s t := by
  obtain ⟨hq, htag, hp, he, hopen, hsession, hdue⟩ := h
  exact ⟨.of_same ⟨hq, htag, hp, he.ge, hopen, hsession⟩, fun h => hdue.trans h⟩

/-- A reset of the planner. -/
theorem Planned.of_reset (h : t.planner = plannerReset) : Planned s t :=
  ⟨.of_empty (by rw [h]; exact ⟨rfl, rfl⟩), fun _ => by rw [h]; rfl⟩

/-- The end of an event runs the scan that is due (R59). -/
theorem Planned.finished (h : Plans s.ModeLaw s t) (b : State) : Planned s (finish b t) :=
  ⟨h.trans (plans_finish b t), fun _ => by rw [finish_planner]⟩

theorem Planned.trans (h : Planned s t) (hmode : s.ModeLaw → t.ModeLaw) (h' : Planned t u) : Planned s u :=
  ⟨h.plans.trans (h'.plans.mono hmode), fun hd => h'.due (h.due hd)⟩

/-- A command followed by one that leaves all that the queue's laws speak of, such as its answer. -/
theorem Planned.then_same (h : Planned s t) (h' : u.planner.queue = t.planner.queue ∧
    u.planner.tagCounter = t.planner.tagCounter ∧ u.ring.p = t.ring.p ∧ u.ring.e = t.ring.e ∧
    u.engine.slotOpen = t.engine.slotOpen ∧ u.session.state = t.session.state ∧
    u.planner.scanDue = t.planner.scanDue) : Planned s u :=
  let h'' := Planned.of_same h'
  ⟨h.plans.trans ⟨h''.plans.law, fun _ hl hr => by
    obtain ⟨hq, -, hp, he, hopen, hsession, -⟩ := h'
    simpa only [regionLaw_iff, State.lowestPlaceable, hq, hp, he, hopen, hsession] using hr⟩,
    fun hd => h''.due (h.due hd)⟩

theorem Planned.respond (h : Planned s t) (port : Port) (code : RespCode) (data : List Byte) :
    Planned s (respond port code data t) := h.then_same (by simp)

/-- The answer at the end of an event. -/
theorem Planned.answered (h : Plans s.ModeLaw s t) (b : State) (port : Port) (data : List Byte) :
    Planned s (respondOk port data (finish b t)) := (Planned.finished h b).respond ..

end

/-! ### Transactions on the ports -/

theorem planned_transaction (port : Port) (n : Nat) {act : State → State} (planned : ∀ u, Planned u (act u)) (s : State) :
    Planned s (transaction port n act s) := by
  have hsent : Planned s (sendStatus port (n - 1) s) := .of_same (by simp)
  unfold transaction
  split
  · exact .refl s
  split
  · exact hsent
  split
  · unfold lowPowerBus
    cases port
    · exact .of_same (by simp)
    · exact hsent
  · exact hsent.trans (Works.of_same (by simp)).keeps.mode (planned _)

theorem planned_command (port : Port) (code : Byte) (fr : Frame) (fits early : Bool) {act : State → State}
    (planned : ∀ u, Planned u (act u)) (s : State) : Planned s (command port code fr fits early act s) := by
  refine planned_transaction port _ (fun u => ?_) s
  split
  · exact .of_same (by simp)
  · exact planned u

theorem planned_withDisc {port : Port} {act : State → State} (planned : ∀ u, Planned u (act u)) (s : State) :
    Planned s (withDisc port act s) := by
  unfold withDisc
  split
  · exact planned s
  · exact .of_same (by simp)

/-! ### Commands of the supply, the lines and the timers -/

@[simp] theorem startClear_planner (msz : BitVec 2) (s : State) : (startClear msz s).planner = s.planner := by
  simp [startClear]

theorem planned_reset_startClear (msz : BitVec 2) {s t : State} (h : t.planner = plannerReset) :
    Planned s (startClear msz t) := .of_reset (by simp [h])

theorem plans_wakeEnd {ok : Prop} (source : WakeSource) (s : State) : Plans ok s (wakeEnd source s) := by
  unfold wakeEnd
  exact Plans.trans (.of_same (by simp)) (plans_lookAtTray _)

theorem plans_trayActs {ok : Prop} (old : Option Tray) (s : State) : Plans ok s (trayActs old s) := by
  unfold trayActs
  split
  · exact .refl s
  · exact plans_releaseDisc s
  · exact plans_loadDisc s
  · exact .of_same (by simp)
  · exact .of_same (by simp)
  · exact .refl s

/-- A ring clear that begins in SLEEPING finds the queue empty (R76). -/
theorem planned_startClear_asleep (msz : BitVec 2) {s : State} (hm : s.power.mode = .sleeping) :
    Planned s (startClear msz s) :=
  ⟨.of_away (fun hmode => by simp [hmode.1 (by simp [hm])]) (by simp) (.inl (by simp)), fun hd => by simpa using hd⟩

theorem plans_closeAttempt {ok : Prop} {o : Order} (outcome : DoneOutcome) {s : State} (ho : o ∈ s.planner.queue) :
    Plans ok s (closeAttempt o outcome s).1 := by
  unfold closeAttempt
  dsimp only
  split
  · exact .of_cut (fun _ => cut_filter _ _) rfl (le_refl _) (le_refl _) rfl
  rename_i hne
  have hbad : s.badIn o.first o.count ≠ [] := by simpa using hne
  split
  · have hpart : o.Part { trimTo (s.badIn o.first o.count) o with attempts := o.attempts - 1, issue := none } :=
      part_of_trimTo hbad rfl rfl (.inl rfl)
    exact (plans_replaceOrder ho hpart).trans (.of_same (by simp))
  · exact (plans_failAttempt ho hbad).trans (plans_react _)

theorem plans_timeoutOrder {ok : Prop} {o : Order} {s : State} (ho : o ∈ s.planner.queue) :
    Plans ok s (timeoutOrder o s) := by
  unfold timeoutOrder
  split
  · exact plans_withdrawOrder o s
  · rename_i hne
    exact (plans_failAttempt ho (by simpa using hne)).trans (plans_react _)

/-! ### Commands of the D-port -/

/-- The tag that TAKE_ORDER gives next is in 1..255 (R65). -/
theorem nextTag_range (n : Nat) : 1 ≤ nextTag n ∧ nextTag n ≤ 255 := by
  unfold nextTag; split <;> omega

/-- The lowest entry issued, no other one being it, keeps the queue's law (R63). -/
theorem QueueLaw.issue {o o' : Order} {r : List Order} (h : QueueLaw (o :: r)) (hfirst : o'.first = o.first)
    (hcount : o'.count = o.count) (htag : ∀ i ∈ o'.issue, 1 ≤ i.tag ∧ i.tag ≤ 255)
    (hnone : (o :: r).countP Order.isIssued = 0) : QueueLaw (o' :: r) where
  size := h.size
  apart := by
    obtain ⟨hpair, hpos⟩ := h.apart
    obtain ⟨hrest, hpair⟩ := List.pairwise_cons.mp hpair
    refine ⟨List.pairwise_cons.mpr ⟨by rwa [hfirst, hcount], hpair⟩, List.forall_mem_cons.mpr ⟨?_, ?_⟩⟩
    · rw [hcount]; exact hpos o (by simp)
    · exact fun x hx => hpos x (by simp [hx])
  small := List.forall_mem_cons.mpr ⟨hcount ▸ h.small o (by simp), fun x hx => h.small x (by simp [hx])⟩
  tags := List.forall_mem_cons.mpr ⟨htag, fun x hx => h.tags x (by simp [hx])⟩
  issued := by
    rw [List.countP_cons] at hnone ⊢
    split <;> omega

theorem plans_issueOrder {ok : Prop} {o : Order} {r : List Order} {s : State} (hq : s.planner.queue = o :: r)
    (hnone : (o :: r).countP Order.isIssued = 0) : Plans ok s (issueOrder o s) := by
  refine .of_apart fun ha => ?_
  have hqueue : (issueOrder o s).planner.queue =
      { o with attempts := o.attempts + 1, issue := some (issueFor s o) } :: r := by
    have ha' : Apart ([] ++ o :: r) := hq ▸ ha
    unfold issueOrder
    dsimp only
    rw [ha'.replaceOrder _ (by exact hq)]
    simp
  have hrest : (issueOrder o s).planner.tagCounter = nextTag s.planner.tagCounter ∧ (issueOrder o s).ring = s.ring ∧
      (issueOrder o s).engine = s.engine ∧ (issueOrder o s).session = s.session := by
    unfold issueOrder replaceOrder issueFor
    simp
  obtain ⟨htag, hring, hengine, hsession⟩ := hrest
  have htags := nextTag_range s.planner.tagCounter
  refine ⟨fun h => (plannerLaw_iff _).mpr ⟨?_, by omega⟩, fun _ _ hr => ?_⟩
  · have hlaw := ((plannerLaw_iff _).mp h).1
    rw [hq] at hlaw
    rw [hqueue]
    exact hlaw.issue rfl rfl (by rintro i ⟨⟩; exact htags) hnone
  · rw [regionLaw_iff, hq] at hr
    rw [regionLaw_iff, hqueue, hring, hsession, State.lowestPlaceable, hring, hengine]
    obtain ⟨hin, haway⟩ := hr
    exact ⟨List.forall_mem_cons.mpr ⟨hin o (by simp), fun x hx => hin x (by simp [hx])⟩,
      fun hs => by simpa using haway hs⟩

theorem planned_takeOrderAct (s : State) : Planned s (takeOrderAct s) := by
  unfold takeOrderAct
  split
  · rename_i first count attempts i hf
    have hpart : Order.Part ⟨first, count, attempts, some i⟩ ⟨first, count, attempts, some (repeatIssue s i)⟩ :=
      ⟨le_refl _, le_refl _, id, by rintro _ ⟨⟩; exact ⟨i, rfl, rfl⟩⟩
    have hplans := plans_replaceOrder (ok := s.ModeLaw) (List.mem_of_find?_eq_some hf) hpart
    exact Planned.respond ⟨hplans, id⟩ ..
  · rename_i hf
    have hnone : s.planner.queue.countP Order.isIssued = 0 := by
      rw [List.countP_eq_zero]
      intro o ho hi
      obtain ⟨x, hx⟩ := Option.ne_none_iff_exists'.mp fun hn => List.find?_eq_none.mp hn o ho hi
      have hix := List.find?_some hx
      obtain ⟨first, count, attempts, issue⟩ := x
      cases issue with
      | none => cases hix
      | some i => exact hf _ _ _ _ hx
    split
    · exact .of_same (by simp)
    · rename_i o r hq
      refine Planned.respond ⟨plans_issueOrder hq (hq ▸ hnone), fun hd => ?_⟩ ..
      unfold issueOrder replaceOrder
      simpa using hd

theorem planned_orderDoneAct (tag : Byte) (outcome : DoneOutcome) (s : State) :
    Planned s (orderDoneAct tag outcome s) := by
  unfold orderDoneAct
  split
  · exact .of_same (by simp)
  · rename_i o hf
    split
    · exact .answered (plans_closeAttempt outcome (List.mem_of_find?_eq_some hf)) s _ _
    · exact .of_same (by simp)

theorem planned_orderTimeout (s : State) : ∃ t, execOrderTimeout s = .next t ∧ Planned s t := by
  unfold execOrderTimeout
  split
  · rename_i first count attempts i hf
    refine ⟨_, rfl, .finished (Plans.trans (.of_same (by simp)) (plans_timeoutOrder ?_)) s⟩
    simpa using List.mem_of_find?_eq_some hf
  · exact ⟨s, rfl, .refl s⟩

theorem planned_rateOfferAct (b : Byte) (s : State) : Planned s (rateOfferAct b s) := by
  unfold rateOfferAct
  split <;> exact .of_same (by simp)

/-- The ISSUED entry QUEUED again is what it was but for its attempts. -/
theorem plans_refundIssued {ok : Prop} (s : State) : Plans ok s (refundIssued s) := by
  refine .of_cut (fun _ => cut_map fun o _ => ?_) rfl (le_refl _) (le_refl _) rfl
  split
  · exact ⟨le_refl _, le_refl _, id, fun i hi => nomatch hi⟩
  · exact .refl o

theorem scanIfDue_scanDue (s : State) : (scanIfDue s).planner.scanDue = false := by
  cases hd : s.planner.scanDue with
  | true => rw [scanIfDue_due hd]
  | false => rw [scanIfDue_quiet hd, hd]

theorem planned_driveRestartAct (s : State) : Planned s (driveRestartAct s) := by
  have hrun : Plans s.ModeLaw s (endRun s) := .of_same (by simp)
  have hrefund := hrun.trans (plans_refundIssued (endRun s))
  unfold driveRestartAct
  extract_lets u
  have hu : Planned s u := ⟨(hrefund.trans (.of_same (by simp))).trans (plans_scanIfDue _), fun _ => scanIfDue_scanDue _⟩
  split
  · exact hu.then_same (by simp)
  · exact hu.respond ..

/-! ### Commands of play -/

theorem planned_playCommand (a f : Nat) (clamped : Bool) (s : State) : Planned s (playCommand a f clamped s) :=
  (Planned.finished (plans_playTo a f s) s).respond ..

theorem planned_playProgramAct (params : List Byte) (s : State) : Planned s (playProgramAct params s) := by
  unfold playProgramAct
  split
  · exact .of_same (by simp)
  · exact planned_playCommand ..

theorem planned_pauseAct (s : State) : Planned s (pauseAct s) := by
  unfold pauseAct
  dsimp only
  split
  · exact .answered (.of_same (by simp)) s _ _
  · exact .answered (.of_same (by simp)) s _ _
  · exact .answered (.of_same (by simp)) s _ _
  · exact .answered (.of_same (by simp)) s _ _
  · exact .answered (.of_same (by simp)) s _ _
  · exact .of_same (by simp)

theorem plans_resumePaused {ok : Prop} (s : State) : Plans ok s (resumePaused s) := by
  have hint : Plans ok s (setIntent .play s) := .of_same (by simp)
  unfold resumePaused
  dsimp only
  split
  · exact hint.trans (plans_endOfDisc _)
  split
  · exact (hint.trans (plans_openAndPlay _)).trans (.of_same (by simp))
  · exact (hint.trans (.of_same (by simp))).trans (plans_enterStarved _)

theorem planned_resumeAct (s : State) : Planned s (resumeAct s) := by
  unfold resumeAct
  split
  · exact .answered (plans_resumePaused s) s _ _
  · exact .answered (.of_same (by simp)) s _ _
  · exact .of_same (by simp)

theorem planned_stopAct (s : State) : Planned s (stopAct s) := by
  have hint : Plans s.ModeLaw s (setIntent .stop s) := .of_same (by simp)
  unfold stopAct
  refine .answered (hint.trans ?_) s _ _
  unfold stopPlay
  split
  · exact .of_same (by simp)
  · exact .of_same (by simp)
  · exact plans_enterStopped _
  · exact plans_enterStopped _
  · exact plans_enterStopped _
  · exact .refl _

/-! ### Commands of the ports, the session and the mode -/

theorem planned_configureAct (params : List Byte) (s : State) : Planned s (configureAct params s) := by
  unfold configureAct
  dsimp only
  split
  · exact (Planned.finished (plans_applyPairs _ s) s).respond ..
  · exact .of_same (by simp)

theorem planned_pollBus (port : Port) (clocked : Nat) (s : State) : Planned s (pollBus port clocked s) := by
  unfold pollBus
  split
  · exact .refl s
  · exact .of_same (by simp)

theorem planned_readEventsAct (port : Port) (s : State) : Planned s (readEventsAct port s) := by
  unfold readEventsAct
  cases port <;> exact .of_same (by simp)

theorem planned_readCountersAct (params : List Byte) (s : State) : Planned s (readCountersAct params s) := by
  unfold readCountersAct
  split <;> exact .of_same (by simp)

theorem planned_queryDirectoryAct (params : List Byte) (s : State) : Planned s (queryDirectoryAct params s) := by
  unfold queryDirectoryAct
  split <;> exact .of_same (by simp)

theorem planned_queryResumeAct (params : List Byte) (s : State) : Planned s (queryResumeAct params s) := by
  unfold queryResumeAct
  split <;> exact .of_same (by simp)

theorem planned_forgetResumeAct (params : List Byte) (s : State) : Planned s (forgetResumeAct params s) := by
  unfold forgetResumeAct setTable
  dsimp only
  split
  · exact .of_same (by simp)
  · split <;> exact .of_same (by simp)

theorem planned_discLoadedAct (s : State) : Planned s (discLoadedAct s) := by
  unfold discLoadedAct
  split
  · exact .of_same (by simp)
  · exact .answered (plans_loadDisc s) s _ _

theorem planned_discReleaseAct (s : State) : Planned s (discReleaseAct s) := by
  unfold discReleaseAct
  exact .answered (plans_releaseDisc s) s _ _

theorem planned_startAct (s : State) : Planned s (startAct s) := by
  unfold startAct
  split
  · exact .answered (Plans.trans (.of_same (by simp)) (plans_lookAtTray _)) s _ _
  · exact .of_same (by simp)

theorem planned_enterLow (target : LowMode) (s : State) : Planned s (enterLow target s) :=
  ⟨plans_enterLow target s, fun _ => by unfold enterLow; exact congrArg Planner.scanDue (finish_planner s _)⟩

/-! ### Every command -/

/-- A command ends in a next state that keeps the queue's law and place. -/
def EndsPlanned (o : Host.Outcome State Fault Refusal) (s : State) : Prop := ∃ t, o = .next t ∧ Planned s t

theorem Planned.ends {s t : State} (h : Planned s t) : EndsPlanned (.next t) s := ⟨t, rfl, h⟩

theorem endsPlanned_powerOn (msz : BitVec 2) (s : State) : EndsPlanned (execPowerOn msz s) s := by
  refine ⟨_, rfl, ?_⟩
  unfold clearAfterReset
  split
  · exact .of_reset rfl
  · exact planned_reset_startClear msz rfl

theorem endsPlanned_resetLineAsserted (s : State) : EndsPlanned (execResetLineAsserted s) s := by
  refine ⟨_, rfl, ?_⟩
  split
  · exact .of_reset rfl
  · exact .of_same (by simp)

theorem endsPlanned_resetLineReleased (msz : BitVec 2) (s : State) : EndsPlanned (execResetLineReleased msz s) s := by
  refine ⟨_, rfl, ?_⟩
  dsimp only
  split
  · exact planned_reset_startClear msz rfl
  · exact .of_same (by simp)

theorem endsPlanned_ringClearEnd (s : State) : EndsPlanned (execRingClearEnd s) s := by
  unfold execRingClearEnd
  split
  · exact (Planned.refl s).ends
  · refine ⟨_, rfl, .finished ?_ s⟩
    dsimp only
    split
    · exact Plans.trans (.of_same (by simp)) (plans_wakeEnd _ _)
    · exact .of_same (by simp)

theorem endsPlanned_streamFrame (ready : Bool) (bytes : List Byte) (s : State) :
    EndsPlanned (execStreamFrame ready bytes s) s := by
  unfold execStreamFrame
  split
  · exact (Planned.refl s).ends
  · exact (Planned.finished (plans_receiveFrame ready bytes s) s).ends

theorem endsPlanned_frameCutShort (ready : Bool) (byte0 : Byte) (s : State) :
    EndsPlanned (execFrameCutShort ready byte0 s) s := by
  unfold execFrameCutShort
  split
  · exact (Planned.refl s).ends
  · exact (Planned.finished (plans_cutFrame ready byte0 s) s).ends

theorem endsPlanned_frameClock (s : State) : EndsPlanned (execFrameClock s) s := by
  unfold execFrameClock
  split
  · exact (Planned.refl s).ends
  · refine ⟨_, rfl, .finished ?_ s⟩
    dsimp only
    split
    · exact Plans.trans (.of_same (by simp)) (plans_playFrame fun hm => leavesAway_of_modeLaw hm)
    · exact Plans.trans (.of_same (by simp)) (plans_silentTick _)

theorem endsPlanned_fillStalled (s : State) : EndsPlanned (execFillStalled s) s := by
  unfold execFillStalled
  split
  · exact (Planned.refl s).ends
  · dsimp only
    split
    · exact (Planned.refl s).ends
    · exact ⟨_, rfl, .of_same (by simp)⟩

theorem endsPlanned_identifyTimerExpiry (s : State) : EndsPlanned (execIdentifyTimerExpiry s) s := by
  unfold execIdentifyTimerExpiry
  split
  · exact (Planned.refl s).ends
  · dsimp only
    split
    · exact (Planned.refl s).ends
    · exact ⟨_, rfl, .of_same (by simp)⟩

theorem endsPlanned_trayDebounced (s : State) : EndsPlanned (execTrayDebounced s) s := by
  unfold execTrayDebounced
  split
  · exact (Planned.refl s).ends
  · refine ⟨_, rfl, ?_⟩
    dsimp only
    split
    · exact .of_same (by simp)
    · exact .finished (Plans.trans (.of_same (by simp)) (plans_trayActs _ _)) s

theorem endsPlanned_wakeDelayEnd (msz : BitVec 2) (s : State) : EndsPlanned (execWakeDelayEnd msz s) s := by
  unfold execWakeDelayEnd
  split
  · exact ⟨_, rfl, .finished (Plans.trans (.of_same (by simp)) (plans_wakeEnd _ _)) s⟩
  · rename_i hm _ _
    have hlate : Planned s (elapseTo (s.power.wakeStart + 3000) s) := .of_same (by simp)
    exact ⟨_, rfl, hlate.trans id (planned_startClear_asleep msz hm)⟩
  · exact (Planned.refl s).ends

theorem endsPlanned_holdFadeWatchdog (s : State) : EndsPlanned (execHoldFadeWatchdog s) s := by
  unfold execHoldFadeWatchdog
  split
  · rename_i hp
    refine ⟨_, rfl, .finished (Plans.trans (.of_same (by simp)) (plans_leaveEnd fun hm => ?_)) s⟩
    simpa using leavesAway_of_modeLaw hm hp
  · exact (Planned.refl s).ends

theorem endsPlanned_attentionPulseEnd (port : Port) (s : State) : EndsPlanned (execAttentionPulseEnd port s) s := by
  unfold execAttentionPulseEnd
  split
  · exact ⟨_, rfl, .of_same (by simp)⟩
  · exact ⟨_, rfl, .of_same (by simp)⟩
  · exact (Planned.refl s).ends

theorem endsPlanned_trayLineChange (level : Tray) (s : State) : EndsPlanned (execTrayLineChange level s) s := by
  refine ⟨_, rfl, ?_⟩
  split
  · exact .refl s
  · exact .of_same (by simp)

theorem endsPlanned_wakeEdge (s : State) : EndsPlanned (execWakeEdge s) s := by
  refine ⟨_, rfl, ?_⟩
  split
  · exact .of_same (by simp)
  · exact .refl s

theorem planned_softResetAct (msz : BitVec 2) (dFrame : List Byte) (s : State) :
    Planned s (softResetAct msz dFrame s) := by
  have hreset : (resetBlocks (dropFrame dFrame s)).planner = plannerReset := rfl
  unfold softResetAct respondOk
  exact (planned_reset_startClear msz hreset).respond ..

theorem endsPlanned_unknownCommand (port : Port) (code : Byte) (fr : Frame) (s : State) :
    EndsPlanned (execUnknownCommand port code fr s) s := by
  refine (planned_transaction port _ (fun u => ?_) s).ends
  split
  · exact .of_same (by simp)
  · exact .refl u

/-- Each command of the table keeps the Order Queue's law and place, with no scan left over. -/
theorem endsPlanned_exec (c : Instr) (s : State) : EndsPlanned (exec c s) s := by
  cases c with
  | powerOn msz => exact endsPlanned_powerOn msz s
  | resetLineAsserted => exact endsPlanned_resetLineAsserted s
  | resetLineReleased msz => exact endsPlanned_resetLineReleased msz s
  | ringClearEnd => exact endsPlanned_ringClearEnd s
  | streamFrame ready bytes => exact endsPlanned_streamFrame ready bytes s
  | frameCutShort ready byte0 => exact endsPlanned_frameCutShort ready byte0 s
  | stepUp => exact Planned.ends (t := judgeUpgrade s) (.of_same (by simp))
  | stepDown => exact Planned.ends (t := judgeFails s) (.of_same (by simp))
  | frameClock => exact endsPlanned_frameClock s
  | holeWaitExpiry => exact (Planned.finished (plans_judgeHoleWait s) s).ends
  | fillStalled => exact endsPlanned_fillStalled s
  | orderTimeout => exact planned_orderTimeout s
  | identifyTimerExpiry => exact endsPlanned_identifyTimerExpiry s
  | trayDebounced => exact endsPlanned_trayDebounced s
  | wakeEdge => exact endsPlanned_wakeEdge s
  | wakeDelayEnd msz => exact endsPlanned_wakeDelayEnd msz s
  | holdFadeWatchdog => exact endsPlanned_holdFadeWatchdog s
  | attentionPulseEnd port => exact endsPlanned_attentionPulseEnd port s
  | poll port clocked => exact (planned_transaction port _ (planned_pollBus port clocked) s).ends
  | transactionCutShort port bytes => exact (planned_transaction port _ (fun _ => .of_same (by simp)) s).ends
  | unknownCommand port code fr => exact endsPlanned_unknownCommand port code fr s
  | lowPowerTransaction port clocked => exact (planned_transaction port _ .refl s).ends
  | start fr => exact (planned_command _ _ _ _ _ planned_startAct s).ends
  | configure fr => exact (planned_command _ _ _ _ _ (planned_configureAct _) s).ends
  | softReset msz fr => exact (planned_command _ _ _ _ _ (planned_softResetAct msz _) s).ends
  | queryStatus fr => exact (planned_command _ _ _ _ _ (fun _ => .of_same (by simp)) s).ends
  | readEvents port fr => exact (planned_command _ _ _ _ _ (planned_readEventsAct port) s).ends
  | readCounters fr => exact (planned_command _ _ _ _ _ (planned_readCountersAct _) s).ends
  | queryPosition fr => exact (planned_command _ _ _ _ _ (fun _ => .of_same (by simp)) s).ends
  | playAt fr => exact (planned_command _ _ _ _ _ (planned_withDisc fun u => planned_playCommand _ _ _ u) s).ends
  | playProgram fr => exact (planned_command _ _ _ _ _ (planned_withDisc (planned_playProgramAct _)) s).ends
  | pause fr => exact (planned_command _ _ _ _ _ (planned_withDisc planned_pauseAct) s).ends
  | resume fr => exact (planned_command _ _ _ _ _ (planned_withDisc planned_resumeAct) s).ends
  | stop fr => exact (planned_command _ _ _ _ _ (planned_withDisc planned_stopAct) s).ends
  | discLoaded fr => exact (planned_command _ _ _ _ _ planned_discLoadedAct s).ends
  | discRelease fr => exact (planned_command _ _ _ _ _ planned_discReleaseAct s).ends
  | queryDirectory fr => exact (planned_command _ _ _ _ _ (planned_withDisc (planned_queryDirectoryAct _)) s).ends
  | queryResume fr => exact (planned_command _ _ _ _ _ (planned_queryResumeAct _) s).ends
  | forgetResume fr => exact (planned_command _ _ _ _ _ (planned_forgetResumeAct _) s).ends
  | hold fr => exact (planned_command _ _ _ _ _ (planned_enterLow .held) s).ends
  | sleep fr => exact (planned_command _ _ _ _ _ (planned_enterLow .sleeping) s).ends
  | takeOrder fr => exact (planned_command _ _ _ _ _ planned_takeOrderAct s).ends
  | orderDone fr => exact (planned_command _ _ _ _ _ (planned_orderDoneAct _ _) s).ends
  | rateOffer fr => exact (planned_command _ _ _ _ _ (planned_rateOfferAct _) s).ends
  | skipNotice fr =>
    refine (planned_command _ _ _ _ _ (fun u => ?_) s).ends
    unfold skipNoticeAct
    exact .of_same (by simp)
  | driveRestart fr => exact (planned_command _ _ _ _ _ planned_driveRestartAct s).ends
  | queryPlan fr => exact (planned_command _ _ _ _ _ (fun _ => .of_same (by simp)) s).ends
  | powerLost =>
    change EndsPlanned (execPowerLost s) s
    unfold execPowerLost
    split
    · exact (Planned.refl s).ends
    · exact ⟨_, rfl, .of_reset rfl⟩
  | trayLineChange level => exact endsPlanned_trayLineChange level s

/-- A step keeps the Order Queue's law and place, with no scan left over. -/
theorem planned_step {s t : State} (h : step s = .next t) : Planned s t := by
  unfold step at h
  split at h
  · cases h
    exact .of_same (by simp [idle])
  · rename_i c rest _
    obtain ⟨u, hu, hplanned⟩ := endsPlanned_exec c { s with pending := rest }
    cases hu.symm.trans h
    have hpopped : Planned s { s with pending := rest } := .of_same (by simp)
    exact hpopped.trans id hplanned

/-- Settles O55: each command cuts the queue, places ranges of the repair region in it, issues its lowest entry or
empties it. -/
theorem stepKeepsPlannerLaw : Obligations.StepKeepsPlannerLaw := by
  unfold Obligations.StepKeepsPlannerLaw
  intro s t h hdue hlaw
  have hplanned := planned_step h
  exact ⟨hplanned.plans.law hlaw, hplanned.due hdue, fun hm _ => hplanned.plans.region hm hlaw⟩

end Sys2Proof.Machine
end

section
/-! PROOF. TAKE_ORDER: the ISSUED entry, the lowest QUEUED one, or none. -/

namespace Sys2Proof.Machine

/-! ### The ISSUED entry -/

/-- The ISSUED entry of a lawful queue, found wherever it stands. -/
theorem find?_issued {l r : List Order} {o : Order} (ho : o.isIssued = true)
    (h : (l ++ o :: r).countP Order.isIssued ≤ 1) : (l ++ o :: r).find? Order.isIssued = some o := by
  rw [List.countP_append, List.countP_cons, if_pos ho] at h
  have hl : ∀ x ∈ l, ¬ x.isIssued = true := List.countP_eq_zero.mp (by omega)
  rw [List.find?_append, List.find?_eq_none.mpr hl, List.find?_cons_of_pos ho]
  rfl

/-- The other entries of a queue with an ISSUED one are QUEUED. -/
theorem others_queued {l r : List Order} {o : Order} (ho : o.isIssued = true)
    (h : (l ++ o :: r).countP Order.isIssued ≤ 1) : ∀ x ∈ l ++ r, x.issue = none := by
  rw [List.countP_append, List.countP_cons, if_pos ho] at h
  have hnone : (l ++ r).countP Order.isIssued = 0 := by rw [List.countP_append]; omega
  intro x hx
  simpa [Order.isIssued] using List.countP_eq_zero.mp hnone x hx

theorem find?_issued_none {q : List Order} (h : ∀ x ∈ q, x.issue = none) : q.find? Order.isIssued = none :=
  List.find?_eq_none.mpr fun x hx => by simp [Order.isIssued, h x hx]

/-! ### The three answers -/

theorem takeOrderAct_empty {s : State} (h : s.planner.queue = []) :
    takeOrderAct s = respondOk .d (noOrderData s) s := by
  unfold takeOrderAct; rw [h]; rfl

theorem takeOrderAct_queued {s : State} {o : Order} {r : List Order} (hq : s.planner.queue = o :: r)
    (h : ∀ x ∈ s.planner.queue, x.issue = none) :
    takeOrderAct s = respondOk .d (orderData s o (issueFor s o)) (issueOrder o s) := by
  unfold takeOrderAct; rw [find?_issued_none h, hq]

/-- The ISSUED entry given again. -/
def givenAgain (s : State) (o : Order) (i : Issue) : Order := { o with issue := some (repeatIssue s i) }

theorem takeOrderAct_issued {s : State} {o : Order} {i : Issue} (hi : o.issue = some i)
    (h : s.planner.queue.find? Order.isIssued = some o) :
    takeOrderAct s = respondOk .d (orderData s (givenAgain s o i) (repeatIssue s i))
      (replaceOrder o.first (givenAgain s o i) s) := by
  obtain ⟨first, count, attempts, issue⟩ := o
  cases hi
  unfold takeOrderAct
  rw [h]
  rfl

/-- A rise and a change of the planner go beside each other. -/
theorem rise_setPlanner (c : CounterId) (n : Nat) (p : Planner) (s : State) :
    rise c n { s with planner := p } = { s with planner := p, events := (rise c n s).events } := by
  rw [rise_eq, rise_events_congr (t := { s with planner := p }) (s := s) rfl rfl rfl]

/-- The lowest entry issued shows in the planner and the figures alone (R63). -/
theorem issueOrder_eq {s : State} {o : Order} {r : List Order} (ha : Apart (o :: r)) (hq : s.planner.queue = o :: r) :
    issueOrder o s = { s with
      planner := { s.planner with
        queue := { o with attempts := o.attempts + 1, issue := some (issueFor s o) } :: r
        tagCounter := nextTag s.planner.tagCounter }
      events := (rise .ordersIssued 1 s).events } := by
  have ha' : Apart ([] ++ o :: r) := ha
  have hput := ha'.replaceOrder { o with attempts := o.attempts + 1, issue := some (issueFor s o) }
    (s := { s with planner := { s.planner with tagCounter := nextTag s.planner.tagCounter } }) hq
  exact (congrArg (rise .ordersIssued 1) hput).trans (rise_setPlanner _ _ _ s)

/-- What TAKE_ORDER tells of an order (R63, R158). -/
theorem orderData_eq (s : State) (o : Order) (i : Issue) : orderData s o i =
    [byteOf i.tag] ++ le24 i.readFrom ++ le24 o.first ++ [byteOf o.count,
      if (List.range' o.first o.count).any (fun a => (s.slot a).isMissing) then 0 else 1,
      byteOf s.rates.requested.code] := by
  rw [orderData, State.reasonHole, apply_ite byteOf]
  rfl

theorem exec_takeOrder {s : State} (h : s.Ready) :
    exec (.takeOrder (goodFrame 0x21 [])) s = .next (takeOrderAct (sendStatus .d 2 s)) :=
  congrArg _ (command_ready h .d 0x21 [] false (by decide) takeOrderAct)

/-- Settles O34: of a lawful queue the ISSUED entry is found first, and the lowest QUEUED one is issued in its place. -/
theorem takeOrderGivesLowest : Obligations.TakeOrderGivesLowest := by
  intro s hready hlaw low told
  obtain ⟨hqueue, htag⟩ := (plannerLaw_iff _).mp hlaw
  rw [exec_takeOrder hready]
  refine ⟨fun hq => ?_, fun o rest hq hnone => ?_, fun l o r i hq hi => ?_⟩
  · rw [takeOrderAct_empty (by exact hq)]
    rfl
  · intro tag readFrom
    refine ⟨_, rfl, ?_⟩
    have hnext : nextTag s.planner.tagCounter = tag := by simp only [nextTag, tag]; split <;> split <;> omega
    rw [takeOrderAct_queued (s := sendStatus .d 2 s) hq hnone,
      issueOrder_eq (s := sendStatus .d 2 s) (hq ▸ hqueue.apart) hq]
    refine ⟨?_, rise_dSet .ordersIssued 1 _, ?_⟩
    · have hissue : issueFor (sendStatus .d 2 s) o =
          ⟨tag, readFrom, s.now, s.now + 1000 * s.params.orderTimeout⟩ := by rw [← hnext]; rfl
      rw [orderData_eq, hissue, ← hnext]
      rfl
    · exact ((counted_of_counters rfl).rise rfl 1).congr (t := rise .ordersIssued 1 (sendStatus .d 2 s)) rfl fun _ => rfl
  · intro readFrom
    have hissued : o.isIssued = true := by simp [Order.isIssued, hi]
    have hfind : (sendStatus .d 2 s).planner.queue.find? Order.isIssued = some o :=
      (congrArg _ hq).trans (find?_issued hissued (hq ▸ hqueue.issued))
    rw [takeOrderAct_issued hi hfind, Apart.replaceOrder (s := sendStatus .d 2 s) (hq ▸ hqueue.apart) _ hq,
      orderData_eq]
    rfl

end Sys2Proof.Machine
end

section
/-! PROOF. ORDER_DONE where no failure is counted, and the timeout that withdraws. -/

namespace Sys2Proof.Machine

/-! ### The bad slots left of an entry -/

/-- The bad slots of an entry reach from `lo` to `hi`. -/
structure BadFrom (s : State) (o : Order) (lo hi : Nat) : Prop where
  first : o.first ≤ lo
  ordered : lo ≤ hi
  last : hi < o.first + o.count
  low : s.badAt lo = true
  high : s.badAt hi = true
  between : ∀ a, o.first ≤ a → a < o.first + o.count → s.badAt a = true → lo ≤ a ∧ a ≤ hi

section
variable {s : State} {o : Order} {lo hi : Nat}

theorem BadFrom.congr {t : State} (h : BadFrom s o lo hi) (hsame : t.badAt = s.badAt) : BadFrom t o lo hi :=
  ⟨h.first, h.ordered, h.last, hsame ▸ h.low, hsame ▸ h.high, hsame ▸ h.between⟩

theorem BadFrom.badIn (h : BadFrom s o lo hi) : ∃ rest, s.badIn o.first o.count = lo :: rest ∧ rest.getLastD lo = hi := by
  have hmem := fun a => mem_badIn (s := s) (first := o.first) (count := o.count) (a := a)
  obtain ⟨hfirst, hle, hlast, hlow, hhigh, hbetween⟩ := h
  have hlo := (hmem lo).mpr ⟨⟨hfirst, by omega⟩, hlow⟩
  have hhi := (hmem hi).mpr ⟨⟨by omega, hlast⟩, hhigh⟩
  have hasc := badIn_pairwise s o.first o.count
  obtain ⟨a, rest, heq⟩ := List.exists_cons_of_ne_nil (List.ne_nil_of_mem hlo)
  rw [heq] at hmem hlo hhi hasc
  have hspan := between_of_pairwise hasc
  have ha := (hmem a).mp (by simp)
  have hz := (hmem (rest.getLastD a)).mp List.getLastD_mem_cons
  have h1 := hbetween a ha.1.1 ha.1.2 ha.2
  have h2 := hbetween _ hz.1.1 hz.1.2 hz.2
  have h3 := hspan lo hlo
  have h4 := hspan hi hhi
  obtain rfl : a = lo := by omega
  exact ⟨rest, heq, by omega⟩

theorem BadFrom.badIn_ne (h : BadFrom s o lo hi) : s.badIn o.first o.count ≠ [] := by
  obtain ⟨rest, heq, -⟩ := h.badIn
  simp [heq]

/-- The entry trimmed to its bad slots (R66, R68). -/
theorem BadFrom.trimTo (h : BadFrom s o lo hi) :
    trimTo (s.badIn o.first o.count) o = { o with first := lo, count := hi + 1 - lo } := by
  obtain ⟨rest, heq, hlast⟩ := h.badIn
  rw [heq, Machine.trimTo, List.headD_cons, List.getLastD_cons, hlast]

/-- What is left of the entry is a part of it. -/
theorem BadFrom.part (h : BadFrom s o lo hi) (attempts : Nat) : o.Part ⟨lo, hi + 1 - lo, attempts, none⟩ := by
  obtain ⟨hfirst, hle, hlast, -⟩ := h
  exact ⟨hfirst, by dsimp only; omega, fun _ => by dsimp only; omega, fun i hi => nomatch hi⟩

end

/-! ### The end of an event that leaves all orders QUEUED -/

/-- No work waits beside an ISSUED entry (R62). -/
theorem not_workIn_issued {l r : List Order} {o : Order} {i : Issue} (hi : o.issue = some i) :
    ¬ workIn (l ++ o :: r) := fun h => by
  have := h.2 o (by simp)
  rw [hi] at this
  cases this

theorem tellWork_eq (b u s : State) : tellWork b u s = { s with events := (tellWork b u s).events } := by
  unfold tellWork; split <;> rfl

theorem tellPause_eq (b s : State) : tellPause b s = { s with events := (tellPause b s).events } := by
  unfold tellPause; split <;> rfl

/-- The event ends with its scan, and is told of as `finish` tells it. -/
theorem finish_eq (b s : State) : finish b s = { scanIfDue s with events := (finish b s).events } := by
  rw [finish, tellPause_eq, tellWork_eq]

/-- ORDER_AVAILABLE in an event that leaves all orders QUEUED and found one ISSUED (R62). -/
theorem finish_queued_dSet {b s : State} (hb : ¬ workIn b.planner.queue) (hq : ∀ o ∈ s.planner.queue, o.issue = none)
    (hflag : b.pauseFlag = s.pauseFlag) : (finish b s).events.dSet =
      if (scanIfDue s).planner.queue = [] then s.events.dSet else latch DEvent.pos .orderAvailable s.events.dSet := by
  have hwaits : b.planner.workWaits = false := by rwa [Bool.eq_false_iff, Ne, workWaits_iff]
  have hscanned : ∀ o ∈ (scanIfDue s).planner.queue, o.issue = none := by
    unfold scanIfDue
    split
    · exact scan_queued hq
    · exact hq
  have hsame : (tellWork b s (scanIfDue s)).pauseFlag = s.pauseFlag := by
    rw [tellWork_eq]; simp [State.pauseFlag]
  have hwork := workWaits_queued hscanned
  rw [finish, tellPause_dSet, if_pos (hflag.trans hsame.symm), tellWork_dSet, hwaits]
  by_cases hnil : (scanIfDue s).planner.queue = []
  · rw [if_pos hnil, if_neg (by simpa [hwork] using hnil)]
    simp
  · rw [if_neg hnil, if_pos (by simpa [hwork] using hnil)]
    simp

/-! ### The commands -/

theorem exec_orderDone {s : State} (h : s.Ready) (tag : Byte) {out : Byte} (hout : out = 0 ∨ out = 1 ∨ out = 2) :
    exec (.orderDone (goodFrame 0x22 [tag, out])) s =
      .next (orderDoneAct tag ((outcomeOf out).getD .read) (sendStatus .d 4 s)) := by
  have hcommand := command_ready h .d 0x22 [tag, out] false (by simp) (orderDoneAct tag ((outcomeOf out).getD .read))
  rcases hout with rfl | rfl | rfl <;> exact congrArg _ hcommand

/-- A tag that is not the ISSUED entry's is STALE (R66). -/
theorem orderDoneAct_stale {s : State} {tag : Byte} (h : ∀ o ∈ s.planner.queue, ∀ i, o.issue = some i → i.tag ≠ tag.toNat)
    (outcome : DoneOutcome) : orderDoneAct tag outcome s = respond .d .ok [2, tag, 3] s := by
  unfold orderDoneAct
  split
  · rfl
  · rename_i o hfind
    have hissued := List.find?_some hfind
    obtain ⟨i, hi⟩ := Option.isSome_iff_exists.mp hissued
    have htag : o.tagOr0 = i.tag := by simp [Order.tagOr0, hi]
    rw [if_neg (htag ▸ h o (List.mem_of_find?_eq_some hfind) i hi)]
    rfl

/-- The ISSUED entry's own tag closes its attempt (R66). -/
theorem orderDoneAct_issued {s : State} {l r : List Order} {o : Order} {i : Issue} (hlaw : QueueLaw s.planner.queue)
    (hq : s.planner.queue = l ++ o :: r) (hi : o.issue = some i) (outcome : DoneOutcome) :
    orderDoneAct (byteOf i.tag) outcome s =
      respondOk .d [byteOf i.tag, (closeAttempt o outcome s).2] (finish s (closeAttempt o outcome s).1) := by
  have htags := hlaw.tags o (by simp [hq]) i hi
  have hissued : o.isIssued = true := by simp [Order.isIssued, hi]
  have hfind : s.planner.issuedEntry = some o := by
    rw [Planner.issuedEntry, hq]; exact find?_issued hissued (hq ▸ hlaw.issued)
  have htag : o.tagOr0 = (byteOf i.tag).toNat := by
    simp only [Order.tagOr0, hi, byteOf, BitVec.toNat_ofNat]
    omega
  unfold orderDoneAct
  rw [hfind]
  simp only [htag, if_true]

/-- ORDER_TIMEOUT finds the ISSUED entry, the timebase at its deadline or past it (R70, log 4). -/
theorem exec_orderTimeout {s : State} {l r : List Order} {o : Order} {i : Issue} (hlaw : QueueLaw s.planner.queue)
    (hq : s.planner.queue = l ++ o :: r) (hi : o.issue = some i) :
    exec .orderTimeout s = .next (finish s (timeoutOrder o (elapseTo i.deadline s))) := by
  have hissued : o.isIssued = true := by simp [Order.isIssued, hi]
  have hfind := find?_issued hissued (hq ▸ hlaw.issued)
  obtain ⟨first, count, attempts, issue⟩ := o
  cases hi
  change execOrderTimeout s = _
  unfold execOrderTimeout
  rw [hq, hfind]

/-! ### The queue closed -/

/-- The end of an event that leaves the queue `q`, all of it QUEUED, from a part with an ISSUED entry: the scan of `q`, and
ORDER_AVAILABLE when that leaves an entry (R59, R62). -/
theorem closed_finish {b s : State} {q : List Order} {l r : List Order} {o : Order} {i : Issue}
    (hb : b.planner.queue = l ++ o :: r) (hi : o.issue = some i) (hs : s.planner.queue = q)
    (hdue : s.planner.scanDue = true) (hq : ∀ x ∈ q, x.issue = none) (hflag : b.pauseFlag = s.pauseFlag) :
    finish b s = { s with
      planner := { s.planner with queue := (scan s).planner.queue, scanDue := false }
      events := (finish b s).events } ∧
    (finish b s).events.dSet = if (scan s).planner.queue = [] then s.events.dSet
      else latch DEvent.pos .orderAvailable s.events.dSet := by
  have hscan := scanIfDue_due hdue
  have hset := finish_queued_dSet (hb ▸ not_workIn_issued hi) (hs ▸ hq) hflag
  rw [hscan] at hset
  refine ⟨?_, hset⟩
  rw [finish_eq, hscan]

/-- An entry taken from its place in the queue (R59). -/
theorem removeOrder_eq {s : State} {l r : List Order} {o : Order} (ha : Apart (l ++ o :: r))
    (hq : s.planner.queue = l ++ o :: r) : removeOrder o.first s = dueScan (setQueue (l ++ r) s) := by
  rw [removeOrder, hq, ha.removeFirst]

/-- With no bad slot left the entry is removed, and the failure count is 0 (R66). -/
theorem closeAttempt_removed {s : State} {o : Order} (h : s.badIn o.first o.count = []) (outcome : DoneOutcome) :
    closeAttempt o outcome s = (setFails 0 (removeOrder o.first s), 0) := by
  unfold closeAttempt
  simp only [h, List.isEmpty_nil, if_true]
  rfl

/-- The timeout of an entry with no bad slot left withdraws it (R70). -/
theorem timeoutOrder_removed {s : State} {l r : List Order} {o : Order} {i : Issue} (ha : Apart (l ++ o :: r))
    (hq : s.planner.queue = l ++ o :: r) (hi : o.issue = some i) (h : s.badIn o.first o.count = []) :
    timeoutOrder o s = raiseD (.orderWithdrawn i.tag o.first) (dueScan (setQueue (l ++ r) s)) := by
  have htag : o.tagOr0 = i.tag := by simp [Order.tagOr0, hi]
  rw [timeoutOrder, h, withdrawOrder, removeOrder_eq ha hq, htag]
  rfl

/-- INTERRUPTED with bad slots left trims the entry to them and requeues it, its attempt refunded (R67). -/
theorem closeAttempt_interrupted {s : State} {l r : List Order} {o : Order} {lo hi : Nat} (ha : Apart (l ++ o :: r))
    (hq : s.planner.queue = l ++ o :: r) (h : BadFrom s o lo hi) :
    closeAttempt o .interrupted s = (dueScan (setQueue (l ++ ⟨lo, hi + 1 - lo, o.attempts - 1, none⟩ :: r) s), 1) := by
  have hne : (s.badIn o.first o.count).isEmpty = false := by simpa using h.badIn_ne
  unfold closeAttempt
  simp only [hne, Bool.false_eq_true, if_false, if_true, h.trimTo, ha.replaceOrder _ hq]
  rfl

/-- Settles O35: beside the ISSUED entry all others are QUEUED, so that work waits where the scan leaves an entry. -/
theorem orderDoneCloses : Obligations.OrderDoneCloses := by
  intro s hready hlaw
  obtain ⟨hlaw, -⟩ := (plannerLaw_iff _).mp hlaw
  refine ⟨fun tag out hout hother => ?_, fun l o r i hq hi => ?_⟩
  · rw [exec_orderDone hready tag hout, orderDoneAct_stale (s := sendStatus .d 4 s) hother]
    rfl
  intro told available
  have ha : Apart (l ++ o :: r) := hq ▸ hlaw.apart
  have hqueued := others_queued (o := o) (by simp [Order.isIssued, hi]) (hq ▸ hlaw.issued)
  refine ⟨fun hgood => ?_, fun lo hi' hfirst hle hlast hlow hhigh hbetween => ?_⟩
  · have hnone : s.badIn o.first o.count = [] := List.eq_nil_iff_forall_not_mem.mpr fun a hmem => by
      obtain ⟨⟨h1, h2⟩, h3⟩ := mem_badIn.mp hmem
      exact absurd h3 (by simp [hgood a h1 h2])
    refine ⟨fun out hout => ?_, ?_⟩
    · obtain ⟨heq, hset⟩ := closed_finish (b := sendStatus .d 4 s)
        (s := setFails 0 (dueScan (setQueue (l ++ r) (sendStatus .d 4 s)))) hq hi rfl rfl hqueued rfl
      rw [exec_orderDone hready _ hout, orderDoneAct_issued (s := sendStatus .d 4 s) hlaw hq hi,
        closeAttempt_removed (s := sendStatus .d 4 s) hnone, removeOrder_eq (s := sendStatus .d 4 s) ha hq, heq]
      exact ⟨_, rfl, rfl, scan_queue_congr rfl rfl rfl rfl rfl rfl, (finish_sSet _ _).1, (finish_sSet _ _).2, hset⟩
    · obtain ⟨heq, hset⟩ := closed_finish (b := s)
        (s := raiseD (.orderWithdrawn i.tag o.first) (dueScan (setQueue (l ++ r) (elapseTo i.deadline s))))
        hq hi rfl rfl hqueued rfl
      rw [exec_orderTimeout hlaw hq hi, timeoutOrder_removed (s := elapseTo i.deadline s) ha hq hi hnone, heq]
      exact ⟨_, rfl, rfl, scan_queue_congr rfl rfl rfl rfl rfl rfl, (finish_sSet _ _).1, (finish_sSet _ _).2, hset⟩
  · have hrequeued : ∀ x ∈ l ++ ⟨lo, hi' + 1 - lo, o.attempts - 1, none⟩ :: r, x.issue = none := fun x hx => by
      simp only [List.mem_append, List.mem_cons] at hx hqueued
      rcases hx with hx | rfl | hx
      · exact hqueued x (.inl hx)
      · rfl
      · exact hqueued x (.inr hx)
    obtain ⟨heq, hset⟩ := closed_finish (b := sendStatus .d 4 s)
      (s := dueScan (setQueue (l ++ ⟨lo, hi' + 1 - lo, o.attempts - 1, none⟩ :: r) (sendStatus .d 4 s)))
      hq hi rfl rfl hrequeued rfl
    have hread : (outcomeOf 2).getD .read = .interrupted := rfl
    rw [exec_orderDone hready _ (.inr (.inr rfl)), orderDoneAct_issued (s := sendStatus .d 4 s) hlaw hq hi, hread,
      closeAttempt_interrupted (s := sendStatus .d 4 s) ha hq ⟨hfirst, hle, hlast, hlow, hhigh, hbetween⟩, heq]
    exact ⟨_, rfl, rfl, scan_queue_congr rfl rfl rfl rfl rfl rfl, (finish_sSet _ _).1, (finish_sSet _ _).2, hset⟩

end Sys2Proof.Machine
end

section
/-! PROOF. A counted failure: the rates stepped down, the figures, the slots given up. -/

namespace Sys2Proof.Machine

/-! ### A step down of the requested rate (R80, R84) -/

theorem below_ne {o : Offer} {r lower : Rate} (h : o.below r = some lower) : lower ≠ r := fun heq => by
  have hmem := List.mem_of_getLast? (show (o.ladder.filter fun x => x.code < r.code).getLast? = some lower from h)
  have hlt := (List.mem_filter.mp hmem).2
  simp [heq] at hlt

/-- A step down finds no lower rate, or takes it, with RATE_CHANGED and the count. -/
theorem rateStepDown_cases (s : State) : rateStepDown s = s ∨ ∃ new : Rates, new.requested ≠ s.rates.requested ∧
    rateStepDown s = setRates .downgrade new (rise .rateDowngrades 1 s) := by
  unfold rateStepDown
  split
  · exact .inl rfl
  · rename_i a ha
    split
    · exact .inl rfl
    · rename_i lower hlower
      refine .inr ⟨_, ?_, rfl⟩
      simp only [Rates.requested, ha]
      exact below_ne hlower

/-- A step down goes by the rates alone. -/
theorem rateStepDown_rates_congr {s t : State} (h : t.rates = s.rates) :
    (rateStepDown t).rates = (rateStepDown s).rates := by
  have hset : ∀ cause new (x : State), (setRates cause new x).rates = new := fun cause new x => by
    rw [(setRates_state cause new x).1]
  unfold rateStepDown
  rw [h]
  split
  · exact h
  · split
    · exact h
    · simp only [hset]

theorem rateStepDown_counted {b s : State} {up : CounterId → Nat} (h : Counted b s up) (hup : up .rateDowngrades = 0) :
    Counted b (rateStepDown s) fun c =>
      if c = .rateDowngrades ∧ (rateStepDown s).rates.requested ≠ s.rates.requested then 1 else up c := by
  rcases rateStepDown_cases s with heq | ⟨new, hne, heq⟩
  · rw [heq]
    exact h.congr rfl fun c => if_neg (by simp)
  · obtain ⟨hstate, hcounters, -⟩ := setRates_state .downgrade new (rise .rateDowngrades 1 s)
    have hrates : (rateStepDown s).rates = new := by rw [heq, hstate]
    refine (h.rise hup 1).congr (by rw [heq, hcounters]) fun c => ?_
    rw [hrates]
    simp only [hne, ne_eq, not_false_eq_true, and_true]

theorem mem_rateStepDown_dSet {x : Latched DEvent} (h : x.ev.pos ≠ 6) (s : State) :
    x ∈ (rateStepDown s).events.dSet ↔ x ∈ s.events.dSet := by
  rcases rateStepDown_cases s with heq | ⟨new, -, heq⟩
  · rw [heq]
  · rw [heq, (setRates_state ..).2.2 x h, rise_dSet]

/-! ### The failure counted (R68, R72) -/

/-- The progress of the rates back at 0 (R68). -/
def dropProgress (s : State) : State := { s with rates := { s.rates with progress := 0 } }

/-- The failure counted, the rates still to be judged. -/
def failureTold (s : State) : State := setFails (s.planner.fails + 1) (rise .attemptsFailed 1 s)

theorem countFailure_steps {s : State} (h : s.params.downgradeLimit ≤ s.planner.fails + 1) :
    countFailure s = dropProgress (setFails 0 (rateStepDown (failureTold s))) := by
  have hlimit : (failureTold s).params.downgradeLimit ≤ (failureTold s).planner.fails := by simpa [failureTold] using h
  have hjudge : judgeFails (failureTold s) = setFails 0 (rateStepDown (failureTold s)) := if_pos hlimit
  rw [← hjudge, failureTold, countFailure, dropProgress]

theorem countFailure_stays {s : State} (h : ¬ s.params.downgradeLimit ≤ s.planner.fails + 1) :
    countFailure s = dropProgress (failureTold s) := by
  have hlimit : ¬ (failureTold s).params.downgradeLimit ≤ (failureTold s).planner.fails := by simpa [failureTold] using h
  have hjudge : judgeFails (failureTold s) = failureTold s := if_neg hlimit
  rw [← hjudge, failureTold, countFailure, dropProgress]

/-- The rates after a counted failure: at the downgrade limit stepped down, the progress at 0 (R68, R72). -/
def failedRates (s : State) : Rates :=
  { (if s.params.downgradeLimit ≤ s.planner.fails + 1 then (rateStepDown s).rates else s.rates) with progress := 0 }

/-- What a counted failure makes of the rates, the figures and the D-port's set. -/
structure FailureCounted (s t : State) : Prop where
  rates : t.rates = failedRates s
  counted : Counted s t fun c => if c = .attemptsFailed then 1
    else if c = .rateDowngrades ∧ s.params.downgradeLimit ≤ s.planner.fails + 1 ∧
      (rateStepDown s).rates.requested ≠ s.rates.requested then 1 else 0
  dSet : ∀ x : Latched DEvent, x.ev.pos ≠ 6 → (x ∈ t.events.dSet ↔ x ∈ s.events.dSet)

theorem failureCounted (s : State) : FailureCounted s (countFailure s) := by
  have htold : Counted s (failureTold s) fun c => if c = .attemptsFailed then 1 else 0 :=
    ((counted_of_counters rfl).rise rfl 1).congr (t := rise .attemptsFailed 1 s) rfl fun _ => rfl
  have hrates : (failureTold s).rates = s.rates := by simp [failureTold]
  have hset : (failureTold s).events.dSet = s.events.dSet := rise_dSet .attemptsFailed 1 s
  by_cases h : s.params.downgradeLimit ≤ s.planner.fails + 1
  · have hdown := rateStepDown_rates_congr hrates
    have hcounted := rateStepDown_counted htold (by simp)
    rw [countFailure_steps h]
    refine ⟨?_, hcounted.congr rfl fun c => ?_, fun x hx => ?_⟩
    · rw [failedRates, if_pos h, ← hdown]; rfl
    · rw [hdown, hrates]
      simp only [h, true_and]
      by_cases hc : c = .attemptsFailed
      · simp [hc]
      · simp [hc]
    · exact (mem_rateStepDown_dSet hx _).trans (by rw [hset])
  · rw [countFailure_stays h]
    refine ⟨?_, htold.congr rfl fun c => ?_, fun x _ => by rw [← hset]; rfl⟩
    · rw [failedRates, if_neg h, ← hrates]; rfl
    · simp only [h, false_and, and_false, if_false]

/-! ### Slots given up (R10, R69) -/

theorem giveUp_frame (a : Nat) (r : Ring) : r.giveUp a = { r with slots := (r.giveUp a).slots } := by
  unfold Ring.giveUp; split <;> rfl

theorem giveUps_frame (l : List Nat) (r : Ring) : l.foldl (fun r a => r.giveUp a) r =
    { r with slots := (l.foldl (fun r a => r.giveUp a) r).slots } := by
  induction l generalizing r with
  | nil => rfl
  | cons a l ih => rw [List.foldl_cons, ih, giveUp_frame]

/-- A slot given up, the others of the window as they were. -/
theorem giveUp_slot {r : Ring} (hr : r.Law) {a x : Nat} (ha : r.p ≤ a ∧ a < r.p + r.len)
    (hx : r.p ≤ x ∧ x < r.p + r.len) : (r.giveUp a).slot x = if x = a then (r.slot x).givenUp else r.slot x := by
  cases he : (r.slot a).isEmpty with
  | true =>
    have hempty := eq_empty_of_isEmpty he
    have hsame : r.giveUp a = r := by
      refine if_neg ?_
      simp [Ring.holds, hempty, Slot.tag]
    rw [hsame]
    split
    · rename_i hxa
      rw [hxa, hempty]; rfl
    · rfl
  | false =>
    have hgive : r.giveUp a = r.setSlot a (r.slot a).givenUp := if_pos (holds_of_nonempty hr ha.1 ha.2 he)
    rw [hgive]
    split
    · rename_i hxa
      rw [hxa, slot_setSlot_same a _ hr.1]
    · rename_i hxa
      exact slot_setSlot_ne _ ha hx hxa

theorem giveUps_slot {l : List Nat} {r : Ring} (hr : r.Law) (hl : ∀ a ∈ l, r.p ≤ a ∧ a < r.p + r.len) (hnodup : l.Nodup)
    {x : Nat} (hx : r.p ≤ x ∧ x < r.p + r.len) :
    (l.foldl (fun r a => r.giveUp a) r).slot x = if x ∈ l then (r.slot x).givenUp else r.slot x := by
  induction l generalizing r with
  | nil => simp
  | cons a l ih =>
    obtain ⟨hnot, hnodup⟩ := List.nodup_cons.mp hnodup
    have hlaw := (moves_giveUp (live := False) (fp := none) (t := 0) a r).law hr
    have hwindow : (r.giveUp a).p = r.p ∧ (r.giveUp a).len = r.len := by rw [giveUp_frame]; exact ⟨rfl, rfl⟩
    rw [List.foldl_cons, ih hlaw (fun b hb => by rw [hwindow.1, hwindow.2]; exact hl b (by simp [hb])) hnodup
      (by rw [hwindow.1, hwindow.2]; exact hx), giveUp_slot hr (hl a (by simp)) hx]
    by_cases hxa : x = a
    · simp [hxa, hnot]
    · simp [hxa]

end Sys2Proof.Machine
end

section
/-! PROOF. A failed attempt: the entry requeued or given up, and what the engine makes of it. -/

namespace Sys2Proof.Machine

/-! ### The bad slots of an entry, by its first and last -/

theorem BadFrom.mem {s : State} {o : Order} {lo hi a : Nat} (h : BadFrom s o lo hi) :
    a ∈ s.badIn o.first o.count ↔ lo ≤ a ∧ a ≤ hi ∧ s.badAt a = true := by
  obtain ⟨hfirst, hle, hlast, -, -, hbetween⟩ := h
  rw [mem_badIn]
  constructor
  · rintro ⟨⟨h1, h2⟩, hbad⟩
    obtain ⟨h3, h4⟩ := hbetween a h1 h2 hbad
    exact ⟨h3, h4, hbad⟩
  · rintro ⟨h1, h2, hbad⟩
    exact ⟨⟨by omega, by omega⟩, hbad⟩

/-- Between the first and the last bad slot lie all of them. -/
theorem BadFrom.badIn_eq {s : State} {o : Order} {lo hi : Nat} (h : BadFrom s o lo hi) :
    s.badIn o.first o.count = s.badIn lo (hi + 1 - lo) :=
  (badIn_pairwise s _ _).eq_of_mem_iff (badIn_pairwise s _ _) fun a => by
    have := h.ordered
    rw [h.mem, mem_badIn]
    constructor
    · rintro ⟨h1, h2, hbad⟩; exact ⟨⟨h1, by omega⟩, hbad⟩
    · rintro ⟨⟨h1, h2⟩, hbad⟩; exact ⟨h1, by omega, hbad⟩

/-! ### The entry requeued or given up (R68, R69) -/

/-- What the attempt of an entry that failed leaves of it: at the retry limit nothing, below it the bad slots, QUEUED. -/
def remains (s : State) (o : Order) (lo hi : Nat) : List Order :=
  if s.params.retryLimit ≤ o.attempts then [] else [⟨lo, hi + 1 - lo, o.attempts, none⟩]

/-- The slots after a failed attempt: at the retry limit the bad ones are given up. -/
def failedRing (s : State) (o : Order) : Ring :=
  if s.params.retryLimit ≤ o.attempts then (s.badIn o.first o.count).foldl (fun r a => r.giveUp a) s.ring else s.ring

/-- What a failed attempt counts, with bad slots `lo`..`hi` left (R68, R69, R84). -/
def failedCount (s : State) (o : Order) (lo hi : Nat) (x : CounterId) : Nat :=
  if x = .attemptsFailed then 1
  else if x = .slotsAbandoned ∧ s.params.retryLimit ≤ o.attempts
    then ((List.range' lo (hi + 1 - lo)).filter s.badAt).length
  else if x = .rateDowngrades ∧ s.params.downgradeLimit ≤ s.planner.fails + 1 ∧
    (rateStepDown s).rates.requested ≠ s.rates.requested then 1 else 0

/-- A counted failure of the entry, before the engine reacts and the event ends. -/
structure Fails (s : State) (l r : List Order) (o : Order) (lo hi : Nat) (t : State) : Prop where
  ring : t.ring = failedRing s o
  planner : t.planner = { s.planner with
    queue := l ++ remains s o lo hi ++ r
    fails := if s.params.downgradeLimit ≤ s.planner.fails + 1 then 0 else s.planner.fails + 1
    scanDue := true }
  rates : t.rates = failedRates s
  frame : t.intake = s.intake ∧ t.engine = s.engine ∧ t.conceal = s.conceal ∧ t.line = s.line ∧ t.session = s.session ∧
    t.power = s.power ∧ t.params = s.params ∧ t.sPort = s.sPort ∧ t.dPort = s.dPort ∧ t.now = s.now
  counted : Counted s t (failedCount s o lo hi)
  dSet : ∀ x : Latched DEvent, x.ev.pos ≠ 6 → (x ∈ t.events.dSet ↔ x ∈ s.events.dSet)
  told : s.params.retryLimit ≤ o.attempts → ∃ n, ⟨SEvent.slotAbandoned lo hi, n⟩ ∈ t.events.sSet

section
variable {s : State} {l r : List Order} {o : Order} {lo hi : Nat}

/-- Below the retry limit the entry is trimmed and requeued (R68). -/
theorem failAttempt_requeued (ha : Apart (l ++ o :: r)) (hq : s.planner.queue = l ++ o :: r) (hbad : BadFrom s o lo hi)
    (h : ¬ s.params.retryLimit ≤ o.attempts) : failAttempt o s =
      (dueScan (setQueue (l ++ ⟨lo, hi + 1 - lo, o.attempts, none⟩ :: r) (countFailure s)), false) := by
  have hq' : (countFailure s).planner.queue = l ++ o :: r := by simpa using hq
  have hlimit : o.attempts < (countFailure s).params.retryLimit := by simpa using h
  unfold failAttempt
  simp only [if_pos hlimit, hbad.trimTo, ha.replaceOrder _ hq']

/-- At the retry limit it is given up (R69). -/
theorem failAttempt_given (o : Order) {s : State} (h : s.params.retryLimit ≤ o.attempts) :
    failAttempt o s = (giveUpOrder o (countFailure s), true) := by
  have hlimit : ¬ o.attempts < (countFailure s).params.retryLimit := by simpa using h
  unfold failAttempt
  simp only [if_neg hlimit]

/-- The slots of a list of addresses given up. -/
def giveUpSlots (bad : List Nat) (s : State) : State := { s with ring := bad.foldl (fun r a => r.giveUp a) s.ring }

/-- An entry given up: its bad slots counted, and told of (R69). -/
theorem giveUpOrder_events (hbad : BadFrom s o lo hi) : (giveUpOrder o s).events =
    (raiseS (.slotAbandoned lo hi) (rise .slotsAbandoned (s.badIn o.first o.count).length
      (giveUpSlots (s.badIn o.first o.count) s))).events := by
  obtain ⟨rest, heq, hlast⟩ := hbad.badIn
  unfold giveUpOrder removeOrder
  rw [heq]
  simp only [List.isEmpty_cons, Bool.false_eq_true, if_false, List.headD_cons, List.getLastD_cons, hlast]
  rfl

theorem fails_failAttempt (ha : Apart (l ++ o :: r)) (hq : s.planner.queue = l ++ o :: r) (hbad : BadFrom s o lo hi) :
    Fails s l r o lo hi (failAttempt o s).1 := by
  obtain ⟨hrates, hcounted, hset⟩ := failureCounted s
  by_cases h : s.params.retryLimit ≤ o.attempts
  · have hsame : (countFailure s).badAt = s.badAt := badAt_congr (by simp) (by simp) (by simp)
    have hbad' := hbad.congr hsame
    have hbadIn : (countFailure s).badIn o.first o.count = s.badIn o.first o.count := by rw [State.badIn, hsame]; rfl
    have hevents := giveUpOrder_events hbad'
    rw [hbadIn] at hevents
    have hgiven := hcounted.congr (t' := giveUpSlots (s.badIn o.first o.count) (countFailure s)) rfl fun _ => rfl
    have hrise := hgiven.rise (c := .slotsAbandoned) (by simp) (s.badIn o.first o.count).length
    rw [failAttempt_given o h]
    refine ⟨?_, ?_, by simpa using hrates, by simp, hrise.congr (by rw [hevents]; rfl) fun c => ?_, fun x hx => ?_,
      fun _ => ?_⟩
    · rw [failedRing, if_pos h, giveUpOrder_ring, hbadIn]; simp
    · rw [remains, if_pos h, giveUpOrder_planner, countFailure_planner, hq, ha.removeFirst]; simp
    · rw [hbad.badIn_eq, State.badIn, failedCount]
      by_cases hc : c = .attemptsFailed
      · simp [hc]
      · simp [hc, h]
    · rw [hevents]
      exact (iff_of_eq (congrArg _ (rise_dSet ..))).trans (hset x hx)
    · rw [hevents]
      exact exists_mem_latch ..
  · rw [failAttempt_requeued ha hq hbad h]
    refine ⟨?_, ?_, hrates, by simp, hcounted.congr rfl fun c => ?_, hset, fun hg => absurd hg h⟩
    · rw [failedRing, if_neg h]; simp
    · rw [remains, if_neg h]; simp
    · simp only [failedCount, h, and_false, if_false]

end

end Sys2Proof.Machine
end

section
/-! PROOF. A failed attempt at the end of its event: the engine's reaction, the scan, and the commands that count it. -/

namespace Sys2Proof.Machine

/-- The engine's reaction raises PLAY_STATE_CHANGED alone on the S-port (R100, R103). -/
theorem mem_react_sSet {s : State} {x : Latched SEvent} (hx : x.ev.pos ≠ 0) (h : Apart s.planner.queue)
    (hpt : s.ring.p ≠ s.t) : x ∈ (react s).events.sSet ↔ x ∈ s.events.sSet := by
  have hopens := (opens_openAndPlay h).sSet x hx
  unfold react
  split
  · split
    · rw [show exitStarved s = setConcealGain 0 (openAndPlay s) from rfl, setConcealGain_zero]
      exact hopens
    · rfl
  · split
    · rw [endPriming, if_neg hpt]
      rw [show (s |> openSlot |> dropWaits |> setPlay .playing) = openAndPlay s from rfl, setConcealGain_full]
      exact hopens
    · rfl
  · rfl

/-! ### The window after a failed attempt -/

section
variable {s : State} {l r : List Order} {o : Order} {lo hi : Nat}

theorem failedRing_frame (s : State) (o : Order) : failedRing s o = { s.ring with slots := (failedRing s o).slots } := by
  unfold failedRing
  split
  · exact giveUps_frame _ _
  · rfl

/-- The bad slots given up, the others of the window as they were (R69, R10). -/
theorem failedRing_slot (hlaw : s.ring.Law) (hp : s.ring.p ≤ o.first) (he : o.first + o.count ≤ s.ring.e)
    (hbad : BadFrom s o lo hi) (h : s.params.retryLimit ≤ o.attempts) {a : Nat}
    (ha : s.ring.p ≤ a ∧ a < s.ring.p + s.ring.len) : (failedRing s o).slot a =
      if lo ≤ a ∧ a ≤ hi ∧ s.badAt a = true then (s.slot a).givenUp else s.slot a := by
  have hwindow : ∀ x ∈ s.badIn o.first o.count, s.ring.p ≤ x ∧ x < s.ring.p + s.ring.len := fun x hx => by
    obtain ⟨⟨h1, h2⟩, -⟩ := mem_badIn.mp hx
    have := hlaw.2.2.1
    omega
  have hnodup : (s.badIn o.first o.count).Nodup := (badIn_pairwise s o.first o.count).imp Nat.ne_of_lt
  rw [failedRing, if_pos h, giveUps_slot hlaw hwindow hnodup ha]
  simp only [hbad.mem]
  rfl

theorem apart_remains (ha : Apart (l ++ o :: r)) (hbad : BadFrom s o lo hi) : Apart (l ++ remains s o lo hi ++ r) := by
  have hpart := hbad.part o.attempts
  have hcount := ha.2 o (by simp)
  unfold remains
  split
  · simpa using ha.shrink (new := none) fun x hx => nomatch hx
  · simpa using ha.shrink (new := some ⟨lo, hi + 1 - lo, o.attempts, none⟩) fun x hx => by
      cases hx; exact ⟨hpart.first, hpart.last, hpart.count hcount⟩

/-! ### The end of its event -/

/-- The queue that the scan after a failed attempt finds (R73). -/
def judgedAfter (s t : State) (l r : List Order) (o : Order) (lo hi : Nat) : List Order :=
  (l ++ remains s o lo hi ++ r).filterMap (passedBy (playBegins s t) (s.ring.p + 1))

/-- A failed attempt at the end of its event. -/
structure AttemptFailed (s : State) (l r : List Order) (o : Order) (lo hi : Nat) (t : State) : Prop where
  ring : t.ring = failedRing s o
  kept : t.planner.fails = (if s.params.downgradeLimit ≤ s.planner.fails + 1 then 0 else s.planner.fails + 1) ∧
    t.planner.tagCounter = s.planner.tagCounter
  rates : t.rates = failedRates s
  queue : t.planner.queue = scanned t (judgedAfter s t l r o lo hi)
  work : WorkTold (judgedAfter s t l r o lo hi) s t
  told : s.params.retryLimit ≤ o.attempts → ∃ n, ⟨SEvent.slotAbandoned lo hi, n⟩ ∈ t.events.sSet
  counted : Counted s t (failedCount s o lo hi)
  reacts : Reacts s.engine s t
  frame : t.line = s.line ∧ t.intake = s.intake ∧ t.session = s.session ∧ t.power = s.power ∧ t.params = s.params ∧
    t.sPort = s.sPort ∧ t.now = s.now

theorem Fails.p {v : State} (hf : Fails s l r o lo hi v) : v.ring.p = s.ring.p := by rw [hf.ring, failedRing_frame]

/-- The engine reacts to a failed attempt before T, to a queue with its entries apart. -/
theorem Fails.apart {v : State} (hf : Fails s l r o lo hi v) (ha : Apart (l ++ o :: r)) (hbad : BadFrom s o lo hi)
    (hpt : s.ring.p ≠ s.t) : Apart v.planner.queue ∧ v.ring.p ≠ v.t := by
  obtain ⟨-, -, -, -, hsession, -⟩ := hf.frame
  rw [hf.planner, hf.p, t_of_session hsession]
  exact ⟨apart_remains ha hbad, hpt⟩

/-- What the engine then begins goes by the part before the attempt and the slots after it. -/
theorem Fails.begins {v t : State} (hf : Fails s l r o lo hi v) (ht : t.ring = v.ring) :
    starvedEnds v v = starvedEnds s t ∧ primingEnds v v = primingEnds s t ∧ playBegins v v = playBegins s t := by
  obtain ⟨-, hengine, -, -, hsession, -, hparams, -⟩ := hf.frame
  obtain ⟨hstarved, hpriming⟩ := playBegins_congr (t := t) (t' := v) (by rw [hengine]) hf.p hparams hsession ht.symm
  exact ⟨hstarved, hpriming, by rw [playBegins, playBegins, hstarved, hpriming]⟩

theorem attemptFailed_finish {v b : State} (hf : Fails s l r o lo hi v) (ha : Apart (l ++ o :: r))
    (hbad : BadFrom s o lo hi) (hpt : s.ring.p ≠ s.t) (hbq : b.planner.queue = s.planner.queue)
    (hbe : b.events.dSet = s.events.dSet) (port : PortState) :
    AttemptFailed s l r o lo hi { finish b (react v) with dPort := port } := by
  obtain ⟨hva, hvt⟩ := hf.apart ha hbad hpt
  have hreact := reacted_react hva hvt
  have htring : (finish b (react v)).ring = v.ring := by simp [hreact.ring]
  obtain ⟨hstarved, hpriming, hbegins⟩ := hf.begins (t := { finish b (react v) with dPort := port }) htring
  have hp := hf.p
  obtain ⟨hring, hplanner, hrates, ⟨hintake, hengine, hconceal, hline, hsession, hpower, hparams, hsPort, hdPort, hnow⟩,
    hcounted, hset, htold⟩ := hf
  have hjudged : (react v).planner.queue = judgedAfter s { finish b (react v) with dPort := port } l r o lo hi := by
    rw [hreact.planner, judgedAfter, ← hbegins, hp, hplanner]
  have hfinish := finish_planner b (react v)
  have hdue : (react v).planner.scanDue = true := by rw [hreact.planner, hplanner, Bool.true_or]
  have hwork := finish_workTold (s := b) (u := react v) fun x hx => by
    have hv := hset x (by omega)
    rw [hbe, ← hv, hreact.dSet]
    split
    · exact mem_withdrawnTold (by omega) _ _ _
    · rfl
  rw [hjudged] at hfinish hwork
  rw [hdue, if_pos rfl] at hfinish
  refine ⟨htring.trans hring, ?_, ?_, ?_, ⟨fun hw hn => hwork.raised hw (hbq ▸ hn), fun hq x hx hpos => ?_⟩, fun hg => ?_,
    hcounted.congr ((finish_sSet _ _).2.trans hreact.counters) fun _ => rfl, ⟨?_, ?_, fun hb => ?_⟩, ?_⟩
  · refine ⟨(congrArg Planner.fails hfinish).trans ?_, (congrArg Planner.tagCounter hfinish).trans ?_⟩ <;>
      rw [hreact.planner, hplanner]
  · simpa using hrates
  · exact (congrArg Planner.queue hfinish).trans (scan_queue_congr rfl rfl rfl rfl rfl rfl)
  · exact hbe ▸ hwork.quiet (hbq ▸ hq) x hx hpos
  · refine (htold hg).imp fun n hn => ?_
    exact (finish_sSet b (react v)).1 ▸ (mem_react_sSet (by simp [SEvent.pos]) hva hvt).mpr hn
  · rw [← hbegins, ← hengine, ← hreact.engine]
    simp
  · rw [← hstarved, ← hpriming, ← hengine, ← hconceal, ← hparams, ← hreact.conceal]
    simp
  · obtain ⟨n, hn⟩ := hreact.told (hbegins.trans hb)
    rw [hengine] at hn
    exact ⟨n, (finish_sSet b (react v)).1 ▸ hn⟩
  · simp [hline, hreact.intake, hintake, hsession, hpower, hparams, hsPort, hnow]

/-! ### The two commands -/

theorem failAttempt_disposition (ha : Apart (l ++ o :: r)) (hq : s.planner.queue = l ++ o :: r)
    (hbad : BadFrom s o lo hi) : (failAttempt o s).2 = decide (s.params.retryLimit ≤ o.attempts) := by
  by_cases h : s.params.retryLimit ≤ o.attempts
  · rw [failAttempt_given o h, decide_eq_true h]
  · rw [failAttempt_requeued ha hq hbad h, decide_eq_false h]

/-- READ or UNREADABLE with bad slots left is a failed attempt (R68). -/
theorem closeAttempt_failed (ha : Apart (l ++ o :: r)) (hq : s.planner.queue = l ++ o :: r) (hbad : BadFrom s o lo hi)
    {outcome : DoneOutcome} (hout : outcome ≠ .interrupted) : closeAttempt o outcome s =
      (react (failAttempt o s).1, if s.params.retryLimit ≤ o.attempts then 2 else 1) := by
  have hne : (s.badIn o.first o.count).isEmpty = false := by simpa using hbad.badIn_ne
  unfold closeAttempt
  simp only [hne, Bool.false_eq_true, if_false, hout, failAttempt_disposition ha hq hbad, decide_eq_true_eq]
  rfl

/-- So is the timeout with bad slots left (R70). -/
theorem timeoutOrder_failed (hbad : BadFrom s o lo hi) : timeoutOrder o s = react (failAttempt o s).1 := by
  have hne : ¬ (s.badIn o.first o.count).isEmpty = true := by simpa using hbad.badIn_ne
  rw [timeoutOrder, if_neg hne]

end

/-- A command that ends an attempt of `o` in failure: ORDER_DONE of READ or UNREADABLE, or ORDER_TIMEOUT. -/
def EndsAttempt (i : Issue) (out : Byte) (c : Instr) : Prop :=
  c = .orderTimeout ∨ c = .orderDone (goodFrame 0x22 [byteOf i.tag, out]) ∧ (out = 0 ∨ out = 1)

theorem finish_failAttempt_dPort (o : Order) (s b : State) : (finish b (react (failAttempt o s).1)).dPort = s.dPort := by
  simp

/-- Both commands fail the attempt in a part that differs in the D-port and the timebase alone, and end the event. -/
theorem exec_endsAttempt {s : State} {l r : List Order} {o : Order} {i : Issue} {lo hi : Nat} {out : Byte} {c : Instr}
    (hready : s.Ready) (hlaw : QueueLaw s.planner.queue) (hq : s.planner.queue = l ++ o :: r) (hi' : o.issue = some i)
    (hbad : BadFrom s o lo hi) (hc : EndsAttempt i out c) : ∃ (before after : PortState) (n : Nat) (b : State),
      exec c s = .next { finish b (react (failAttempt o { s with dPort := before, now := n }).1) with dPort := after } ∧
      b.planner.queue = s.planner.queue ∧ b.events.dSet = s.events.dSet ∧
      (c = .orderTimeout → n = max s.now i.deadline ∧ after = s.dPort) ∧
      (c ≠ .orderTimeout → n = s.now ∧
        after = answer s .d 2 .ok [0, byteOf i.tag, if s.params.retryLimit ≤ o.attempts then 2 else 1]) := by
  have ha : Apart (l ++ o :: r) := hq ▸ hlaw.apart
  rcases hc with rfl | ⟨rfl, hout⟩
  · have hdPort : _ = s.dPort := finish_failAttempt_dPort o (elapseTo i.deadline s) s
    refine ⟨s.dPort, _, max s.now i.deadline, s, ?_, rfl, rfl, fun _ => ⟨rfl, hdPort⟩, fun hne => absurd rfl hne⟩
    rw [exec_orderTimeout hlaw hq hi', timeoutOrder_failed (s := elapseTo i.deadline s) (hbad.congr rfl)]
    rfl
  · have hread : (outcomeOf out).getD .read ≠ .interrupted := by rcases hout with rfl | rfl <;> decide
    have hdPort := finish_failAttempt_dPort o (sendStatus .d 4 s) (sendStatus .d 4 s)
    refine ⟨(sendStatus .d 4 s).dPort, _, s.now, sendStatus .d 4 s, ?_, rfl, rfl, fun h => (nomatch h),
      fun _ => ⟨rfl, rfl⟩⟩
    rw [exec_orderDone hready _ (by tauto), orderDoneAct_issued (s := sendStatus .d 4 s) hlaw hq hi',
      closeAttempt_failed (s := sendStatus .d 4 s) ha hq (hbad.congr rfl) hread, respondOk_def, respond_d, hdPort]
    rfl

/-- Settles O36: both commands fail the attempt, the engine reacts to the slots given up, and the scan that is then due
ends the event. -/
theorem failedAttemptCounts : Obligations.FailedAttemptCounts := by
  intro s l r o i lo hi c out hready hpt hlaw hring hq hi' hp he h1 h2 h3 h4 h5 h6 hc steps given
  have hlaw := ((plannerLaw_iff _).mp hlaw).1
  have hbad : BadFrom s o lo hi := ⟨h1, h2, h3, h4, h5, h6⟩
  have ha : Apart (l ++ o :: r) := hq ▸ hlaw.apart
  obtain ⟨before, after, n, b, hexec, hbq, hbe, htimeout, hdone⟩ := exec_endsAttempt hready hlaw hq hi' hbad hc
  have hf := fails_failAttempt (s := { s with dPort := before, now := n }) ha hq (hbad.congr rfl)
  have hfailed := attemptFailed_finish hf ha (hbad.congr rfl) hpt hbq hbe after
  have hdown : (rateStepDown { s with dPort := before, now := n }).rates = (rateStepDown s).rates :=
    rateStepDown_rates_congr rfl
  have hslot := fun hg {a} => failedRing_slot hring hp he hbad hg (a := a)
  obtain ⟨htring, ⟨hfails, htag⟩, hrates, hqueue, hwork, htold, hcounted, ⟨hengine, hconceal, hplay⟩,
    ⟨hline, hintake, hsession, hpower, hparams, hsPort, hnow⟩⟩ := hfailed
  rw [failedRates, hdown] at hrates
  unfold failedCount at hcounted
  rw [hdown] at hcounted
  refine ⟨_, hexec, hfails, htag, hrates, ⟨hqueue, ⟨hwork.raised, hwork.quiet⟩⟩, fun hg => ?_, fun hg => ?_, hcounted,
    ⟨hengine, hconceal, hplay⟩, hline, hintake, hsession, hpower, hparams, hsPort, fun h => ?_, fun h => ?_⟩
  · exact htring.trans (if_neg hg)
  · have hframe := htring.trans (failedRing_frame _ o)
    refine ⟨by rw [hframe], by rw [hframe], by rw [hframe], by rw [hframe], fun a hlo hhi => ?_, htold hg⟩
    have hgiven := hslot hg ⟨hlo, hhi⟩
    rw [State.slot, htring]
    refine hgiven.trans ?_
    cases s.slot a <;> rfl
  · obtain ⟨hn, hafter⟩ := htimeout h
    exact ⟨hnow.trans hn, hafter⟩
  · obtain ⟨hn, hafter⟩ := hdone h
    exact ⟨hnow.trans hn, hafter⟩

end Sys2Proof.Machine
end

section
/-! PROOF. The ladder of the offered rates: the highest one under a bound, the next lower and the next higher one
(R80). -/

namespace Sys2Proof.Machine

/-! ### The ladder -/

theorem Rate.code_injective : Function.Injective Rate.code := fun r r' h => by
  cases r <;> cases r' <;> cases h <;> rfl

/-- An offer always holds 1x (R79). -/
theorem mem_ladder {o : Offer} {x : Rate} :
    x ∈ o.ladder ↔ x = .x1 ∨ x = .x2 ∧ o.x2 = true ∨ x = .x4 ∧ o.x4 = true := by
  obtain ⟨x2, x4⟩ := o
  cases x2 <;> cases x4 <;> simp [Offer.ladder]

theorem x1_mem_ladder (o : Offer) : .x1 ∈ o.ladder := List.mem_cons_self

/-- No rate is slower than 1x. -/
theorem Rate.x1_le_code (r : Rate) : Rate.x1.code ≤ r.code := by cases r <;> decide

/-- The ladder goes from the slowest rate to the fastest (R80). -/
theorem ladder_ascends (o : Offer) : o.ladder.Pairwise fun x y => x.code < y.code := by
  obtain ⟨x2, x4⟩ := o
  cases x2 <;> cases x4 <;> decide

/-- A rate of the ladder that meets the condition, and no higher one does. -/
structure Offer.Top (o : Offer) (p : Rate → Prop) (x : Rate) : Prop where
  mem : x ∈ o.ladder
  holds : p x
  above : ∀ y ∈ o.ladder, p y → y.code ≤ x.code

/-- A rate of the ladder that meets the condition, and no lower one does. -/
structure Offer.Bottom (o : Offer) (p : Rate → Prop) (x : Rate) : Prop where
  mem : x ∈ o.ladder
  holds : p x
  below : ∀ y ∈ o.ladder, p y → x.code ≤ y.code

section
variable {o : Offer} {p : Rate → Bool}

theorem top_getLast? {x : Rate} (h : (o.ladder.filter p).getLast? = some x) : o.Top (fun y => p y = true) x := by
  obtain ⟨hmem, hp⟩ := List.mem_filter.mp (List.mem_of_getLast? h)
  refine ⟨hmem, hp, fun y hy hpy => ?_⟩
  obtain ⟨rest, hrest⟩ := List.getLast?_eq_some_iff.mp h
  have hpair := (ladder_ascends o).filter p
  have hy' : y ∈ o.ladder.filter p := List.mem_filter.mpr ⟨hy, hpy⟩
  rw [hrest] at hpair hy'
  rcases List.mem_append.mp hy' with hin | hlast
  · exact ((List.pairwise_append.mp hpair).2.2 y hin x List.mem_cons_self).le
  · rw [List.mem_singleton.mp hlast]

theorem bottom_head? {x : Rate} (h : (o.ladder.filter p).head? = some x) : o.Bottom (fun y => p y = true) x := by
  obtain ⟨hmem, hp⟩ := List.mem_filter.mp (List.mem_of_head? h)
  refine ⟨hmem, hp, fun y hy hpy => ?_⟩
  obtain ⟨rest, hrest⟩ := List.head?_eq_some_iff.mp h
  have hpair := (ladder_ascends o).filter p
  have hy' : y ∈ o.ladder.filter p := List.mem_filter.mpr ⟨hy, hpy⟩
  rw [hrest] at hpair hy'
  rcases List.mem_cons.mp hy' with rfl | hin
  · exact le_refl _
  · exact ((List.pairwise_cons.mp hpair).1 y hin).le

end

/-! ### The agreed rate, a step down, a step up -/

/-- The highest offered rate at or below a rate; 1x is one. -/
theorem top_atMost (o : Offer) (r : Rate) : o.Top (fun y => y.code ≤ r.code) (o.atMost r) := by
  have hne : o.ladder.filter (fun x => x.code ≤ r.code) ≠ [] :=
    List.ne_nil_of_mem (List.mem_filter.mpr ⟨x1_mem_ladder o, decide_eq_true r.x1_le_code⟩)
  have hlast : (o.ladder.filter fun x => x.code ≤ r.code).getLast? = some (o.atMost r) := by
    rw [Offer.atMost, List.getLastD_eq_getLast?, List.getLast?_eq_some_getLast hne, Option.getD_some]
  obtain ⟨hmem, hle, habove⟩ := top_getLast? hlast
  exact ⟨hmem, by simpa using hle, fun y hy hyr => habove y hy (by simpa using hyr)⟩

theorem top_below {o : Offer} {r lower : Rate} (h : o.below r = some lower) :
    o.Top (fun y => y.code < r.code) lower := by
  obtain ⟨hmem, hlt, habove⟩ := top_getLast? h
  exact ⟨hmem, by simpa using hlt, fun y hy hyr => habove y hy (by simpa using hyr)⟩

/-- At 1x there is no step down, and from a faster rate there is one, since 1x is offered (R80). -/
theorem below_eq_none_iff {o : Offer} {r : Rate} : o.below r = none ↔ r = .x1 := by
  rw [Offer.below, List.getLast?_eq_none_iff, List.filter_eq_nil_iff]
  constructor
  · intro h
    have hx1 := h .x1 (x1_mem_ladder o)
    cases r <;> simp_all [Rate.code]
  · rintro rfl y -
    simpa using y.x1_le_code

theorem bottom_above {o : Offer} {r agreed higher : Rate} (h : o.above r agreed = some higher) :
    o.Bottom (fun y => r.code < y.code ∧ y.code ≤ agreed.code) higher := by
  obtain ⟨hmem, hbetween, hbelow⟩ := bottom_head? h
  exact ⟨hmem, by simpa using hbetween, fun y hy hyr => hbelow y hy (by simpa using hyr)⟩

/-- From each rate but 1x there is a step down. -/
theorem exists_below (o : Offer) {r : Rate} (h : r ≠ .x1) :
    ∃ lower, o.below r = some lower ∧ o.Top (fun y => y.code < r.code) lower :=
  (Option.ne_none_iff_exists'.mp (mt below_eq_none_iff.mp h)).imp fun _ hlower => ⟨hlower, top_below hlower⟩

/-- Below an agreed rate of the offer there is a step up, to the next higher rate of the ladder (R80). -/
theorem exists_above {o : Offer} {r agreed : Rate} (hmem : agreed ∈ o.ladder) (h : r.code < agreed.code) :
    ∃ higher, o.above r agreed = some higher ∧ higher.code ≤ agreed.code ∧
      o.Bottom (fun y => r.code < y.code) higher := by
  have hne : o.above r agreed ≠ none := by
    rw [Offer.above, ne_eq, List.head?_eq_none_iff]
    exact List.ne_nil_of_mem (List.mem_filter.mpr ⟨hmem, by simpa using h⟩)
  obtain ⟨higher, hhigher⟩ := Option.ne_none_iff_exists'.mp hne
  obtain ⟨hin, ⟨hup, hbound⟩, hnext⟩ := bottom_above hhigher
  refine ⟨higher, hhigher, hbound, hin, hup, fun x hx hxr => ?_⟩
  rcases le_total x.code agreed.code with hxa | hxa
  · exact hnext x hx ⟨hxr, hxa⟩
  · exact hbound.trans hxa

/-- The effective ceiling bounds the same rates as the parameter, from 1 on (R80). -/
theorem code_le_effectiveCeiling_iff {p : Params} (h : 1 ≤ p.ceiling) (r : Rate) :
    r.code ≤ (effectiveCeiling p).code ↔ r.code ≤ p.ceiling := by
  unfold effectiveCeiling
  split
  · cases r <;> simp only [Rate.code] <;> omega
  split
  · cases r <;> simp only [Rate.code] <;> omega
  · cases r <;> simp only [Rate.code] <;> omega

/-! ### What a change of the rates raises -/

@[simp] theorem setRates_rates (cause : RateCause) (new : Rates) (s : State) : (setRates cause new s).rates = new := by
  rw [(setRates_state cause new s).1]

/-- RATE_CHANGED goes to both ports when a reported rate changes (R89). -/
theorem setRates_events (cause : RateCause) (new : Rates) (s : State) :
    (setRates cause new s).events.sSet = (if s.rates.agreed ≠ new.agreed ∨ s.rates.requested ≠ new.requested
      then latch SEvent.pos (.rateChanged new.agreed new.requested new.state cause) s.events.sSet
      else s.events.sSet) ∧
    (setRates cause new s).events.dSet = (if s.rates.agreed ≠ new.agreed ∨ s.rates.requested ≠ new.requested
      then latch DEvent.pos (.rateChanged new.agreed new.requested new.state cause) s.events.dSet
      else s.events.dSet) := by
  by_cases h : s.rates.agreed = new.agreed ∧ s.rates.requested = new.requested
  · rw [setRates_same h.1 h.2]
    simp [h]
  · rw [setRates_told h, if_pos (by tauto), if_pos (by tauto)]
    exact ⟨rfl, rfl⟩

end Sys2Proof.Machine
end

section
/-! PROOF. RATE_OFFER, STEP_UP and STEP_DOWN (05 sections 5.2, 5.4, 5.5). -/

namespace Sys2Proof.Machine

/-! ### RATE_OFFER -/

/-- The rates that an offer gives (R81). -/
def offeredAgreement (offer : Offer) (s : State) : Agreement :=
  let agreed := offer.atMost (effectiveCeiling s.params)
  ⟨offer, agreed, match s.rates.cap with
    | none => agreed
    | some cap => offer.atMost (if cap.code < agreed.code then cap else agreed)⟩

theorem takeOffer_eq (offer : Offer) (s : State) :
    takeOffer offer s = setRates .offer ⟨some (offeredAgreement offer s), 0, none⟩ s := rfl

theorem offeredAgreement_uncapped {offer : Offer} {s : State} (h : s.rates.cap = none) :
    (offeredAgreement offer s).requested = (offeredAgreement offer s).agreed := by
  simp [offeredAgreement, h]

/-- Under a pending cap the requested rate is the highest one at or below that cap and the agreed rate (R81). -/
theorem top_capped {offer : Offer} {s : State} {cap : Rate} (h : s.rates.cap = some cap) :
    offer.Top (fun y => y.code ≤ min cap.code (offeredAgreement offer s).agreed.code)
      (offeredAgreement offer s).requested := by
  have hmin : (if cap.code < (offeredAgreement offer s).agreed.code then cap
      else (offeredAgreement offer s).agreed).code = min cap.code (offeredAgreement offer s).agreed.code := by
    split <;> omega
  have hreq : (offeredAgreement offer s).requested = offer.atMost (if cap.code < (offeredAgreement offer s).agreed.code
      then cap else (offeredAgreement offer s).agreed) := by
    simp only [offeredAgreement, h]
  rw [hreq, ← hmin]
  exact top_atMost ..

/-- RATE_OFFER in RUNNING runs on the D-port (R81). -/
theorem exec_rateOffer {s : State} (h : s.Ready) (b : Byte) :
    exec (.rateOffer (goodFrame 0x23 [b])) s = .next (rateOfferAct b (sendStatus .d 3 s)) :=
  congrArg Host.Outcome.next (command_ready h .d 0x23 [b] false (by simp) (rateOfferAct b))

/-- Settles O39: both rates are the highest of the ladder under their bounds, and `setRates` tells of a change. -/
theorem rateOfferAgrees : Obligations.RateOfferAgrees := by
  intro b s hready hceiling
  rw [exec_rateOffer hready]
  refine ⟨fun hs => ?_, fun hs => ?_⟩
  · rw [rateOfferAct, if_neg (by simpa using hs)]
    rfl
  intro offered highest
  let u := sendStatus .d 3 s
  let a := offeredAgreement (offerOf b) u
  have hhighest : ∀ {x : Rate} {bound : Nat}, (offerOf b).Top (fun y => y.code ≤ bound) x → highest x bound :=
    fun ⟨hmem, hle, habove⟩ => ⟨mem_ladder.mp hmem, hle, fun y hy => habove y (mem_ladder.mpr hy)⟩
  obtain ⟨hmem, hle, habove⟩ := top_atMost (offerOf b) (effectiveCeiling s.params)
  obtain ⟨hstate, hcounters, -⟩ := setRates_state .offer ⟨some a, 0, none⟩ u
  obtain ⟨hsSet, hdSet⟩ := setRates_events .offer ⟨some a, 0, none⟩ u
  refine ⟨_, a.agreed, a.requested, rfl, hhighest ⟨hmem, ?_, fun y hy hyc => ?_⟩, offeredAgreement_uncapped,
    fun cap hcap => hhighest (top_capped hcap), ?_⟩
  · exact (code_le_effectiveCeiling_iff hceiling _).mp hle
  · exact habove y hy ((code_le_effectiveCeiling_iff hceiling y).mpr hyc)
  · rw [rateOfferAct, if_pos (show u.session.state = .present from hs), takeOffer_eq]
    refine ⟨?_, hcounters, hsSet, hdSet⟩
    rw [hstate]
    rfl

/-! ### STEP_UP and STEP_DOWN -/

theorem limited_iff {r : Rates} {a : Agreement} (h : r.held = some a) :
    r.state = .limited ↔ a.requested ≠ a.agreed := by
  simp only [Rates.state, h]
  split <;> simp_all

theorem requested_held {r : Rates} {a : Agreement} (h : r.held = some a) : r.requested = a.requested := by
  simp only [Rates.requested, h]

/-- The held rates with another requested one and the progress at 0, as a step leaves them. -/
def Rates.stepped (x : Rates) (a : Agreement) (r : Rate) : Rates := ⟨some { a with requested := r }, 0, x.cap⟩

/-- A step of the requested rate is told of on both ports (R89). -/
theorem setRates_stepped {cause : RateCause} {a : Agreement} {r : Rate} {s : State} (ha : s.rates.held = some a)
    (h : a.requested ≠ r) :
    (setRates cause (s.rates.stepped a r) s).events.sSet =
      latch SEvent.pos (.rateChanged a.agreed r (s.rates.stepped a r).state cause) s.events.sSet ∧
    (setRates cause (s.rates.stepped a r) s).events.dSet =
      latch DEvent.pos (.rateChanged a.agreed r (s.rates.stepped a r).state cause) s.events.dSet := by
  obtain ⟨hsSet, hdSet⟩ := setRates_events cause (s.rates.stepped a r) s
  have hmoved : s.rates.requested ≠ (s.rates.stepped a r).requested := by rwa [requested_held ha]
  rw [if_pos (.inr hmoved)] at hsSet hdSet
  exact ⟨hsSet, hdSet⟩

theorem rateStepUp_some {s : State} {a : Agreement} {higher : Rate} (ha : s.rates.held = some a)
    (h : a.offer.above a.requested a.agreed = some higher) :
    rateStepUp s = setRates .upgrade (s.rates.stepped a higher) s := by
  simp only [rateStepUp, ha, h, Rates.stepped]

theorem rateStepDown_some {s : State} {a : Agreement} {lower : Rate} (ha : s.rates.held = some a)
    (h : a.offer.below a.requested = some lower) : rateStepDown s =
      setRates .downgrade (s.rates.stepped a lower) (rise .rateDowngrades 1 s) := by
  simp only [rateStepDown, ha, h, Rates.stepped]

/-- In NONE and at the lowest rate there is no step down (R84). -/
theorem rateStepDown_stays {s : State} (h : ∀ a, s.rates.held = some a → a.requested = .x1) : rateStepDown s = s := by
  unfold rateStepDown
  split
  · rfl
  · rename_i a ha
    rw [below_eq_none_iff.mpr (h a ha)]

theorem judgeUpgrade_due {s : State} (hs : s.rates.state = .limited)
    (hp : s.params.upgradeInterval ≤ s.rates.progress) : judgeUpgrade s = rateStepUp s := if_pos ⟨hs, hp⟩

theorem judgeFails_due {s : State} (h : s.params.downgradeLimit ≤ s.planner.fails) :
    judgeFails s = setFails 0 (rateStepDown s) := if_pos h

theorem exec_stepDown (s : State) : exec .stepDown s = .next (judgeFails s) := rfl

theorem exec_stepUp (s : State) : exec .stepUp s = .next (judgeUpgrade s) := rfl

/-- Settles O40: the ladder gives the next rung in the step's direction, and 1x is the only rate with none below it. -/
theorem rateStepsByOneRung : Obligations.RateStepsByOneRung := by
  rintro s ⟨hlaw, -⟩
  refine ⟨fun a ha hne hp => ?_, fun h => ?_, fun a ha hf => ⟨fun hne => ?_, fun hx1 => ?_⟩, fun hnone hf => ?_,
    fun hf => ?_⟩
  · obtain ⟨hagreed, -, hle, -⟩ := hlaw a ha
    have hlt : a.requested.code < a.agreed.code := lt_of_le_of_ne hle fun h => hne (Rate.code_injective h)
    obtain ⟨higher, hhigher, hbound, hmem, hup, hnext⟩ := exists_above hagreed hlt
    obtain ⟨hstate, hcounters, -⟩ := setRates_state .upgrade (s.rates.stepped a higher) s
    obtain ⟨hsSet, hdSet⟩ := setRates_stepped (cause := .upgrade) ha fun h => hup.ne (congrArg Rate.code h)
    rw [exec_stepUp, judgeUpgrade_due ((limited_iff ha).mpr hne) hp, rateStepUp_some ha hhigher]
    exact ⟨_, higher, rfl, hmem, hup, hbound, hnext, hstate, hcounters, hsSet, hdSet⟩
  · exact congrArg Host.Outcome.next (if_neg (by rcases h with h | h <;> simp [h]))
  · obtain ⟨-, -, hle, -⟩ := hlaw a ha
    obtain ⟨lower, hlower, hmem, hdown, hnext⟩ := exists_below a.offer hne
    have hrisen : (rise .rateDowngrades 1 s).rates = s.rates := by simp
    obtain ⟨hstate, hcounters, -⟩ := setRates_state .downgrade (s.rates.stepped a lower) (rise .rateDowngrades 1 s)
    obtain ⟨hsSet, hdSet⟩ := setRates_stepped (cause := .downgrade) (hrisen ▸ ha)
      fun h => hdown.ne (congrArg Rate.code h).symm
    have hlimited : (s.rates.stepped a lower).state = .limited := (limited_iff rfl).mpr fun h =>
      (hdown.trans_le hle).ne (congrArg Rate.code h)
    rw [hrisen, hlimited] at hsSet hdSet
    rw [rise_dSet] at hdSet
    rw [exec_stepDown, judgeFails_due hf, rateStepDown_some ha hlower]
    refine ⟨_, lower, rfl, hmem, hdown, hnext, ?_, ?_, ?_, hdSet⟩
    · rw [hstate, rise_eq]; rfl
    · exact ((counted_of_counters rfl).rise rfl 1).congr hcounters fun _ => rfl
    · obtain ⟨n, hn⟩ := exists_mem_latch (pos := SEvent.pos) (.rateChanged a.agreed lower .limited .downgrade)
        (rise .rateDowngrades 1 s).events.sSet
      exact ⟨n, hsSet ▸ hn⟩
  · rw [exec_stepDown, judgeFails_due hf, rateStepDown_stays fun b hb => by cases ha.symm.trans hb; exact hx1]
    rfl
  · rw [exec_stepDown, judgeFails_due hf, rateStepDown_stays fun b hb => by cases hnone.symm.trans hb]
    rfl
  · exact congrArg Host.Outcome.next (if_neg (Nat.not_le.mpr hf))

end Sys2Proof.Machine
end

section
/-! PROOF. The rates' laws, kept by each change that the rate agreement unit makes and by what leaves the unit alone
(R79, R80, R83). -/

namespace Sys2Proof.Machine

/-! ### The laws, field by field -/

/-- The rates of an agreement are of its offer, and bounded in turn (R79). -/
def Agreement.Under (p : Params) (a : Agreement) : Prop :=
  a.agreed ∈ a.offer.ladder ∧ a.requested ∈ a.offer.ladder ∧ a.requested.code ≤ a.agreed.code ∧
    a.agreed.code ≤ (effectiveCeiling p).code

theorem ratesLaw_iff {p : Params} {r : Rates} :
    r.Law p ↔ (∀ a, r.held = some a → a.Under p) ∧ (r.state ≠ .limited → r.progress = 0) := .rfl

/-- With the progress at 0 the laws are those of the agreement alone. -/
theorem ratesLaw_of_zero {p : Params} {r : Rates} (hp : r.progress = 0) (h : ∀ a, r.held = some a → a.Under p) :
    r.Law p := ⟨h, fun _ => hp⟩

/-- The laws go by what is held, the progress and the ceiling. -/
theorem ratesLaw_congr {p p' : Params} {r r' : Rates} (hheld : r'.held = r.held) (hprogress : r'.progress = r.progress)
    (hceiling : p'.ceiling = p.ceiling) : r'.Law p' ↔ r.Law p := by
  have hbound : effectiveCeiling p' = effectiveCeiling p := by rw [effectiveCeiling, effectiveCeiling, hceiling]
  have hstate : r'.state = r.state := by rw [Rates.state, Rates.state, hheld]
  rw [ratesLaw_iff, ratesLaw_iff, hheld, hstate, hprogress]
  simp only [Agreement.Under, hbound]

/-! ### Steps that keep the laws -/

/-- What a step, or a part of one, keeps of the rates' laws under the ceiling in force. -/
structure KeepsRates (s t : State) : Prop where
  law : s.rates.Law s.params → t.rates.Law t.params

section
variable {s t u : State}

theorem KeepsRates.refl (s : State) : KeepsRates s s := ⟨id⟩

theorem KeepsRates.trans (h : KeepsRates s t) (h' : KeepsRates t u) : KeepsRates s u :=
  ⟨h'.law ∘ h.law⟩

theorem KeepsRates.of_congr (hheld : t.rates.held = s.rates.held) (hprogress : t.rates.progress = s.rates.progress)
    (hceiling : t.params.ceiling = s.params.ceiling) : KeepsRates s t :=
  ⟨(ratesLaw_congr hheld hprogress hceiling).mpr⟩

/-- The unit and the ceiling left alone. -/
theorem KeepsRates.of_same (h : t.rates = s.rates ∧ t.params = s.params) : KeepsRates s t :=
  .of_congr (by rw [h.1]) (by rw [h.1]) (by rw [h.2])

/-- NONE with the progress at 0, as after a reset (R88). -/
theorem KeepsRates.of_none (hheld : t.rates.held = none) (hprogress : t.rates.progress = 0) : KeepsRates s t :=
  ⟨fun _ => ratesLaw_of_zero hprogress fun a ha => by cases hheld.symm.trans ha⟩

/-- New rates with the progress at 0. -/
theorem keepsRates_setRates {cause : RateCause} {a : Agreement} {cap : Option Rate}
    (h : s.rates.Law s.params → a.Under s.params) : KeepsRates s (setRates cause ⟨some a, 0, cap⟩ s) where
  law hlaw := by
    rw [setRates_rates, show (setRates cause _ s).params = s.params by simp]
    refine ratesLaw_of_zero rfl ?_
    rintro _ ⟨⟩
    exact h hlaw

theorem KeepsRates.finished (h : KeepsRates s t) (b : State) : KeepsRates s (finish b t) :=
  h.trans (.of_same (by simp))

theorem KeepsRates.respond (h : KeepsRates s t) (port : Port) (code : RespCode) (data : List Byte) :
    KeepsRates s (respond port code data t) := h.trans (.of_same (by simp))

/-- The answer at the end of an event. -/
theorem KeepsRates.answered (h : KeepsRates s t) (b : State) (port : Port) (data : List Byte) :
    KeepsRates s (respondOk port data (finish b t)) := (h.finished b).respond ..

end

/-! ### The changes of the unit -/

theorem under_offered (offer : Offer) (s : State) : (offeredAgreement offer s).Under s.params := by
  obtain ⟨hmem, hle, -⟩ := top_atMost offer (effectiveCeiling s.params)
  have hreq : (offeredAgreement offer s).requested ∈ offer.ladder ∧
      (offeredAgreement offer s).requested.code ≤ (offeredAgreement offer s).agreed.code := by
    cases hcap : s.rates.cap with
    | none => rw [offeredAgreement_uncapped hcap]; exact ⟨hmem, le_refl _⟩
    | some cap =>
      obtain ⟨hmem', hle', -⟩ := top_capped (offer := offer) hcap
      exact ⟨hmem', hle'.trans (min_le_right _ _)⟩
  exact ⟨hmem, hreq.1, hreq.2, hle⟩

theorem keepsRates_takeOffer (offer : Offer) (s : State) : KeepsRates s (takeOffer offer s) :=
  keepsRates_setRates fun _ => under_offered offer s

/-- Under a new ceiling both rates come down as far as they must (R83), whatever ceiling they were held under. -/
theorem ratesLaw_applyCeiling {p : Params} {s : State} (h : s.rates.Law p) :
    (applyCeiling s).rates.Law (applyCeiling s).params := by
  obtain ⟨hheld, hprogress⟩ := ratesLaw_iff.mp h
  rw [show (applyCeiling s).params = s.params by simp]
  unfold applyCeiling
  split
  · rename_i hnone
    have hstate : s.rates.state ≠ .limited := by simp [Rates.state, hnone]
    exact ratesLaw_of_zero (hprogress hstate) fun a ha => by cases hnone.symm.trans ha
  · rename_i a ha
    obtain ⟨-, hreq, -, -⟩ := hheld a ha
    obtain ⟨hmem, hle, -⟩ := top_atMost a.offer (effectiveCeiling s.params)
    dsimp only
    rw [setRates_rates, ratesLaw_iff]
    refine ⟨?_, fun hstate => ?_⟩
    · rintro _ ⟨⟩
      refine ⟨hmem, ?_, ?_, hle⟩
      · dsimp only
        split
        · exact hmem
        · exact hreq
      · dsimp only
        split <;> omega
    · rw [ne_eq, limited_iff rfl, not_not] at hstate
      exact if_neg fun hlimited => hlimited.2 hstate

theorem keepsRates_rateStepUp (s : State) : KeepsRates s (rateStepUp s) := by
  unfold rateStepUp
  split
  · exact .refl s
  · rename_i a ha
    split
    · exact ⟨fun h => ratesLaw_of_zero rfl (ratesLaw_iff.mp h).1⟩
    · rename_i higher hhigher
      refine keepsRates_setRates fun h => ?_
      obtain ⟨hagreed, -, -, hceiling⟩ := (ratesLaw_iff.mp h).1 a ha
      obtain ⟨hmem, ⟨-, hbound⟩, -⟩ := bottom_above hhigher
      exact ⟨hagreed, hmem, hbound, hceiling⟩

theorem keepsRates_judgeUpgrade (s : State) : KeepsRates s (judgeUpgrade s) := by
  unfold judgeUpgrade
  split
  · exact keepsRates_rateStepUp s
  · exact .refl s

/-- In LIMITED the progress may count (R85). -/
theorem keepsRates_countUpgrade (s : State) : KeepsRates s (countUpgrade s) := by
  unfold countUpgrade
  split
  · rename_i hlimited
    have hcount : KeepsRates s { s with rates := { s.rates with progress := s.rates.progress + 1 } } :=
      ⟨fun h => ⟨h.1, fun hstate => absurd hlimited hstate⟩⟩
    exact hcount.trans (keepsRates_judgeUpgrade _)
  · exact .refl s

theorem keepsRates_rateStepDown (s : State) : KeepsRates s (rateStepDown s) := by
  unfold rateStepDown
  split
  · exact .refl s
  · rename_i a ha
    split
    · exact .refl s
    · rename_i lower hlower
      have hrise : KeepsRates s (rise .rateDowngrades 1 s) := .of_same (by simp)
      refine hrise.trans (keepsRates_setRates fun h => ?_)
      obtain ⟨hagreed, -, hle, hceiling⟩ := (ratesLaw_iff.mp h).1 a (by simpa using ha)
      obtain ⟨hmem, hdown, -⟩ := top_below hlower
      exact ⟨hagreed, hmem, hdown.le.trans hle, hceiling⟩

theorem keepsRates_judgeFails (s : State) : KeepsRates s (judgeFails s) := by
  unfold judgeFails
  split
  · exact (keepsRates_rateStepDown s).trans (.of_same (by simp))
  · exact .refl s

/-- A counted failure sets the progress to 0 (R68). -/
theorem keepsRates_countFailure (s : State) : KeepsRates s (countFailure s) := by
  have htold : KeepsRates s (failureTold s) := .of_same (by simp [failureTold])
  exact ⟨fun h => ratesLaw_of_zero rfl (ratesLaw_iff.mp ((htold.trans (keepsRates_judgeFails _)).law h)).1⟩

end Sys2Proof.Machine
end

section
/-! PROOF. The composite operations keep the rates' laws: failed attempts, the stream, sessions and CONFIGURE. -/

namespace Sys2Proof.Machine

/-! ### Failed attempts -/

theorem keepsRates_failAttempt (o : Order) (s : State) : KeepsRates s (failAttempt o s).1 := by
  unfold failAttempt
  dsimp only
  split <;> exact (keepsRates_countFailure s).trans (.of_same (by simp))

theorem keepsRates_closeAttempt (o : Order) (outcome : DoneOutcome) (s : State) :
    KeepsRates s (closeAttempt o outcome s).1 := by
  unfold closeAttempt
  dsimp only
  split
  · exact .of_same (by simp)
  split
  · exact .of_same (by simp)
  · exact (keepsRates_failAttempt o s).trans (.of_same (by simp))

theorem keepsRates_timeoutOrder (o : Order) (s : State) : KeepsRates s (timeoutOrder o s) := by
  unfold timeoutOrder
  split
  · exact .of_same (by simp)
  · exact (keepsRates_failAttempt o s).trans (.of_same (by simp))

/-! ### The stream -/

theorem keepsRates_recorded (r : Run) (a : Nat) (b : Block) (s : State) : KeepsRates s (recorded r a b s) := by
  unfold recorded
  exact KeepsRates.trans (.of_same (by simp)) (keepsRates_countUpgrade _)

theorem keepsRates_acceptBlock (r : Run) (a : Nat) (b : Block) (s : State) : KeepsRates s (acceptBlock r a b s) := by
  rw [acceptBlock_eq]
  refine (keepsRates_recorded r a b s).trans ?_
  split <;> exact .of_same (by simp)

theorem keepsRates_seamCheck (a : Nat) (tag : Byte) (b : Block) (s : State) : KeepsRates s (seamCheck a tag b s) := by
  unfold seamCheck
  split
  · dsimp only
    split
    · exact keepsRates_acceptBlock ..
    · exact .of_same (by simp)
  · dsimp only
    split
    · exact keepsRates_acceptBlock ..
    · exact .of_same (by simp)
  · exact KeepsRates.trans (.of_same (by simp)) (keepsRates_acceptBlock ..)

theorem keepsRates_audioBegins (a : Nat) (tag : Byte) (b : Block) (s : State) :
    KeepsRates s (audioBegins a tag b s) := by
  unfold audioBegins
  split
  · exact .of_same (by simp)
  · exact keepsRates_seamCheck ..

theorem keepsRates_audioContinues (r : Run) (a : Nat) (b : Block) (s : State) :
    KeepsRates s (audioContinues r a b s) := by
  unfold audioContinues
  split
  · exact .of_same (by simp)
  · exact keepsRates_acceptBlock ..

theorem keepsRates_audioFrame (h : Header) (b : Block) (s : State) : KeepsRates s (audioFrame h b s) := by
  unfold audioFrame
  split
  · split
    · exact keepsRates_audioBegins ..
    · exact keepsRates_audioContinues ..
  · exact keepsRates_audioBegins ..
  · exact keepsRates_audioContinues ..
  · exact .of_same (by simp)
  · exact .of_same (by simp)
  · exact .of_same (by simp)

/-- PRESENT begins in NONE (R88, R139). -/
theorem enterPresent_rates (d : Directory) (fp : BitVec 32) (s : State) :
    (enterPresent d fp s).rates.held = none ∧ (enterPresent d fp s).rates.progress = 0 := by
  rw [enterPresent_eq]
  unfold startOn
  dsimp only
  split <;> simp [ratesToNone]

theorem keepsRates_takeDirectory (payload : List Byte) (s : State) : KeepsRates s (takeDirectory payload s) := by
  unfold takeDirectory
  split
  · split
    · exact .of_same (by simp)
    · exact .of_none (enterPresent_rates ..).1 (enterPresent_rates ..).2
  · exact .refl s

theorem keepsRates_goodHeaderFrame (h : Header) (payload : List Byte) (s : State) :
    KeepsRates s (goodHeaderFrame h payload s) := by
  unfold goodHeaderFrame
  split
  · split
    · exact keepsRates_takeDirectory payload s
    · exact .of_same (by simp)
  split
  · exact .of_same (by simp)
  split
  · exact .of_same (by simp)
  · exact keepsRates_audioFrame h _ s

theorem keepsRates_cutFrame (ready : Bool) (byte0 : Byte) (s : State) : KeepsRates s (cutFrame ready byte0 s) := by
  unfold cutFrame
  exact .of_same (by simp)

theorem keepsRates_takeMarked (ready : Bool) (bytes : List Byte) (s : State) :
    KeepsRates s (takeMarked ready bytes s) := by
  obtain h | ⟨byte0, -, -, -, h⟩ := takeMarked_cases ready bytes s <;> rw [h]
  · exact .refl s
  · exact keepsRates_cutFrame ready byte0 s

theorem keepsRates_receiveFrame (ready : Bool) (bytes : List Byte) (s : State) :
    KeepsRates s (receiveFrame ready bytes s) := by
  unfold receiveFrame
  extract_lets u low h
  have hu : KeepsRates s u := keepsRates_takeMarked ready bytes s
  refine hu.trans ?_
  split
  · exact .of_same (by simp)
  split
  · exact .of_same (by simp)
  split
  · exact .of_same (by simp)
  have hrx : KeepsRates u (setRx rxHunt u) := .of_same (by simp)
  split
  · have hlost : ∀ v, KeepsRates v (discardEndingRun v) := fun _ => .of_same (by simp)
    exact hrx.trans (hlost _)
  · exact hrx.trans (keepsRates_goodHeaderFrame h _ _)

/-! ### The leave -/

/-- The leave drops the pending cap alone (R82). -/
theorem keepsRates_beginLeave (s : State) : KeepsRates s (beginLeave s) := by
  unfold beginLeave
  exact .of_congr (by simp) (by simp) (by simp)

theorem keepsRates_releaseDisc (s : State) : KeepsRates s (releaseDisc s) := by
  unfold releaseDisc
  split
  · exact .refl s
  · exact .of_same ⟨rfl, rfl⟩
  · exact keepsRates_beginLeave s
  · exact .of_same ⟨rfl, rfl⟩

theorem keepsRates_enterLow (target : LowMode) (s : State) : KeepsRates s (enterLow target s) := by
  unfold enterLow
  extract_lets r w u
  refine .finished ?_ s
  have hu : KeepsRates s u := .of_same (by simp [u, r])
  refine hu.trans ?_
  split
  · exact keepsRates_beginLeave u
  · exact .refl u
  · exact .of_same (by simp)
  · exact .of_same (by simp)

/-! ### Resets and ring clears -/

theorem keepsRates_startClear (msz : BitVec 2) (s : State) : KeepsRates s (startClear msz s) :=
  .of_congr rfl rfl rfl

/-- Every reset leaves the unit in NONE (R88). -/
theorem keepsRates_reset {s t : State} (h : t.rates = ratesReset) : KeepsRates s t :=
  .of_none (by rw [h]; rfl) (by rw [h]; rfl)

/-! ### CONFIGURE -/

theorem keepsRates_foldl {α : Type} (g : State → α → State) (h : ∀ s x, KeepsRates s (g s x)) (l : List α) (s : State) :
    KeepsRates s (l.foldl g s) := by
  induction l generalizing s with
  | nil => exact .refl s
  | cons x l ih => exact (h s x).trans (ih _)

theorem keepsRates_applyThreshold (s : State) : KeepsRates s (applyThreshold s) := by
  unfold applyThreshold
  have hdue : ∀ u, KeepsRates u (dueScan u) := fun _ => .of_same (by simp)
  refine (keepsRates_foldl _ (fun u o => ?_) _ s).trans (hdue _)
  split
  · exact .refl u
  · exact .of_same (by simp)

theorem keepsRates_applyRetryLimit (old : Nat) (s : State) : KeepsRates s (applyRetryLimit old s) := by
  unfold applyRetryLimit
  dsimp only
  split
  · exact .refl s
  · have hreact : ∀ u, KeepsRates u (react u) := fun _ => .of_same (by simp)
    refine (keepsRates_foldl _ (fun u o => ?_) _ s).trans (hreact _)
    split
    · exact .of_same (by simp)
    split
    · exact .of_same (by simp)
    · exact .refl u

theorem keepsRates_applyAlert (s : State) : KeepsRates s (applyAlert s) := by
  unfold applyAlert
  dsimp only
  split
  · exact .of_same (by simp)
  · exact .refl s

/-- Effects on the attention lines alone. -/
theorem keepsRates_applyAttention (old : Params) (s : State) : KeepsRates s (applySMask old s) ∧
    KeepsRates s (applyDMask old s) ∧ KeepsRates s (applySMode old s) ∧ KeepsRates s (applyDMode old s) := by
  unfold applySMask applyDMask applySMode applyDMode
  refine ⟨?_, ?_, ?_, ?_⟩ <;> split <;> exact .of_same ⟨rfl, rfl⟩

/-- A parameter other than the ceiling stored, with an effect that keeps the laws. -/
theorem keepsRates_setParams {p : Params} {s : State} {effect : State → State} (keeps : ∀ u, KeepsRates u (effect u))
    (h : p.ceiling = s.params.ceiling) : KeepsRates s (effect (setParams p s)) :=
  KeepsRates.trans (t := setParams p s) (.of_congr rfl rfl h) (keeps _)

theorem keepsRates_applyParam (i v : Nat) (s : State) : KeepsRates s (applyParam i v s) := by
  unfold applyParam
  dsimp only
  split
  case h_1 => exact keepsRates_setParams (effect := applyStartDepth) (fun _ => .of_same (by simp [applyStartDepth])) rfl
  case h_6 => exact keepsRates_setParams (effect := applyHoleWait) (fun _ => .of_same (by simp [applyHoleWait])) rfl
  case h_7 => exact keepsRates_setParams keepsRates_applyThreshold rfl
  case h_10 => exact keepsRates_setParams (keepsRates_applyRetryLimit _) rfl
  case h_12 => exact keepsRates_setParams keepsRates_judgeFails rfl
  case h_13 => exact keepsRates_setParams (effect := applyInterval) keepsRates_judgeUpgrade rfl
  case h_14 => exact ⟨fun h => ratesLaw_applyCeiling (s := setParams _ s) h⟩
  case h_15 => exact keepsRates_setParams (effect := applyMargin) (fun _ => .of_same (by simp [applyMargin])) rfl
  case h_17 => exact keepsRates_setParams keepsRates_applyAlert rfl
  case h_20 => exact keepsRates_setParams (fun u => (keepsRates_applyAttention s.params u).1) rfl
  case h_21 => exact keepsRates_setParams (fun u => (keepsRates_applyAttention s.params u).2.1) rfl
  case h_22 => exact keepsRates_setParams (fun u => (keepsRates_applyAttention s.params u).2.2.1) rfl
  case h_23 => exact keepsRates_setParams (fun u => (keepsRates_applyAttention s.params u).2.2.2) rfl
  case h_24 => exact .refl s
  all_goals exact keepsRates_setParams (effect := id) .refl rfl

theorem keepsRates_applyPairs (pairs : List (Nat × Nat)) (s : State) : KeepsRates s (applyPairs pairs s).1 := by
  induction pairs generalizing s with
  | nil => exact .refl s
  | cons x rest ih => exact (keepsRates_applyParam x.1 _ s).trans (ih _)

end Sys2Proof.Machine
end

section
/-! PROOF. Every command keeps the rates' laws, and so does every step. -/

namespace Sys2Proof.Machine

/-! ### Transactions on the ports -/

theorem keepsRates_transaction (port : Port) (n : Nat) {act : State → State} (keeps : ∀ u, KeepsRates u (act u))
    (s : State) : KeepsRates s (transaction port n act s) := by
  have hsent : KeepsRates s (sendStatus port (n - 1) s) := .of_same (by simp)
  unfold transaction
  split
  · exact .refl s
  split
  · exact hsent
  split
  · unfold lowPowerBus
    cases port
    · exact .of_same (by simp)
    · exact hsent
  · exact hsent.trans (keeps _)

theorem keepsRates_command (port : Port) (code : Byte) (fr : Frame) (fits early : Bool) {act : State → State}
    (keeps : ∀ u, KeepsRates u (act u)) (s : State) : KeepsRates s (command port code fr fits early act s) := by
  refine keepsRates_transaction port _ (fun u => ?_) s
  split
  · exact .of_same (by simp)
  · exact keeps u

theorem keepsRates_withDisc {port : Port} {act : State → State} (keeps : ∀ u, KeepsRates u (act u)) (s : State) :
    KeepsRates s (withDisc port act s) := by
  unfold withDisc
  split
  · exact keeps s
  · exact .of_same (by simp)

/-! ### Commands of the D-port -/

theorem keepsRates_takeOrderAct (s : State) : KeepsRates s (takeOrderAct s) := by
  unfold takeOrderAct
  split
  · exact .of_same (by simp)
  split
  · exact .of_same (by simp)
  · exact .of_same (by simp [issueOrder])

theorem keepsRates_orderDoneAct (tag : Byte) (outcome : DoneOutcome) (s : State) :
    KeepsRates s (orderDoneAct tag outcome s) := by
  unfold orderDoneAct
  split
  · exact .of_same (by simp)
  split
  · exact (keepsRates_closeAttempt _ outcome s).answered s _ _
  · exact .of_same (by simp)

theorem keepsRates_rateOfferAct (b : Byte) (s : State) : KeepsRates s (rateOfferAct b s) := by
  unfold rateOfferAct
  split
  · exact (keepsRates_takeOffer _ s).respond ..
  · exact .of_same (by simp)

theorem keepsRates_driveRestartAct (s : State) : KeepsRates s (driveRestartAct s) := by
  have hnone : KeepsRates s (scanIfDue (restarted s)) :=
    .of_none (by rw [scanIfDue_restarted]) (by rw [scanIfDue_restarted])
  rw [driveRestartAct_eq]
  refine hnone.trans ?_
  split <;> exact .of_same (by simp)

/-! ### Commands of play -/

theorem keepsRates_playCommand (a f : Nat) (clamped : Bool) (s : State) : KeepsRates s (playCommand a f clamped s) :=
  .of_same (by simp [playCommand])

theorem keepsRates_playProgramAct (params : List Byte) (s : State) : KeepsRates s (playProgramAct params s) := by
  unfold playProgramAct
  split
  · exact .of_same (by simp)
  · exact keepsRates_playCommand ..

theorem keepsRates_pauseAct (s : State) : KeepsRates s (pauseAct s) := by
  unfold pauseAct
  dsimp only
  split <;> exact .of_same (by simp)

theorem keepsRates_resumePaused (s : State) : KeepsRates s (resumePaused s) := by
  unfold resumePaused
  dsimp only
  split
  · exact .of_same (by simp)
  split <;> exact .of_same (by simp)

theorem keepsRates_resumeAct (s : State) : KeepsRates s (resumeAct s) := by
  unfold resumeAct
  split
  · exact (keepsRates_resumePaused s).answered s _ _
  · exact .of_same (by simp)
  · exact .of_same (by simp)

theorem keepsRates_stopPlay (s : State) : KeepsRates s (stopPlay s) := by
  unfold stopPlay
  split <;> exact .of_same (by simp)

theorem keepsRates_stopAct (s : State) : KeepsRates s (stopAct s) := by
  have hint : KeepsRates s (setIntent .stop s) := .of_same (by simp)
  exact (hint.trans (keepsRates_stopPlay _)).answered s _ _

/-! ### Commands of the ports, the session and the mode -/

theorem keepsRates_configureAct (params : List Byte) (s : State) : KeepsRates s (configureAct params s) := by
  unfold configureAct
  dsimp only
  split
  · exact ((keepsRates_applyPairs _ s).finished s).respond ..
  · exact .of_same (by simp)

theorem keepsRates_pollBus (port : Port) (clocked : Nat) (s : State) : KeepsRates s (pollBus port clocked s) := by
  unfold pollBus
  split
  · exact .refl s
  · exact .of_same (by simp)

theorem keepsRates_readEventsAct (port : Port) (s : State) : KeepsRates s (readEventsAct port s) := by
  unfold readEventsAct
  cases port <;> exact .of_same (by simp)

theorem keepsRates_readCountersAct (params : List Byte) (s : State) : KeepsRates s (readCountersAct params s) := by
  unfold readCountersAct
  split <;> exact .of_same (by simp)

theorem keepsRates_queryDirectoryAct (params : List Byte) (s : State) :
    KeepsRates s (queryDirectoryAct params s) := by
  unfold queryDirectoryAct
  split <;> exact .of_same (by simp)

theorem keepsRates_queryResumeAct (params : List Byte) (s : State) : KeepsRates s (queryResumeAct params s) := by
  unfold queryResumeAct
  split <;> exact .of_same (by simp)

theorem keepsRates_forgetResumeAct (params : List Byte) (s : State) : KeepsRates s (forgetResumeAct params s) := by
  unfold forgetResumeAct setTable
  dsimp only
  split
  · exact .of_same (by simp)
  split <;> exact .of_same (by simp)

theorem keepsRates_discLoadedAct (s : State) : KeepsRates s (discLoadedAct s) := by
  unfold discLoadedAct
  split <;> exact .of_same (by simp)

theorem keepsRates_discReleaseAct (s : State) : KeepsRates s (discReleaseAct s) := by
  unfold discReleaseAct
  exact (keepsRates_releaseDisc s).answered s _ _

theorem keepsRates_startAct (s : State) : KeepsRates s (startAct s) := by
  unfold startAct
  split <;> exact .of_same (by simp)

theorem keepsRates_softResetAct (msz : BitVec 2) (dFrame : List Byte) (s : State) :
    KeepsRates s (softResetAct msz dFrame s) := by
  have hreset : KeepsRates s (resetBlocks (dropFrame dFrame s)) := keepsRates_reset rfl
  unfold softResetAct respondOk
  exact (hreset.trans (keepsRates_startClear msz _)).respond ..

/-! ### Commands of the supply, the lines and the timers -/

/-- A command ends in a next state that keeps the rates' laws. -/
def EndsRated (o : Host.Outcome State Fault Refusal) (s : State) : Prop := ∃ t, o = .next t ∧ KeepsRates s t

theorem KeepsRates.ends {s t : State} (h : KeepsRates s t) : EndsRated (.next t) s := ⟨t, rfl, h⟩

theorem endsRated_powerOn (msz : BitVec 2) (s : State) : EndsRated (execPowerOn msz s) s := by
  refine ⟨_, rfl, ?_⟩
  unfold clearAfterReset
  split <;> exact keepsRates_reset rfl

theorem endsRated_powerLost (s : State) : EndsRated (execPowerLost s) s := by
  unfold execPowerLost
  split
  · exact (KeepsRates.refl s).ends
  · exact ⟨_, rfl, keepsRates_reset rfl⟩

theorem endsRated_resetLineAsserted (s : State) : EndsRated (execResetLineAsserted s) s := by
  refine ⟨_, rfl, ?_⟩
  dsimp only
  split
  · exact keepsRates_reset rfl
  · exact .of_same ⟨rfl, rfl⟩

theorem endsRated_resetLineReleased (msz : BitVec 2) (s : State) : EndsRated (execResetLineReleased msz s) s := by
  refine ⟨_, rfl, ?_⟩
  dsimp only
  split
  · exact keepsRates_reset rfl
  · exact .of_same ⟨rfl, rfl⟩

theorem endsRated_ringClearEnd (s : State) : EndsRated (execRingClearEnd s) s := by
  unfold execRingClearEnd
  split
  · exact (KeepsRates.refl s).ends
  · refine ⟨_, rfl, .finished ?_ s⟩
    dsimp only
    split <;> exact .of_same (by simp)

theorem endsRated_streamFrame (ready : Bool) (bytes : List Byte) (s : State) :
    EndsRated (execStreamFrame ready bytes s) s := by
  unfold execStreamFrame
  split
  · exact (KeepsRates.refl s).ends
  · exact ((keepsRates_receiveFrame ready bytes s).finished s).ends

theorem endsRated_frameCutShort (ready : Bool) (byte0 : Byte) (s : State) :
    EndsRated (execFrameCutShort ready byte0 s) s := by
  unfold execFrameCutShort
  split
  · exact (KeepsRates.refl s).ends
  · exact ((keepsRates_cutFrame ready byte0 s).finished s).ends

theorem endsRated_frameClock (s : State) : EndsRated (execFrameClock s) s := by
  unfold execFrameClock
  split
  · exact (KeepsRates.refl s).ends
  · refine ⟨_, rfl, .finished ?_ s⟩
    dsimp only
    split <;> exact .of_same (by simp)

theorem endsRated_fillStalled (s : State) : EndsRated (execFillStalled s) s := by
  unfold execFillStalled
  split
  · exact (KeepsRates.refl s).ends
  dsimp only
  split
  · exact (KeepsRates.refl s).ends
  · exact ⟨_, rfl, .of_same (by simp)⟩

theorem endsRated_orderTimeout (s : State) : EndsRated (execOrderTimeout s) s := by
  unfold execOrderTimeout
  split
  · rename_i i _
    have hlate : KeepsRates s (elapseTo i.deadline s) := .of_same (by simp)
    exact ((hlate.trans (keepsRates_timeoutOrder _ _)).finished s).ends
  · exact (KeepsRates.refl s).ends

theorem endsRated_identifyTimerExpiry (s : State) : EndsRated (execIdentifyTimerExpiry s) s := by
  unfold execIdentifyTimerExpiry
  split
  · exact (KeepsRates.refl s).ends
  dsimp only
  split
  · exact (KeepsRates.refl s).ends
  · exact ⟨_, rfl, .of_same (by simp)⟩

theorem keepsRates_trayActs (old : Option Tray) (s : State) : KeepsRates s (trayActs old s) := by
  unfold trayActs
  split
  · exact .refl s
  · exact keepsRates_releaseDisc s
  · exact .of_same (by simp)
  · exact .of_same (by simp)
  · exact .of_same (by simp)
  · exact .refl s

theorem endsRated_trayDebounced (s : State) : EndsRated (execTrayDebounced s) s := by
  unfold execTrayDebounced
  split
  · exact (KeepsRates.refl s).ends
  · refine ⟨_, rfl, ?_⟩
    dsimp only
    split
    · exact .of_same (by simp)
    · exact .finished (KeepsRates.trans (.of_same (by simp)) (keepsRates_trayActs _ _)) s

theorem endsRated_wakeEdge (s : State) : EndsRated (execWakeEdge s) s := by
  refine ⟨_, rfl, ?_⟩
  split
  · exact .of_same (by simp)
  · exact .refl s

theorem endsRated_wakeDelayEnd (msz : BitVec 2) (s : State) : EndsRated (execWakeDelayEnd msz s) s := by
  unfold execWakeDelayEnd
  split
  · exact ⟨_, rfl, .of_same (by simp)⟩
  · have hlate : KeepsRates s (elapseTo (s.power.wakeStart + 3000) s) := .of_same (by simp)
    exact ⟨_, rfl, hlate.trans (keepsRates_startClear msz _)⟩
  · exact (KeepsRates.refl s).ends

theorem endsRated_holdFadeWatchdog (s : State) : EndsRated (execHoldFadeWatchdog s) s := by
  unfold execHoldFadeWatchdog
  split
  · exact ⟨_, rfl, .of_same (by simp)⟩
  · exact (KeepsRates.refl s).ends

theorem endsRated_attentionPulseEnd (port : Port) (s : State) : EndsRated (execAttentionPulseEnd port s) s := by
  unfold execAttentionPulseEnd
  split
  · exact ⟨_, rfl, .of_same (by simp)⟩
  · exact ⟨_, rfl, .of_same (by simp)⟩
  · exact (KeepsRates.refl s).ends

theorem endsRated_trayLineChange (level : Tray) (s : State) : EndsRated (execTrayLineChange level s) s := by
  refine ⟨_, rfl, ?_⟩
  split
  · exact .refl s
  · exact .of_same ⟨rfl, rfl⟩

theorem endsRated_unknownCommand (port : Port) (code : Byte) (fr : Frame) (s : State) :
    EndsRated (execUnknownCommand port code fr s) s := by
  refine (keepsRates_transaction port _ (fun u => ?_) s).ends
  split
  · exact .of_same (by simp)
  · exact .refl u

/-! ### Every command -/

/-- A port command ends in the rates' laws when what it does, once taken, keeps them. -/
theorem endsRated_command {port : Port} {code : Byte} {fr : Frame} {fits early : Bool} {act : State → State}
    {s : State} (keeps : ∀ u, KeepsRates u (act u)) : EndsRated (.next (command port code fr fits early act s)) s :=
  (keepsRates_command port code fr fits early keeps s).ends

/-- Each command of the table keeps the rates' laws. -/
theorem endsRated_exec (c : Instr) (s : State) : EndsRated (exec c s) s := by
  cases c with
  | powerOn msz => exact endsRated_powerOn msz s
  | resetLineAsserted => exact endsRated_resetLineAsserted s
  | resetLineReleased msz => exact endsRated_resetLineReleased msz s
  | ringClearEnd => exact endsRated_ringClearEnd s
  | streamFrame ready bytes => exact endsRated_streamFrame ready bytes s
  | frameCutShort ready byte0 => exact endsRated_frameCutShort ready byte0 s
  | stepUp => exact (keepsRates_judgeUpgrade s).ends
  | stepDown => exact (keepsRates_judgeFails s).ends
  | frameClock => exact endsRated_frameClock s
  | holeWaitExpiry => exact KeepsRates.ends (t := finish s (judgeHoleWait s)) (.of_same (by simp))
  | fillStalled => exact endsRated_fillStalled s
  | orderTimeout => exact endsRated_orderTimeout s
  | identifyTimerExpiry => exact endsRated_identifyTimerExpiry s
  | trayDebounced => exact endsRated_trayDebounced s
  | wakeEdge => exact endsRated_wakeEdge s
  | wakeDelayEnd msz => exact endsRated_wakeDelayEnd msz s
  | holdFadeWatchdog => exact endsRated_holdFadeWatchdog s
  | attentionPulseEnd port => exact endsRated_attentionPulseEnd port s
  | poll port clocked => exact (keepsRates_transaction port _ (keepsRates_pollBus port clocked) s).ends
  | transactionCutShort port bytes => exact (keepsRates_transaction port _ (fun _ => .of_same (by simp)) s).ends
  | unknownCommand port code fr => exact endsRated_unknownCommand port code fr s
  | lowPowerTransaction port clocked => exact (keepsRates_transaction port _ .refl s).ends
  | start fr => exact endsRated_command keepsRates_startAct
  | configure fr => exact endsRated_command (keepsRates_configureAct _)
  | softReset msz fr => exact endsRated_command (keepsRates_softResetAct msz _)
  | queryStatus fr => exact endsRated_command fun _ => .of_same (by simp)
  | readEvents port fr => exact endsRated_command (keepsRates_readEventsAct port)
  | readCounters fr => exact endsRated_command (keepsRates_readCountersAct _)
  | queryPosition fr => exact endsRated_command fun _ => .of_same (by simp)
  | playAt fr => exact endsRated_command (keepsRates_withDisc fun u => keepsRates_playCommand _ _ _ u)
  | playProgram fr => exact endsRated_command (keepsRates_withDisc (keepsRates_playProgramAct _))
  | pause fr => exact endsRated_command (keepsRates_withDisc keepsRates_pauseAct)
  | resume fr => exact endsRated_command (keepsRates_withDisc keepsRates_resumeAct)
  | stop fr => exact endsRated_command (keepsRates_withDisc keepsRates_stopAct)
  | discLoaded fr => exact endsRated_command keepsRates_discLoadedAct
  | discRelease fr => exact endsRated_command keepsRates_discReleaseAct
  | queryDirectory fr => exact endsRated_command (keepsRates_withDisc (keepsRates_queryDirectoryAct _))
  | queryResume fr => exact endsRated_command (keepsRates_queryResumeAct _)
  | forgetResume fr => exact endsRated_command (keepsRates_forgetResumeAct _)
  | hold fr => exact endsRated_command (keepsRates_enterLow .held)
  | sleep fr => exact endsRated_command (keepsRates_enterLow .sleeping)
  | takeOrder fr => exact endsRated_command keepsRates_takeOrderAct
  | orderDone fr => exact endsRated_command (keepsRates_orderDoneAct _ _)
  | rateOffer fr => exact endsRated_command (keepsRates_rateOfferAct _)
  | skipNotice fr => exact endsRated_command (act := skipNoticeAct) fun _ => .of_same (by simp [skipNoticeAct])
  | driveRestart fr => exact endsRated_command keepsRates_driveRestartAct
  | queryPlan fr => exact endsRated_command fun _ => .of_same (by simp)
  | powerLost => exact endsRated_powerLost s
  | trayLineChange level => exact endsRated_trayLineChange level s

theorem keepsRates_step {s t : State} (h : step s = .next t) : KeepsRates s t := by
  unfold step at h
  split at h
  · cases h
    exact .of_same ⟨rfl, rfl⟩
  · rename_i c rest _
    obtain ⟨u, hu, hkept⟩ := endsRated_exec c { s with pending := rest }
    cases hu.symm.trans h
    have hpopped : KeepsRates s { s with pending := rest } := .of_same ⟨rfl, rfl⟩
    exact hpopped.trans hkept

/-- Settles O56: the unit's own changes stay on the ladder, a new ceiling takes both rates down, and each reset goes to
NONE; no other command moves the rates or the ceiling. -/
theorem stepKeepsRatesLaw : Obligations.StepKeepsRatesLaw := fun _ _ h => (keepsRates_step h).law

end Sys2Proof.Machine
end

section
/-! PROOF. The timers that fire once, the attention lines (R102, R136, R159, R160), and the S-port commands that leave
play as it is (R104, R107 to R109, R113, R145). -/

namespace Sys2Proof.Machine

/-! ### Events and the attention lines (R159, R160) -/

theorem isLatched_iff {α : Type} {pos : α → Nat} {n : Nat} {l : List (Latched α)} :
    isLatched pos n l = true ↔ ∃ x ∈ l, pos x.ev = n := by
  simp [isLatched]

theorem sPending_iff (s : State) :
    s.eventsPending .s = true ↔ ∃ x ∈ s.events.sSet, s.params.sMask.getLsbD x.ev.pos = false := by
  simp [State.eventsPending, sMasked]

theorem dPending_iff (s : State) :
    s.eventsPending .d = true ↔ ∃ x ∈ s.events.dSet, s.params.dMask.getLsbD x.ev.pos = false := by
  simp [State.eventsPending, dMasked]

section
variable {s : State} (hpow : s.power.powered = true) (hreset : s.power.resetLine = false)
include hpow hreset

theorem sAttention_level (h : s.params.sMode = .level) : s.attention .s = s.eventsPending .s := by
  simp [State.attention, hpow, hreset, h]

theorem sAttention_pulse (h : s.params.sMode = .pulse) : s.attention .s = s.events.sPulse.isSome := by
  simp [State.attention, hpow, hreset, h]

theorem dAttention_level (h : s.params.dMode = .level) : s.attention .d = s.eventsPending .d := by
  simp [State.attention, hpow, hreset, h]

theorem dAttention_pulse (h : s.params.dMode = .pulse) : s.attention .d = s.events.dPulse.isSome := by
  simp [State.attention, hpow, hreset, h]

end

/-- A pulse goes on as it is for a masked event, in LEVEL mode and for a repeat. -/
theorem raiseS_pulse_stays {e : SEvent} {s : State} (h : s.params.sMask.getLsbD e.pos = true ∨ s.params.sMode = .level ∨
    ∃ x ∈ s.events.sSet, x.ev.pos = e.pos) : (raiseS e s).events.sPulse = s.events.sPulse := by
  refine if_neg fun hstart => ?_
  simp only [sMasked, Bool.and_eq_true, Bool.not_eq_true', decide_eq_true_eq] at hstart
  obtain ⟨⟨hmode, hmask⟩, hfresh⟩ := hstart
  rcases h with h | h | h
  · simp [h] at hmask
  · simp [h] at hmode
  · simp [isLatched_iff.mpr h] at hfresh

theorem raiseD_pulse_stays {e : DEvent} {s : State} (h : s.params.dMask.getLsbD e.pos = true ∨ s.params.dMode = .level ∨
    ∃ x ∈ s.events.dSet, x.ev.pos = e.pos) : (raiseD e s).events.dPulse = s.events.dPulse := by
  refine if_neg fun hstart => ?_
  simp only [dMasked, Bool.and_eq_true, Bool.not_eq_true', decide_eq_true_eq] at hstart
  obtain ⟨⟨hmode, hmask⟩, hfresh⟩ := hstart
  rcases h with h | h | h
  · simp [h] at hmask
  · simp [h] at hmode
  · simp [isLatched_iff.mpr h] at hfresh

/-- A fresh unmasked event starts a pulse in PULSE mode. -/
theorem raiseS_pulse_starts {e : SEvent} {s : State} (hmask : s.params.sMask.getLsbD e.pos = false)
    (hmode : s.params.sMode = .pulse) (hfresh : ¬ ∃ x ∈ s.events.sSet, x.ev.pos = e.pos) :
    (raiseS e s).events.sPulse = some s.now :=
  if_pos (by simp [sMasked, hmask, hmode, Bool.eq_false_iff.mpr (mt isLatched_iff.mp hfresh)])

theorem raiseD_pulse_starts {e : DEvent} {s : State} (hmask : s.params.dMask.getLsbD e.pos = false)
    (hmode : s.params.dMode = .pulse) (hfresh : ¬ ∃ x ∈ s.events.dSet, x.ev.pos = e.pos) :
    (raiseD e s).events.dPulse = some s.now :=
  if_pos (by simp [dMasked, hmask, hmode, Bool.eq_false_iff.mpr (mt isLatched_iff.mp hfresh)])

/-- Settles O10: each timer's row by its flag, and the attention lines by their mode. -/
theorem timersFireOnce : Obligations.TimersFireOnce := by
  refine ⟨fun s k hk => ⟨fun hflag => ?_, fun hflag => ?_⟩, fun s k hk => ⟨fun hflag => ?_, fun hflag => ?_⟩,
    fun s since => ⟨fun hs => ?_, fun hd => ?_⟩, fun s hpow hreset => ⟨fun e => ?_, fun e => ?_, fun hm => ?_, fun hm => ?_,
      fun hm => ?_, fun hm => ?_⟩⟩
  · show ∃ t, execFillStalled s = .next t ∧ _
    simp only [execFillStalled, hk, hflag]
    exact ⟨_, rfl, rfl, rfl, rfl, rfl⟩
  · show execFillStalled s = _
    simp only [execFillStalled, hk, hflag, if_true]
  · show ∃ t, execIdentifyTimerExpiry s = .next t ∧ _
    simp only [execIdentifyTimerExpiry, hk, hflag]
    exact ⟨_, rfl, rfl, rfl, rfl, rfl⟩
  · show execIdentifyTimerExpiry s = _
    simp only [execIdentifyTimerExpiry, hk, hflag, if_true]
  · show execAttentionPulseEnd .s s = _
    simp only [execAttentionPulseEnd, hs]
    rfl
  · show execAttentionPulseEnd .d s = _
    simp only [execAttentionPulseEnd, hd]
    rfl
  · refine ⟨rfl, rfl, rfl, rfl, rfl, exists_mem_latch .., raiseS_pulse_stays, fun hmask hmode hfresh => ?_,
      fun hmask hmode => ?_⟩
    · have hstart := raiseS_pulse_starts hmask hmode hfresh
      exact ⟨hstart, by rw [sAttention_pulse (s := raiseS e s) hpow hreset hmode, hstart]; rfl⟩
    · obtain ⟨n, hn⟩ := exists_mem_latch (pos := SEvent.pos) e s.events.sSet
      exact (sAttention_level (s := raiseS e s) hpow hreset hmode).trans ((sPending_iff _).mpr ⟨⟨e, n⟩, hn, hmask⟩)
  · refine ⟨rfl, rfl, rfl, rfl, rfl, exists_mem_latch .., raiseD_pulse_stays, fun hmask hmode hfresh => ?_,
      fun hmask hmode => ?_⟩
    · have hstart := raiseD_pulse_starts hmask hmode hfresh
      exact ⟨hstart, by rw [dAttention_pulse (s := raiseD e s) hpow hreset hmode, hstart]; rfl⟩
    · obtain ⟨n, hn⟩ := exists_mem_latch (pos := DEvent.pos) e s.events.dSet
      exact (dAttention_level (s := raiseD e s) hpow hreset hmode).trans ((dPending_iff _).mpr ⟨⟨e, n⟩, hn, hmask⟩)
  · rw [sAttention_level hpow hreset hm, sPending_iff]
  · rw [dAttention_level hpow hreset hm, dPending_iff]
  · rw [sAttention_pulse hpow hreset hm, Option.isSome_iff_ne_none]
  · rw [dAttention_pulse hpow hreset hm, Option.isSome_iff_ne_none]

/-! ### QUERY_POSITION, and NO_DISC -/

/-- Settles O18: the command reaches its answer, whose bytes are those of R158. -/
theorem queryPositionReports : Obligations.QueryPositionReports := fun s h => by
  have hexec : exec (.queryPosition (goodFrame 0x07 [])) s =
      .next (respondOk .s (positionData (sendStatus .s 2 s)) (sendStatus .s 2 s)) :=
    congrArg Host.Outcome.next (command_ready h .s 0x07 [] false (by decide) fun s => respondOk .s (positionData s) s)
  rw [hexec]
  rfl

/-- Outside PRESENT a command that needs the disc is refused. -/
theorem command_noDisc {s : State} (h : s.Ready) (hs : s.session.state ≠ .present) (code : Byte) (params : List Byte)
    (early : Bool) (hn : params.length ≤ 32) (act : State → State) :
    command .s code (goodFrame code params) true early (withDisc .s act) s =
      { s with sPort := answer s .s params.length .noDisc [0] } := by
  rw [command_ready h .s code params early hn, withDisc_absent (by simpa using hs)]
  rfl

/-- Settles O28: the frames fit, and each command asks for the disc first. -/
theorem noDiscOutsidePresent : Obligations.NoDiscOutsidePresent := fun s params h hs => by
  have refused : ∀ {code : Byte} {params : List Byte} {n : Nat} (act : State → State), n ≤ 32 → params.length = n →
      command .s code (goodFrame code params) (frameN (goodFrame code params) == n) false (withDisc .s act) s =
        { s with sPort := answer s .s n .noDisc [0] } := fun {code params n} act h32 hn => by
    subst hn
    rw [goodFrame_n, beq_self_eq_true]
    exact command_noDisc h hs code params false h32 act
  exact ⟨fun hn => congrArg _ (refused _ (by decide) hn),
    fun hn => ⟨congrArg _ (refused _ (by decide) hn), congrArg _ (refused _ (by decide) hn)⟩,
    congrArg _ (refused _ (by decide) rfl), congrArg _ (refused _ (by decide) rfl), congrArg _ (refused _ (by decide) rfl)⟩

end Sys2Proof.Machine
end

section
/-! PROOF. What an event adds to the S-port's set, and the flush of the ring (R15, R16, R76, R96, R109). -/

namespace Sys2Proof.Machine

/-! ### Positions that an operation may raise -/

/-- From `s` to `t` the S-port's set changes at the positions `ps` alone. -/
def RaisesWithin (ps : List Nat) (s t : State) : Prop :=
  ∀ x : Latched SEvent, x.ev.pos ∉ ps → (x ∈ t.events.sSet ↔ x ∈ s.events.sSet)

section
variable {ps qs : List Nat} {s t u : State}

theorem RaisesWithin.of_sSet (h : t.events.sSet = s.events.sSet) : RaisesWithin ps s t := fun _ _ => by rw [h]

theorem RaisesWithin.trans (h : RaisesWithin ps s t) (h' : RaisesWithin ps t u) : RaisesWithin ps s u :=
  fun x hx => (h' x hx).trans (h x hx)

theorem RaisesWithin.mono (h : RaisesWithin ps s t) (hps : ps ⊆ qs) : RaisesWithin qs s t :=
  fun x hx => h x fun hin => hx (hps hin)

/-- A record at another position stays. -/
theorem RaisesWithin.keeps (h : RaisesWithin ps s t) {e : SEvent} (he : e.pos ∉ ps)
    (htold : ∃ n, ⟨e, n⟩ ∈ s.events.sSet) : ∃ n, ⟨e, n⟩ ∈ t.events.sSet :=
  htold.imp fun _ hn => (h _ he).mpr hn

theorem raisesWithin_raiseS {e : SEvent} (he : e.pos ∈ ps) (s : State) : RaisesWithin ps s (raiseS e s) :=
  fun x hx => mem_latch_other (e := e) (fun heq : x.ev.pos = e.pos => hx (heq ▸ he)) _

theorem raisesWithin_rise (h : 13 ∈ ps) (c : CounterId) (n : Nat) (s : State) : RaisesWithin ps s (rise c n s) :=
  fun _ hx => mem_rise_sSet (fun heq => hx (heq ▸ h)) c n s

theorem raisesWithin_setPlay (h : 0 ∈ ps) (p : Play) (s : State) : RaisesWithin ps s (setPlay p s) :=
  fun _ hx => mem_setPlay_sSet (fun heq => hx (heq ▸ h)) p s

theorem raisesWithin_judgeProgram (h : 1 ∈ ps) (s : State) : RaisesWithin ps s (judgeProgram s) :=
  fun _ hx => mem_judgeProgram_sSet (fun heq => hx (heq ▸ h)) s

end

/-- The program number told in a part of an event, from `w` to `v`, with nothing of it before and behind (R96). -/
theorem ProgramTold.within {s w v t : State} (h : ProgramTold w v) (hbefore : w.engine.program = s.engine.program)
    (hbeforeS : ∀ x : Latched SEvent, x.ev.pos = 1 → (x ∈ w.events.sSet ↔ x ∈ s.events.sSet))
    (hprogram : t.engine.program = v.engine.program) (hsession : t.session = v.session) (hp : t.ring.p = v.ring.p)
    (hafter : ∀ x : Latched SEvent, x.ev.pos = 1 → (x ∈ t.events.sSet ↔ x ∈ v.events.sSet)) : ProgramTold s t := by
  obtain ⟨hnumber, hraised, hquiet⟩ := h
  rw [hbefore] at hraised hquiet
  refine ⟨by rw [hprogram, hnumber, programNow_congr hsession hp], fun hne => ?_, fun heq x hx hpos => ?_⟩
  · rw [hprogram] at hne ⊢
    rw [hp]
    exact (hraised hne).imp fun n hn => (hafter _ rfl).mpr hn
  · rw [hprogram] at heq
    exact (hbeforeS x hpos).mp (hquiet heq x ((hafter x hpos).mp hx) hpos)

/-! ### The queue emptied, the ring flushed -/

theorem emptyQueue_eq (s : State) : emptyQueue s =
    { s with planner := { s.planner with queue := [], tagCounter := 0 }, events := (emptyQueue s).events } := by
  unfold emptyQueue; dsimp only; split <;> rfl

@[simp] theorem emptyQueue_rest (s : State) : (emptyQueue s).events.sSet = s.events.sSet ∧
    (emptyQueue s).events.counters = s.events.counters := by
  unfold emptyQueue; dsimp only; split <;> exact ⟨rfl, rfl⟩

/-- ORDER_WITHDRAWN tells of the ISSUED entry, and of no other (R76). -/
theorem emptyQueue_dSet (s : State) : (emptyQueue s).events.dSet = emptiedTold s.planner.queue s.events.dSet := by
  have hfind : s.planner.issuedEntry = s.planner.queue.find? fun o => o.issue.isSome := rfl
  unfold emptyQueue emptiedTold
  rw [hfind]
  cases s.planner.queue.find? fun o => o.issue.isSome with
  | none => rfl
  | some o => simp only [raiseD_dSet, toldTag_eq]

/-- The flush leaves an empty ring, tells of the queue that it empties and judges the program number (R15, R76, R96). -/
theorem flush_emptied (a : Nat) (s : State) :
    flush a s = judgeProgram { emptied a s with events := (emptyQueue s).events } := by
  have hempty : ∀ r : Ring, emptyQueue { s with ring := r } = { s with
      ring := r, planner := { s.planner with queue := [], tagCounter := 0 }, events := (emptyQueue s).events } := fun r => by
    rw [emptyQueue_eq]
    unfold emptyQueue
    dsimp only
    split <;> rfl
  have hlow : ∀ u : State, u.ring.fullness = 0 → judgeLatchLow u = { u with intake := { u.intake with latch := false } } :=
    fun u hu => if_pos (by omega)
  unfold flush
  rw [hempty, hlow]
  · rfl
  · exact Nat.sub_self a

/-- What a flush leaves and tells. -/
structure Flushes (a : Nat) (s t : State) : Prop where
  state : t = { emptied a s with
    engine := { (emptied a s).engine with program := (emptied a s).programNow }, events := t.events }
  dSet : t.events.dSet = emptiedTold s.planner.queue s.events.dSet
  counters : t.events.counters = s.events.counters
  sSet : RaisesWithin [1] s t
  still : (emptied a s).programNow = s.engine.program → t.events.sSet = s.events.sSet
  program : ProgramTold s t

theorem flushes_flush (a : Nat) (s : State) : Flushes a s (flush a s) := by
  have hmid : (emptyQueue s).events.sSet = s.events.sSet := (emptyQueue_rest s).1
  rw [flush_emptied]
  refine ⟨judgeProgram_eq _, ?_, ?_, ?_, fun h => ?_, ?_⟩
  · rw [(judgeProgram_rest _).1]; exact emptyQueue_dSet s
  · rw [(judgeProgram_rest _).2]; exact (emptyQueue_rest s).2
  · exact (RaisesWithin.of_sSet (t := { emptied a s with events := (emptyQueue s).events }) hmid).trans
      (raisesWithin_judgeProgram (by decide) _)
  · rw [judgeProgram_same (s := { emptied a s with events := (emptyQueue s).events }) h]; exact hmid
  · exact (judgeProgram_told { emptied a s with events := (emptyQueue s).events }).within rfl (fun x _ => by rw [← hmid])
      rfl rfl rfl fun _ _ => .rfl

/-! ### STOPPED (R109) -/

/-- What the entry to STOPPED leaves and tells. -/
structure Stops (s t : State) : Prop where
  state : t = { emptied s.ring.p s with
    engine := { s.engine with
      play := .stopped, f := 0, slotOpen := false, holeWait := 0, stall := none, anticipate := false
      program := s.programNow }
    conceal := { s.conceal with left := channelReset, right := channelReset, gp := 0, gpTarget := 0 }
    events := t.events }
  dSet : t.events.dSet = emptiedTold s.planner.queue s.events.dSet
  counters : t.events.counters = s.events.counters
  sSet : RaisesWithin [0, 1, 2] s t
  still : s.programNow = s.engine.program → RaisesWithin [0, 2] s t
  told : s.engine.play ≠ .stopped → ∃ n, ⟨SEvent.playStateChanged .stopped s.engine.intent, n⟩ ∈ t.events.sSet
  program : ProgramTold s t

theorem stops_enterStopped (s : State) : Stops s (enterStopped s) := by
  have hdef : enterStopped s = setPlayGain 0 0 (setFrame 0 (flush s.ring.p (dropWaits (setPlay .stopped s)))) := rfl
  have hdrop : RaisesWithin [0] s (dropWaits (setPlay .stopped s)) :=
    (raisesWithin_setPlay (by decide) .stopped s).trans (.of_sSet rfl)
  have htold : s.engine.play ≠ .stopped → ∃ n, ⟨SEvent.playStateChanged .stopped s.engine.intent, n⟩ ∈
      (dropWaits (setPlay .stopped s)).events.sSet := fun hne => setPlay_told (Ne.symm hne)
  obtain ⟨hstate, hdSet, hcounters, hsSet, hstill, hprogram⟩ := flushes_flush s.ring.p (dropWaits (setPlay .stopped s))
  rw [hdef]
  generalize flush s.ring.p (dropWaits (setPlay .stopped s)) = v at *
  refine ⟨?_, ?_, ?_, ?_, fun h => ?_, fun hne => ?_, ?_⟩
  · rw [hstate, setPlay_eq]; rfl
  · simpa using hdSet
  · simpa using hcounters
  · exact (hdrop.mono (by decide)).trans (hsSet.mono (by decide))
  · exact (hdrop.trans (.of_sSet (hstill (by rw [setPlay_eq]; exact h)))).mono (by decide)
  · exact hsSet.keeps (by simp [SEvent.pos]) (htold hne)
  · exact hprogram.within (by rw [setPlay_eq]; rfl) (fun x hx => hdrop x (by simp [hx])) rfl rfl rfl fun _ _ => .rfl

/-- The end of the disc is STOPPED with intent STOP, and END_OF_DISC (R95). -/
theorem stops_endOfDisc (s : State) : Stops (setIntent .stop s) (endOfDisc s) ∧
    ∃ n, ⟨SEvent.endOfDisc s.t, n⟩ ∈ (endOfDisc s).events.sSet := by
  have hdef : endOfDisc s = raiseS (.endOfDisc s.t) (enterStopped (setIntent .stop s)) := rfl
  obtain ⟨hstate, hdSet, hcounters, hsSet, hstill, htold, hprogram⟩ := stops_enterStopped (setIntent .stop s)
  rw [hdef]
  generalize enterStopped (setIntent .stop s) = v at *
  have hraise : RaisesWithin [2] v (raiseS (.endOfDisc s.t) v) := raisesWithin_raiseS (by simp [SEvent.pos]) v
  refine ⟨⟨?_, hdSet, hcounters, hsSet.trans (hraise.mono (by decide)), fun h => (hstill h).trans (hraise.mono (by decide)),
    fun hne => ?_, ?_⟩, exists_mem_latch ..⟩
  · rw [hstate]; rfl
  · exact hraise.keeps (by simp [SEvent.pos]) (htold hne)
  · exact hprogram.within rfl (fun _ _ => .rfl) rfl rfl rfl fun x hx => hraise x (by simp [hx])

/-! ### The end of an event -/

/-- The end of an event shows in the planner and the event unit alone. -/
theorem finish_state (b s : State) :
    finish b s = { s with planner := (finish b s).planner, events := (finish b s).events } := by
  have hscan : scanIfDue s = { s with planner := (scanIfDue s).planner } := by
    unfold scanIfDue scan; split <;> [(dsimp only; split <;> rfl); rfl]
  have hplanner : (finish b s).planner = (scanIfDue s).planner := by simp [finish]
  rw [hplanner]
  conv_lhs => rw [finish_eq, hscan]

/-- An event that leaves no order and nothing held ends with PAUSE_CHANGED at most (R37, R59, R62). -/
theorem finish_emptied {b s : State} (hq : s.planner.queue = []) (he : s.ring.e = s.ring.p) :
    finish b s = { s with planner := { s.planner with scanDue := false }, events := (finish b s).events } ∧
    (finish b s).events.dSet = pauseTold b.pauseFlag s.pauseFlag s.events.dSet := by
  have hplanner : (finish b s).planner = { s.planner with scanDue := false } := by
    rw [finish_planner, hq, scanned_empty (by simpa using he), ite_self, ← hq]
  have hscan : (scanIfDue s).planner.workWaits = false := by
    have : (scanIfDue s).planner = (finish b s).planner := by simp [finish]
    rw [this, hplanner]
    simp [Planner.workWaits, hq]
  have hflag : (scanIfDue s).pauseFlag = s.pauseFlag := by simp [State.pauseFlag]
  refine ⟨by rw [← hplanner]; exact finish_state b s, ?_⟩
  rw [finish, tellWork_quiet (.inl hscan), tellPause_dSet, hflag]
  simp [pauseTold]

/-- What an entry to STOPPED, from `w`, comes to at the end of an event that began at `b`. -/
structure StopEnds (b w t : State) : Prop where
  ring : t.ring = w.ring.flush w.ring.p w.session.fingerprint
  planner : t.planner = { w.planner with queue := [], tagCounter := 0, scanDue := false }
  intake : t.intake = { w.intake with run := none, latch := false }
  engine : t.engine = { w.engine with
    play := .stopped, f := 0, slotOpen := false, holeWait := 0, stall := none, anticipate := false
    program := w.programNow }
  conceal : t.conceal = { w.conceal with left := channelReset, right := channelReset, gp := 0, gpTarget := 0 }
  rest : t.rates = w.rates ∧ t.session = w.session ∧ t.power = w.power ∧ t.params = w.params ∧ t.line = w.line ∧
    t.sPort = w.sPort ∧ t.dPort = w.dPort ∧ t.now = w.now
  dSet : t.events.dSet = pauseTold b.pauseFlag true (emptiedTold w.planner.queue w.events.dSet)
  counters : t.events.counters = w.events.counters
  sSet : RaisesWithin [0, 1, 2] w t
  still : w.programNow = w.engine.program → RaisesWithin [0, 2] w t
  told : w.engine.play ≠ .stopped → ∃ n, ⟨SEvent.playStateChanged .stopped w.engine.intent, n⟩ ∈ t.events.sSet
  program : ProgramTold w t

theorem StopEnds.flag {b w t : State} (h : StopEnds b w t) : t.pauseFlag = true := by
  rw [State.pauseFlag, h.engine]; exact Bool.or_true _

theorem raisesWithin_finish (ps : List Nat) (b s : State) : RaisesWithin ps s (finish b s) :=
  .of_sSet (finish_sSet b s).1

theorem Stops.finish {w v : State} (h : Stops w v) (b : State) : StopEnds b w (finish b v) := by
  obtain ⟨hstate, hdSet, hcounters, hsSet, hstill, htold, hprogram⟩ := h
  obtain ⟨hfinish, hfdSet⟩ := finish_emptied (b := b) (s := v) (by rw [hstate]; rfl) (by rw [hstate]; rfl)
  have hsame : RaisesWithin [] v (Machine.finish b v) := raisesWithin_finish [] b v
  have hstopped : v.pauseFlag = true := by rw [hstate]; rfl
  refine ⟨?_, ?_, ?_, ?_, ?_, ?_, ?_, ?_, hsSet.trans (hsame.mono (by simp)),
    fun h => (hstill h).trans (hsame.mono (by simp)), fun hne => ?_, ?_⟩
  · rw [hfinish, hstate]; rfl
  · rw [hfinish, hstate]; rfl
  · rw [hfinish, hstate]; rfl
  · rw [hfinish, hstate]
  · rw [hfinish, hstate]
  · rw [hfinish, hstate]; exact ⟨rfl, rfl, rfl, rfl, rfl, rfl, rfl, rfl⟩
  · rw [hfdSet, hstopped, hdSet]
  · rw [(finish_sSet b v).2, hcounters]
  · exact hsame.keeps (by simp) (htold hne)
  · exact hprogram.within rfl (fun _ _ => .rfl) (by rw [hfinish]) (by simp) (by simp) fun x _ => hsame x (by simp)

end Sys2Proof.Machine
end

section
/-! PROOF. PAUSE and STOP by the play state (R107, R109). -/

namespace Sys2Proof.Machine

/-! ### A play command with the session PRESENT -/

/-- A command that fits reaches its act behind the status byte (R149). -/
theorem command_inPlay {s : State} (h : s.InPlay) (code : Byte) (params : List Byte) (hn : params.length ≤ 32)
    (act : State → State) : command .s code (goodFrame code params) true false (withDisc .s act) s =
      act (sendStatus .s (params.length + 2) s) := by
  rw [command_ready h.1 .s code params false hn, withDisc_present (by simpa using h.2)]

theorem exec_pause {s : State} (h : s.InPlay) :
    exec (.pause (goodFrame 0x0A [])) s = .next (pauseAct (sendStatus .s 2 s)) :=
  congrArg Host.Outcome.next (command_inPlay h 0x0A [] (by decide) pauseAct)

theorem exec_resume {s : State} (h : s.InPlay) :
    exec (.resume (goodFrame 0x0B [])) s = .next (resumeAct (sendStatus .s 2 s)) :=
  congrArg Host.Outcome.next (command_inPlay h 0x0B [] (by decide) resumeAct)

theorem exec_stop {s : State} (h : s.InPlay) :
    exec (.stop (goodFrame 0x0C [])) s = .next (stopAct (sendStatus .s 2 s)) :=
  congrArg Host.Outcome.next (command_inPlay h 0x0C [] (by decide) stopAct)

/-! ### The ramp of the play gain (R125) -/

/-- A new target fixes the step where the gain was at rest (R125). -/
theorem setPlayTarget_eq {s : State} {target : Nat} : setPlayTarget target s = { s with conceal := { s.conceal with
    gpTarget := target
    gpStep := if s.conceal.gpTarget ≠ target ∧ s.conceal.gp = s.conceal.gpTarget then stepOf s.params.rp
      else s.conceal.gpStep } } := by
  unfold setPlayTarget
  by_cases h : target = s.conceal.gpTarget
  · subst h; simp
  · simp [h, Ne.symm h, stepOf, rampStep]

/-! ### The acts -/

/-- Events that leave the queue and the latch, and STOPPED or another state as it was, tell of nothing at their end. -/
theorem finish_playing {b s : State} (hd : b.planner.scanDue = false) (hplanner : s.planner = b.planner)
    (hlatch : s.intake = b.intake) (hstop : b.engine.play = .stopped ↔ s.engine.play = .stopped) : finish b s = s :=
  finish_quiet (by rw [hplanner, hd]) (by rw [hplanner]) (by
    rw [State.pauseFlag, State.pauseFlag, hlatch, Bool.eq_iff_iff]
    simp [hstop])

section
variable {u : State} (hd : u.planner.scanDue = false)

theorem pauseAct_wrongState (h : u.engine.play = .rampDown .stopped ∨ u.engine.play = .stopped) :
    pauseAct u = refuse .s .wrongState u := by
  rcases h with h | h <;> simp only [pauseAct, h]

include hd

theorem pauseAct_playing (h : u.engine.play = .playing) :
    pauseAct u = respondOk .s [] (u |> setIntent .pause |> setPlay (.rampDown .paused) |> setPlayTarget 0) := by
  simp only [pauseAct, h]
  rw [finish_playing hd (by simp) (by simp) (by simp [h, setPlayTarget_eq])]

theorem pauseAct_waiting (h : u.engine.play = .priming ∨ u.engine.play = .starved) :
    pauseAct u = respondOk .s [] (u |> setIntent .pause |> dropWaits |> setPlay .paused |> setPlayGain 0 0) := by
  have hquiet : finish u (u |> setIntent .pause |> dropWaits |> setPlay .paused |> setPlayGain 0 0) =
      (u |> setIntent .pause |> dropWaits |> setPlay .paused |> setPlayGain 0 0) :=
    finish_playing hd (by simp) (by simp) (by rcases h with h | h <;> simp [h])
  rcases h with h | h <;> simp only [pauseAct, h] <;> rw [hquiet]

theorem pauseAct_paused (h : u.engine.play = .paused ∨ u.engine.play = .rampDown .paused) :
    pauseAct u = respondOk .s [] (setIntent .pause u) := by
  have hquiet : finish u (setIntent .pause u) = setIntent .pause u := finish_playing hd rfl rfl .rfl
  rcases h with h | h <;> simp only [pauseAct, h] <;> rw [hquiet]

end

/-- Settles O22: PAUSE moves no order and leaves the pause flag, so that its event ends with it. -/
theorem pauseByPlayState : Obligations.PauseByPlayState := by
  intro s h hd
  rw [exec_pause h]
  refine ⟨fun hp => ?_, fun hp => ?_, fun hp => ?_, fun hp => ?_⟩
  · rw [pauseAct_playing (u := sendStatus .s 2 s) hd hp, setPlayTarget_eq]
    refine ⟨_, rfl, by rw [setPlay_eq]; rfl, ?_, ?_, ?_⟩
    · exact (setPlay_sSet ..).trans (if_neg (by show _ ≠ s.engine.play; simp [hp]))
    · exact (setPlay_rest ..).1
    · exact (setPlay_rest ..).2
  · rw [pauseAct_waiting (u := sendStatus .s 2 s) hd hp]
    refine ⟨_, rfl, by rw [setPlay_eq]; rfl, ?_, ?_, ?_⟩
    · exact (setPlay_sSet ..).trans (if_neg (by show _ ≠ s.engine.play; rcases hp with hp | hp <;> simp [hp]))
    · exact (setPlay_rest ..).1
    · exact (setPlay_rest ..).2
  · rw [pauseAct_paused (u := sendStatus .s 2 s) hd hp]; rfl
  · rw [pauseAct_wrongState (u := sendStatus .s 2 s) hp]; rfl

/-! ### STOP -/

section
variable {u : State} (hd : u.planner.scanDue = false)

theorem stopPlay_waiting (h : u.engine.play = .priming ∨ u.engine.play = .paused ∨ u.engine.play = .starved) :
    stopPlay u = enterStopped u := by
  rcases h with h | h | h <;> simp only [stopPlay, h]

include hd

theorem stopAct_playing (h : u.engine.play = .playing) :
    stopAct u = respondOk .s [] (u |> setIntent .stop |> setPlay (.rampDown .stopped) |> setPlayTarget 0) := by
  have hplay : (setIntent .stop u).engine.play = .playing := h
  simp only [stopAct, stopPlay, hplay]
  rw [finish_playing hd (by simp) (by simp) (by simp [h, setPlayTarget_eq])]

theorem stopAct_ramp (h : u.engine.play = .rampDown .paused) :
    stopAct u = respondOk .s [] (u |> setIntent .stop |> setPlay (.rampDown .stopped)) := by
  have hplay : (setIntent .stop u).engine.play = .rampDown .paused := h
  simp only [stopAct, stopPlay, hplay]
  rw [finish_playing hd (by simp) (by simp) (by simp [h])]

theorem stopAct_stopping (h : u.engine.play = .rampDown .stopped ∨ u.engine.play = .stopped) :
    stopAct u = respondOk .s [] (setIntent .stop u) := by
  have hplay : stopPlay (setIntent .stop u) = setIntent .stop u := by
    have hsame : (setIntent .stop u).engine.play = u.engine.play := rfl
    rcases h with h | h <;> simp only [stopPlay, hsame, h]
  rw [stopAct, hplay, finish_playing (s := setIntent .stop u) hd rfl rfl .rfl]

end

/-- Settles O24: a ramp begins or goes on, or the entry to STOPPED flushes the ring to P. -/
theorem stopByPlayState : Obligations.StopByPlayState := by
  intro s h hd
  rw [exec_stop h]
  refine ⟨fun hp => ?_, fun hp => ?_, fun hp => ?_, fun hp => ?_⟩
  · rw [stopAct_playing (u := sendStatus .s 2 s) hd hp, setPlayTarget_eq]
    refine ⟨_, rfl, by rw [setPlay_eq]; rfl, ?_, ?_, ?_⟩
    · exact (setPlay_sSet ..).trans (if_neg (by show _ ≠ s.engine.play; simp [hp]))
    · exact (setPlay_rest ..).1
    · exact (setPlay_rest ..).2
  · have hplay : (setIntent .stop (sendStatus .s 2 s)).engine.play ≠ .stopped := by
      show s.engine.play ≠ .stopped; rcases hp with hp | hp | hp <;> simp [hp]
    have hends := (stops_enterStopped (setIntent .stop (sendStatus .s 2 s))).finish (sendStatus .s 2 s)
    rw [stopAct, stopPlay_waiting (u := setIntent .stop (sendStatus .s 2 s)) hp]
    generalize finish (sendStatus .s 2 s) (enterStopped (setIntent .stop (sendStatus .s 2 s))) = t at *
    have hflag := hends.flag
    obtain ⟨hring, hplanner, hintake, hengine, hconceal, ⟨hrates, hsession, hpower, hparams, hline, hsPort, hdPort, -⟩,
      hdSet, -, -, -, htold, hprogram⟩ := hends
    refine ⟨_, rfl, hring, congrArg Engine.play hengine, congrArg Engine.intent hengine, congrArg Engine.f hengine,
      congrArg Engine.slotOpen hengine, congrArg Engine.holeWait hengine, congrArg Engine.stall hengine,
      congrArg Engine.anticipate hengine, hconceal, congrArg Planner.queue hplanner, congrArg Planner.tagCounter hplanner,
      (congrArg Planner.fails hplanner).trans rfl, congrArg Intake.run hintake, hflag, hrates, hsession, hdSet, htold hplay,
      ⟨hprogram.number, hprogram.raised, hprogram.quiet⟩, hpower, hparams, hline, hdPort, ?_⟩
    rw [respondOk_def, respond_s, hsPort]
    rfl
  · rw [stopAct_ramp (u := sendStatus .s 2 s) hd hp]
    refine ⟨_, rfl, by rw [setPlay_eq]; rfl, ?_, ?_, ?_⟩
    · exact (setPlay_sSet ..).trans (if_neg (by show _ ≠ s.engine.play; simp [hp]))
    · exact (setPlay_rest ..).1
    · exact (setPlay_rest ..).2
  · rw [stopAct_stopping (u := sendStatus .s 2 s) hd hp]; rfl

end Sys2Proof.Machine
end

section
/-! PROOF. The trim for play at the end of an event: what is left of each order, what is told, and where the queue begins
(R73, R59, R62). -/

namespace Sys2Proof.Machine

/-! ### One trim, and a trim behind a trim -/

/-- Cut at a lower address first, an entry is left as the higher one leaves it. -/
theorem behind_bind {p low : Nat} (h : p ≤ low) (o : Order) : (o.behind p).bind (Order.behind low) = o.behind low := by
  by_cases hp : o.first + o.count ≤ p
  · simp [Order.behind, hp, hp.trans h]
  · have hleft : o.behind p = some { o with first := max o.first p, count := o.first + o.count - max o.first p } :=
      if_neg hp
    have hend : max o.first p + (o.first + o.count - max o.first p) = o.first + o.count := by omega
    have hfirst : max (max o.first p) low = max o.first low := by omega
    rw [hleft, Option.bind_some]
    simp only [Order.behind, hend, hfirst]

theorem filterMap_behind_behind {p low : Nat} (h : p ≤ low) (q : List Order) :
    (q.filterMap (Order.behind p)).filterMap (Order.behind low) = q.filterMap (Order.behind low) := by
  rw [List.filterMap_filterMap]
  exact List.filterMap_congr fun o _ => behind_bind h o

theorem any_behind_behind {p low : Nat} (h : p ≤ low) (q : List Order) :
    ((q.any fun o => (o.behind p).isNone) || (q.filterMap (Order.behind p)).any fun o => (o.behind low).isNone) =
      q.any fun o => (o.behind low).isNone := by
  rw [← any_bind_isNone]
  simp only [behind_bind h]

theorem cut_behind (low : Nat) (q : List Order) : Cut q (q.filterMap (Order.behind low)) :=
  cut_filterMap fun _ _ _ hx => (part_of_behind hx).1

/-- The highest entry that a trim passes stays in the record (R159, log 40). -/
theorem withdrawnTold_highest {low : Nat} {q : List Order} {o : Order} (h : Apart q) (ho : o ∈ q)
    (hpassed : o.first + o.count ≤ low) (htop : ∀ x ∈ q, x.first + x.count ≤ low → x.first ≤ o.first)
    (d : List (Latched DEvent)) : ∃ n, ⟨DEvent.orderWithdrawn o.toldTag o.first, n⟩ ∈ withdrawnTold low q d := by
  obtain ⟨l, r, rfl⟩ := List.append_of_mem ho
  obtain ⟨-, hr, hcount⟩ := h.split
  refine withdrawnTold_last ((behind_none_iff _ _).mpr hpassed) (fun x hx => Bool.eq_false_iff.mpr fun hb => ?_) d
  have habove := hr x hx
  have hbelow := htop x (by simp [hx]) ((behind_none_iff _ _).mp hb)
  omega

/-- What the trim at `p`, and behind it the trim at `p + 1`, tell of the highest entry passed: its first address, as the
trim that withdraws it finds it. -/
theorem withdrawnTold_twice {p : Nat} {q : List Order} {o : Order} (h : Apart q) (ho : o ∈ q)
    (hpassed : o.first + o.count ≤ p + 1) (htop : ∀ x ∈ q, x.first + x.count ≤ p + 1 → x.first ≤ o.first)
    (d : List (Latched DEvent)) :
    ∃ n, ⟨DEvent.orderWithdrawn o.toldTag (if o.first + o.count ≤ p then o.first else max o.first p), n⟩ ∈
      withdrawnTold (p + 1) (q.filterMap (Order.behind p)) (withdrawnTold p q d) := by
  by_cases hp : o.first + o.count ≤ p
  · rw [if_pos hp, withdrawnTold_none]
    · exact withdrawnTold_highest h ho hp (fun x hx hxp => htop x hx (by omega)) d
    · intro y hy
      obtain ⟨x, hx, hxy⟩ := List.mem_filterMap.mp hy
      refine Bool.eq_false_iff.mpr fun hb => ?_
      obtain ⟨hxle, hend, -⟩ := behind_some (h.2 x hx) hxy
      have hyend := (behind_none_iff _ _).mp hb
      have hlow := (part_of_behind hxy).2
      have hxtop := htop x hx (by omega)
      have hcount := h.2 o ho
      have hycount := (part_of_behind hxy).1.count (h.2 x hx)
      have heq : x = o := h.eq_of_covered (a := o.first) hx ho ⟨hxtop, by omega⟩ ⟨le_refl _, by omega⟩
      rw [heq] at hend
      omega
  · rw [if_neg hp]
    have hleft : o.behind p = some { o with first := max o.first p, count := o.first + o.count - max o.first p } :=
      if_neg hp
    refine withdrawnTold_highest (o := { o with first := max o.first p, count := o.first + o.count - max o.first p })
      ((cut_behind p q).apart h) (List.mem_filterMap.mpr ⟨o, ho, hleft⟩) (by dsimp only; omega) (fun y hy hyend => ?_) _
    obtain ⟨x, hx, hxy⟩ := List.mem_filterMap.mp hy
    have hend := (behind_some (h.2 x hx) hxy).2.1
    have hxtop := htop x hx (by omega)
    have hxp : ¬ x.first + x.count ≤ p := fun hle => by rw [Order.behind, if_pos hle] at hxy; cases hxy
    rw [Order.behind, if_neg hxp] at hxy
    cases hxy
    dsimp only
    omega

/-! ### The trim before the end of its event -/

/-- The orders of `s` cut at `low` by the time of `u`, with ORDER_WITHDRAWN of those passed and nothing else on the
D-port (R73). -/
structure Cuts (low : Nat) (s u : State) : Prop where
  planner : u.planner = { s.planner with
    queue := s.planner.queue.filterMap (Order.behind low)
    scanDue := s.planner.scanDue || s.planner.queue.any fun o => (o.behind low).isNone }
  dSet : u.events.dSet = withdrawnTold low s.planner.queue s.events.dSet

/-- What leaves the planner and the D-port's set goes on from a cut. -/
theorem Cuts.of_same {low : Nat} {s u v : State} (h : Cuts low s u) (hplanner : v.planner = u.planner)
    (hdSet : v.events.dSet = u.events.dSet) : Cuts low s v := ⟨hplanner ▸ h.planner, hdSet ▸ h.dSet⟩

/-- A cut of the orders that an event began with. -/
theorem Cuts.from {low : Nat} {s w u : State} (h : Cuts low w u) (hplanner : w.planner = s.planner)
    (hdSet : w.events.dSet = s.events.dSet) : Cuts low s u := by
  obtain ⟨hqueue, hd⟩ := h
  rw [hplanner] at hqueue hd
  rw [hdSet] at hd
  exact ⟨hqueue, hd⟩

theorem Trimmed.cuts {low : Nat} {s u : State} (h : Trimmed low s u) : Cuts low s u := by
  obtain ⟨hstate, -, -, hdSet⟩ := h
  exact ⟨by rw [hstate], hdSet⟩

/-- The trim for play, P at `p` and opened or not, before the scan that it may call for: what `Trims` says of it. -/
structure Passes (p : Nat) (opens : Bool) (s u : State) : Prop where
  planner : u.planner = { s.planner with
    queue := s.planner.queue.filterMap (Order.behind (if opens then p + 1 else p))
    scanDue := s.planner.scanDue || s.planner.queue.any fun o => (o.behind (if opens then p + 1 else p)).isNone }
  withdrawn : ∀ o ∈ s.planner.queue, s.ring.p ≤ o.first → o.first + o.count ≤ (if opens then p + 1 else p) →
    (∀ x ∈ s.planner.queue, x.first + x.count ≤ (if opens then p + 1 else p) → x.first ≤ o.first) →
    ∃ n, ⟨DEvent.orderWithdrawn o.toldTag (if o.first + o.count ≤ p then o.first else max o.first p), n⟩ ∈ u.events.dSet
  dSet : ∀ x : Latched DEvent, x.ev.pos ≠ 2 → (x ∈ u.events.dSet ↔ x ∈ s.events.dSet)

section
variable {p : Nat} {s u w : State}

/-- Slot P opens where P stays. -/
theorem passes_opened (h : Apart s.planner.queue) (hcuts : Cuts (s.ring.p + 1) s u) : Passes s.ring.p true s u := by
  obtain ⟨hplanner, hdSet⟩ := hcuts
  refine ⟨hplanner, fun o ho hlo hend htop => ?_, fun x hx => hdSet ▸ mem_withdrawnTold hx _ _ _⟩
  have hfirst : (if o.first + o.count ≤ s.ring.p then o.first else max o.first s.ring.p) = o.first := by
    split <;> [rfl; omega]
  rw [hfirst, hdSet]
  exact withdrawnTold_highest h ho hend htop _

/-- P comes to `p`, and slot P stays unopened. -/
theorem Cuts.passes (hcuts : Cuts p s u) (h : Apart s.planner.queue) : Passes p false s u := by
  obtain ⟨hplanner, hdSet⟩ := hcuts
  refine ⟨hplanner, fun o ho _ hend htop => ?_, fun x hx => hdSet ▸ mem_withdrawnTold hx _ _ _⟩
  have hpassed : o.first + o.count ≤ p := hend
  rw [if_pos hpassed, hdSet]
  exact withdrawnTold_highest h ho hpassed htop _

/-- P comes to `p`, and its slot opens later in the event. -/
theorem Cuts.passes_opened (hcuts : Cuts p s w) (h : Apart s.planner.queue) (hopens : Cuts (p + 1) w u) :
    Passes p true s u := by
  obtain ⟨hwplanner, hwdSet⟩ := hcuts
  obtain ⟨hplanner, hdSet⟩ := hopens
  rw [hwplanner] at hplanner hdSet
  rw [hwdSet] at hdSet
  refine ⟨?_, fun o ho _ hend htop => ?_, fun x hx => ?_⟩
  · rw [hplanner]
    simp only [filterMap_behind_behind (Nat.le_succ p), Bool.or_assoc, any_behind_behind (Nat.le_succ p), if_true]
  · rw [hdSet]
    exact withdrawnTold_twice h ho hend htop _
  · rw [hdSet, mem_withdrawnTold hx, mem_withdrawnTold hx]

/-- The queue that a cut leaves is in form again. -/
theorem Cuts.apart (hcuts : Cuts p s u) (h : Apart s.planner.queue) : Apart u.planner.queue := by
  rw [hcuts.planner]
  exact (cut_behind p _).apart h

end

/-! ### The end of its event -/

/-- What a scan in `t` makes of a queue that begins at the lowest placeable address begins there too (R58, R59). -/
theorem scanned_above {t : State} {q : List Order} (hq : QueueLaw q) (hlow : ∀ o ∈ q, t.lowestPlaceable ≤ o.first) :
    ∀ o ∈ scanned t q, t.lowestPlaceable ≤ o.first := by
  intro g hg
  have hfills := fills_scan (s := { t with planner := { t.planner with queue := q } }) hq
  have hcount := hfills.law.apart.2 g hg
  have hin : ∀ a, (coveredBy (scan { t with planner := { t.planner with queue := q } }).planner.queue a ∧
      State.unplaced { t with planner := { t.planner with queue := q } } a) → t.lowestPlaceable ≤ a := fun a ha => ha.2.1
  rcases hfills.grows.mem_cases hg with ⟨o, ho, hgrown⟩ | hfresh
  · rcases hgrown.only g.first (le_refl _) (by omega) with h | h
    · exact (hlow o ho).trans h.1
    · exact hin _ h
  · exact hin _ (hfresh.only g.first (le_refl _) (by omega))

theorem lowestPlaceable_congr {s t : State} (hp : t.ring.p = s.ring.p) (hopen : t.engine.slotOpen = s.engine.slotOpen) :
    t.lowestPlaceable = s.lowestPlaceable := by
  rw [State.lowestPlaceable, State.lowestPlaceable, hp, hopen]

theorem Passes.trims {p : Nat} {opens : Bool} {s u : State} (h : Passes p opens s u) (hlaw : s.planner.Law)
    (hd : s.planner.scanDue = false) (hp : u.ring.p = p) (hopen : u.engine.slotOpen = opens) :
    Trims p opens s (finish s u) := by
  obtain ⟨hplanner, hwithdrawn, hdSet⟩ := h
  have hlow : (finish s u).lowestPlaceable = if opens then p + 1 else p := by
    rw [lowestPlaceable_congr (s := u) (by simp) (by simp), State.lowestPlaceable, hp, hopen]
  have hqueue : (finish s u).planner.queue =
      requeued s (finish s u) (Order.behind (if opens then p + 1 else p)) false := by
    rw [finish_planner, hplanner, hd]; rfl
  refine ⟨hqueue, ?_, fun o ho hlo hend htop => ?_, ?_, ?_⟩
  · have hleft : ∀ o ∈ s.planner.queue.filterMap (Order.behind (if opens then p + 1 else p)),
        (finish s u).lowestPlaceable ≤ o.first := fun x hx => by
      obtain ⟨o, -, hox⟩ := List.mem_filterMap.mp hx
      rw [hlow]
      exact (part_of_behind hox).2
    rw [← hlow, hqueue]
    unfold requeued
    rw [← hlow] at hleft ⊢
    dsimp only
    split
    · exact scanned_above ((cut_behind _ _).law ((plannerLaw_iff _).mp hlaw).1) hleft
    · exact hleft
  · exact (hwithdrawn o ho hlo hend htop).imp fun n hn =>
      (mem_finish_dSet (by simp [DEvent.pos]) (by simp [DEvent.pos]) s u).mpr hn
  · rw [finish_planner, hplanner]
    exact ⟨rfl, rfl⟩
  · have hwork := finish_workTold (s := s) (u := u) fun x hx => hdSet x (by omega)
    rwa [hplanner] at hwork

theorem Passes.flagTold {p : Nat} {opens : Bool} {s u : State} (h : Passes p opens s u) : FlagTold s (finish s u) :=
  finish_flagTold fun x hx => h.dSet x (by omega)

/-- An answer on the S-port leaves the orders. -/
theorem Trims.answered {p : Nat} {opens : Bool} {s t : State} {n : Nat} {code : RespCode} {data : List Byte}
    (h : Trims p opens (sendStatus .s n s) t) : Trims p opens s (respond .s code data t) := by
  obtain ⟨hqueue, habove, hwithdrawn, hkept, ⟨hraised, hquiet⟩⟩ := h
  refine ⟨?_, habove, hwithdrawn, hkept, ⟨hraised, hquiet⟩⟩
  have hscan : ∀ q, scanned (respond .s code data t) q = scanned t q := fun q =>
    scan_queue_congr rfl rfl rfl rfl rfl rfl
  unfold requeued at hqueue ⊢
  simp only [hscan]
  exact hqueue

end Sys2Proof.Machine
end

section
/-! PROOF. A hole given up at P, the entry to STARVED, and HOLE_WAIT_EXPIRY (R99 to R101). -/

namespace Sys2Proof.Machine

/-! ### Slot P opens, whatever the orders (R92, R100) -/

/-- A trim shows in the planner and the event unit alone. -/
theorem trimAll_state (low : Nat) (s : State) :
    trimAll low s = { s with planner := (trimAll low s).planner, events := (trimAll low s).events } := by
  have hrest : { trimAll low s with planner := s.planner, events := s.events } = s :=
    foldl_keeps (fun t => { t with planner := s.planner, events := s.events }) _ (fun t o => by
      unfold trimForPlay; split <;> [split; skip] <;> rfl) _ _
  exact (congrArg (fun t : State =>
    { t with planner := (trimAll low s).planner, events := (trimAll low s).events }) hrest)

/-- It raises nothing on the S-port and counts nothing. -/
theorem trimAll_events (low : Nat) (s : State) : (trimAll low s).events.sSet = s.events.sSet ∧
    (trimAll low s).events.counters = s.events.counters := by
  constructor
  · exact foldl_keeps (fun t => t.events.sSet) _ (fun t o => by unfold trimForPlay; split <;> [split; skip] <;> rfl) _ _
  · exact foldl_keeps (fun t => t.events.counters) _ (fun t o => by
      unfold trimForPlay; split <;> [split; skip] <;> rfl) _ _

/-- PLAYING in an opened slot P: the orders trimmed behind it where their queue is in form, and nothing else of theirs told
or moved. -/
structure PlaysOn (s t : State) : Prop where
  state : t = { s with engine := opened s.engine, planner := t.planner, events := t.events }
  cuts : Apart s.planner.queue → Cuts (s.ring.p + 1) s t
  counters : t.events.counters = s.events.counters
  sSet : RaisesWithin [0] s t
  told : s.engine.play ≠ .playing → ∃ n, ⟨SEvent.playStateChanged .playing s.engine.intent, n⟩ ∈ t.events.sSet

theorem playsOn_openAndPlay (s : State) : PlaysOn s (openAndPlay s) := by
  have hstate := trimAll_state (s.ring.p + 1) { s with engine := { s.engine with slotOpen := true } }
  obtain ⟨hsSet, hcounters⟩ := trimAll_events (s.ring.p + 1) { s with engine := { s.engine with slotOpen := true } }
  have hdef : openAndPlay s = setPlay .playing (dropWaits (trimAll (s.ring.p + 1)
    { s with engine := { s.engine with slotOpen := true } })) := rfl
  have htrim : Apart s.planner.queue → _ := fun h => opens_openAndPlay h
  rw [hdef] at htrim ⊢
  generalize trimAll (s.ring.p + 1) { s with engine := { s.engine with slotOpen := true } } = v at *
  refine ⟨?_, fun h => ?_, ?_, ?_, fun hne => ?_⟩
  · rw [setPlay_eq, hstate]; rfl
  · obtain ⟨hopen, -, -, hdSet, -⟩ := htrim h
    exact ⟨by rw [hopen], hdSet⟩
  · rw [(setPlay_rest ..).2]; exact hcounters
  · exact (RaisesWithin.of_sSet (t := dropWaits v) hsSet).trans (raisesWithin_setPlay (by decide) _ _)
  · have hplay : (dropWaits v).engine.play = s.engine.play ∧ (dropWaits v).engine.intent = s.engine.intent := by
      rw [hstate]; exact ⟨rfl, rfl⟩
    have htold := setPlay_told (p := .playing) (s := dropWaits v) (by rw [hplay.1]; exact Ne.symm hne)
    rwa [hplay.2] at htold

/-! ### The hole given up (R101) -/

/-- A hole at P given up and played through: what it leaves and tells before the end of its event. -/
structure Expires (s t : State) : Prop where
  state : t = { s with
    ring := s.ring.giveUpHole s.ring.p
    engine := opened s.engine
    planner := t.planner
    conceal := gainsFromStarved s.params s.engine.anticipate s.conceal
    events := t.events }
  cuts : Apart s.planner.queue → Cuts (s.ring.p + 1) s t
  counted : ∀ {b : State} {up : CounterId → Nat}, Counted b s up → up .slotsAbandoned = 0 →
    Counted b t fun c => if c = .slotsAbandoned then 1 else up c
  sSet : RaisesWithin [0, 4, 13] s t
  abandoned : ∃ n, ⟨SEvent.slotAbandoned s.ring.p s.ring.p, n⟩ ∈ t.events.sSet
  told : s.engine.play ≠ .playing → ∃ n, ⟨SEvent.playStateChanged .playing s.engine.intent, n⟩ ∈ t.events.sSet

theorem expires_expireHole (s : State) : Expires s (expireHole s) := by
  have hstate := abandoned_eq s
  have hgave : RaisesWithin [4, 13] s (abandoned s) :=
    (raisesWithin_raiseS (e := .slotAbandoned s.ring.p s.ring.p) (by simp [SEvent.pos])
      { s with ring := s.ring.giveUpHole s.ring.p }).trans (raisesWithin_rise (by decide) .slotsAbandoned 1 _)
  have htold := abandoned_told s
  have hdSet : (abandoned s).events.dSet = s.events.dSet := by rw [abandoned, rise_dSet]; rfl
  have hcounted : ∀ {b : State} {up : CounterId → Nat}, Counted b s up → up .slotsAbandoned = 0 →
      Counted b (abandoned s) fun c => if c = .slotsAbandoned then 1 else up c := fun hb hup =>
    (hb.congr (t' := raiseS (.slotAbandoned s.ring.p s.ring.p) { s with ring := s.ring.giveUpHole s.ring.p }) rfl
      fun _ => rfl).rise hup 1
  have hp := giveUpHole_p s.ring.p s.ring
  have hdef : expireHole s = setConcealGain 0 (openAndPlay (abandoned s)) := rfl
  rw [hdef, setConcealGain_zero]
  obtain ⟨hopen, hcuts, hcounters, hwithin, hplays⟩ := playsOn_openAndPlay (abandoned s)
  generalize openAndPlay (abandoned s) = t at *
  generalize abandoned s = w at *
  have hwp : w.ring.p = s.ring.p := by rw [hstate]; exact hp
  refine ⟨?_, fun h => ?_, fun hb hup => (hcounted hb hup).congr hcounters fun _ => rfl,
    (hgave.mono (by decide)).trans (hwithin.mono (by decide)), ?_, fun hne => ?_⟩
  · rw [hopen, hstate]; rfl
  · have hqueue : w.planner = s.planner := by rw [hstate]
    rw [hwp, hqueue] at hcuts
    exact ((hcuts h).from hqueue hdSet).of_same rfl rfl
  · exact hwithin.keeps (by simp [SEvent.pos]) htold
  · rw [hstate] at hplays
    exact hplays hne

/-- The hole wait's count, and what it finds at P, end STARVED or leave all as it is (R101). -/
theorem judgeHoleWait_over {s : State} (h : s.engine.play = .starved ∧ (s.slot s.ring.p).isMissing = true ∧
    s.holeWaitLimit ≤ s.engine.holeWait) : judgeHoleWait s = expireHole s :=
  if_pos (by simp [holeWaitOver, h])

theorem judgeHoleWait_waits {s : State} (h : ¬ (s.engine.play = .starved ∧ (s.slot s.ring.p).isMissing = true ∧
    s.holeWaitLimit ≤ s.engine.holeWait)) : judgeHoleWait s = s :=
  if_neg fun hover => h (by simpa [holeWaitOver, and_assoc] using hover)

/-- Counters that an event leaves count what a part of it has counted. -/
theorem Counted.finish {s t : State} {up up' : CounterId → Nat} (h : Counted s t up) (b : State)
    (hup : ∀ c, up' c = up c) : Counted s (finish b t) up' := h.congr (finish_sSet b t).2 hup

/-- What a hole given up in `w` comes to at the end of its event. -/
structure HoleEnds (w t : State) : Prop where
  void : t.slot w.ring.p = .void w.ring.p
  slots : ∀ a, w.ring.p < a → a < w.ring.p + w.ring.len → t.slot a = w.slot a
  ring : t.ring = { w.ring with slots := t.ring.slots }
  engine : t.engine = opened w.engine
  conceal : t.conceal = gainsFromStarved w.params w.engine.anticipate w.conceal
  sSet : RaisesWithin [0, 4, 13] w t
  abandoned : ∃ n, ⟨SEvent.slotAbandoned w.ring.p w.ring.p, n⟩ ∈ t.events.sSet
  told : w.engine.play ≠ .playing → ∃ n, ⟨SEvent.playStateChanged .playing w.engine.intent, n⟩ ∈ t.events.sSet
  counted : ∀ {b : State} {up : CounterId → Nat}, Counted b w up → up .slotsAbandoned = 0 →
    Counted b t fun c => if c = .slotsAbandoned then 1 else up c
  rest : t.intake = w.intake ∧ t.rates = w.rates ∧ t.line = w.line ∧ t.session = w.session ∧ t.power = w.power ∧
    t.params = w.params ∧ t.sPort = w.sPort ∧ t.dPort = w.dPort ∧ t.now = w.now

theorem holeEnds_expireHole (b : State) {w : State} (hlaw : w.ring.Law) (hm : (w.slot w.ring.p).isMissing = true) :
    HoleEnds w (finish b (expireHole w)) := by
  obtain ⟨hstate, -, hcounted, hsSet, habandoned, htold⟩ := expires_expireHole w
  generalize expireHole w = u at *
  have hframe := finish_frame b u
  have hsame : RaisesWithin [] u (finish b u) := raisesWithin_finish [] b u
  have hgive : (finish b u).ring = w.ring.giveUpHole w.ring.p := by rw [hframe.1, hstate]
  have hpl : w.ring.p < w.ring.p + w.ring.len := Nat.lt_add_of_pos_right (len_pos w.ring)
  obtain ⟨hvoid, hothers⟩ := giveUpHole_slot hlaw (le_refl _) hpl hm
  refine ⟨?_, fun a hlo hhi => ?_, ?_, ?_, ?_, hsSet.trans (hsame.mono (by simp)), hsame.keeps (by simp) habandoned,
    fun hne => hsame.keeps (by simp) (htold hne), fun hb hup => (hcounted hb hup).finish b fun _ => rfl, ?_⟩
  · rw [State.slot, hgive, hvoid]
  · rw [State.slot, hgive]; exact hothers a hlo.le hhi (by omega)
  · rw [hgive]; exact giveUpHole_frame _ _
  · simp only [finish_frame]; rw [hstate]
  · simp only [finish_frame]; rw [hstate]
  · simp only [finish_frame]; rw [hstate]; exact ⟨rfl, rfl, rfl, rfl, rfl, rfl, rfl, rfl, rfl⟩

/-- The orders at the end of an event that gives up the hole at P where P stays. -/
theorem trims_expireHole {s w : State} (hring : w.ring = s.ring) (hplanner : w.planner = s.planner)
    (hdSet : w.events.dSet = s.events.dSet) (hd : s.planner.scanDue = false) (hlaw : s.planner.Law) :
    Trims s.ring.p true s (finish s (expireHole w)) := by
  obtain ⟨hstate, hcuts, -⟩ := expires_expireHole w
  rw [hplanner, hring] at hcuts
  refine (passes_opened (apart_of_law hlaw) ((hcuts (apart_of_law hlaw)).from hplanner hdSet)).trims hlaw hd ?_ ?_
  · rw [hstate, hring]; exact giveUpHole_p _ _
  · rw [hstate]; rfl

/-- Settles O42: the hole is given up where the wait is over, and nothing happens where it is not. -/
theorem holeWaitExpires : Obligations.HoleWaitExpires := by
  intro s hlaw hplan hd stands
  have hexec : exec .holeWaitExpiry s = .next (finish s (judgeHoleWait s)) := rfl
  rw [hexec]
  refine ⟨fun h => ?_, fun h => ?_⟩
  · rw [judgeHoleWait_over h]
    obtain ⟨hvoid, hslots, hring, hengine, hconceal, -, habandoned, htold, hcounted,
      hintake, hrates, hline, hsession, hpower, hparams, hsPort, hdPort, hnow⟩ := holeEnds_expireHole s hlaw h.2.1
    have htrim := trims_expireHole (s := s) rfl rfl rfl hd hplan
    exact ⟨_, rfl, hvoid, hslots, hring, hengine, hconceal, habandoned, htold (by simp [h.1]),
      hcounted (counted_of_counters rfl) rfl, htrim, htrim.above, hintake, hrates, hline, hsession, hpower, hparams,
      hsPort, hdPort, hnow⟩
  · rw [judgeHoleWait_waits h, finish_playing hd rfl rfl .rfl]

end Sys2Proof.Machine
end

section
/-! PROOF. The gains' step, and FRAME_CLOCK in a silent state (R93, R101, R123 to R130). -/

namespace Sys2Proof.Machine

/-! ### The step of the gains (R123, R124) -/

theorem stepGain_eq (gain target up down : Nat) : stepGain gain target up down = toward gain target up down := by
  unfold stepGain toward
  split <;> split <;> omega

/-- The concealment unit behind a frame's step of its gains. -/
def steppedGains (p : Params) (anticipate : Bool) (c : Conceal) : Conceal :=
  let target := concealAim anticipate c
  let down := if c.gcTarget ≠ target ∧ target = 0 then stepOf p.rd else c.gcDown
  let up := if c.gcTarget ≠ target ∧ target = 4096 then stepOf p.ru else c.gcUp
  { c with
    gp := toward c.gp c.gpTarget c.gpStep c.gpStep, gc := toward c.gc target up down
    gcTarget := target, gcDown := down, gcUp := up }

theorem stepGains_eq (s : State) :
    stepGains s = { s with conceal := steppedGains s.params s.engine.anticipate s.conceal } := by
  unfold stepGains takeConcealTarget steppedGains
  rw [concealTarget_eq]
  by_cases h : concealAim s.engine.anticipate s.conceal = s.conceal.gcTarget
  · simp [h, stepGain_eq]
  · rcases concealAim_cases s.engine.anticipate s.conceal with haim | haim <;> rw [haim] at h ⊢ <;>
      simp [h, Ne.symm h, stepGain_eq, stepOf, rampStep]

/-! ### The silent frame (R127, R130) -/

/-- The state behind a silent frame, before the hole wait is counted. -/
def silenced (s : State) : State :=
  { s with
    engine := { s.engine with anticipate := false }
    conceal := steppedGains s.params false s.conceal
    line := ⟨⟨0, 0, !s.power.resetLine &&
      ((steppedGains s.params false s.conceal).gc < 4096 || s.engine.play == .starved)⟩, s.line.produced⟩
    power := { s.power with lastSlf := s.now } }

theorem produceSilence_eq (s : State) :
    produceSilence { s with power := { s.power with lastSlf := s.now } } = silenced s := by
  rw [produceSilence, stepGains_eq]
  rfl

/-- A frame that counts towards the hole wait. -/
def counting (s : State) : State :=
  { silenced s with engine := { (silenced s).engine with holeWait := s.engine.holeWait + 1 } }

section
variable {s : State} (hpowered : s.power.powered = true)

theorem not_producing (h : s.engine.play = .stopped ∨ s.engine.play = .priming ∨ s.engine.play = .paused ∨
    s.engine.play = .starved ∨ s.engine.play = .halted) : s.engine.play.producing = false := by
  rcases h with h | h | h | h | h <;> rw [h] <;> rfl

include hpowered

/-- FRAME_CLOCK on a powered part produces a frame by its play state (R93). -/
theorem exec_frameClock_silent (hplay : s.engine.play.producing = false) : exec .frameClock s = .next (finish s
    (if s.engine.play = .starved ∧ (s.slot s.ring.p).isMissing = true then judgeHoleWait (counting s)
      else silenced s)) := by
  have hexec : exec .frameClock s = execFrameClock s := rfl
  have htick : silentTick { s with power := { s.power with lastSlf := s.now } } =
      if s.engine.play = .starved ∧ (s.slot s.ring.p).isMissing = true then judgeHoleWait (counting s)
        else silenced s := by
    unfold silentTick
    rw [produceSilence_eq]
    have hcond : ((silenced s).engine.play == .starved && ((silenced s).slot (silenced s).ring.p).isMissing) =
        decide (s.engine.play = .starved ∧ (s.slot s.ring.p).isMissing = true) := by
      rw [Bool.decide_and, Bool.decide_eq_true]
      congr 1
    dsimp only
    rw [hcond]
    simp only [decide_eq_true_eq]
    rfl
  rw [hexec, execFrameClock, if_neg (by simp [hpowered])]
  dsimp only
  rw [if_neg (by simp [hplay]), htick]

end

@[simp] theorem judgeHoleWait_line (s : State) : (judgeHoleWait s).line = s.line := by
  unfold judgeHoleWait; split <;> simp

/-- The sample line behind a silent frame. -/
theorem silent_line {s t : State} (hpowered : s.power.powered = true) (hplay : s.engine.play.producing = false)
    (h : exec .frameClock s = .next t) : t.line = (silenced s).line := by
  rw [exec_frameClock_silent hpowered hplay] at h
  cases h
  simp only [finish_frame]
  split
  · simp only [judgeHoleWait_line]; rfl
  · rfl

theorem sldHalf_getElem? {w : Word} {n k : Nat} (h : k < n) :
    (sldHalf w n)[k]? = some (decide (k < 16) && w.getMsbD k) := by
  simp [sldHalf, h]

/-- Settles O43: silence leaves all but the gains and the line, and a hole wait that it brings to its end goes as
HOLE_WAIT_EXPIRY does. -/
theorem silentFrameClock : Obligations.SilentFrameClock := by
  intro s hpowered hd hsilent waits c target down up gc limit released
  have hplay := not_producing hsilent
  have hexec := exec_frameClock_silent hpowered hplay
  refine ⟨fun hwait => ?_, fun hw hover hlaw => ?_, fun hreset => ⟨_, hexec, ?_⟩, fun t n k ht hk => ?_⟩
  · rw [hexec]
    by_cases hw : waits
    · have hover : ¬ ((counting s).engine.play = .starved ∧ ((counting s).slot (counting s).ring.p).isMissing = true ∧
          (counting s).holeWaitLimit ≤ (counting s).engine.holeWait) := fun ho => Nat.not_lt.mpr ho.2.2 (hwait hw)
      rw [if_pos hw, if_pos hw, judgeHoleWait_waits hover, finish_playing (s := counting s) hd rfl rfl .rfl]
      rfl
    · rw [if_neg hw, if_neg hw, finish_playing (s := silenced s) hd rfl rfl .rfl]
      rfl
  · have hends := holeEnds_expireHole s (w := counting s) hlaw hw.2
    have hline := silent_line hpowered hplay hexec
    rw [if_pos hw, judgeHoleWait_over (s := counting s) ⟨hw.1, hw.2, hover⟩] at hexec hline
    obtain ⟨hvoid, -, hring, hengine, hconceal, -, habandoned, -, hcounted, -⟩ := hends
    refine ⟨_, hexec, hvoid, congrArg Engine.play hengine, congrArg Engine.slotOpen hengine, (congrArg Engine.f hengine).trans rfl,
      congrArg Engine.holeWait hengine, congrArg Engine.stall hengine, congrArg Conceal.gc hconceal, hring,
      hcounted (counted_of_counters rfl) rfl, habandoned,
      trims_expireHole (w := counting s) rfl rfl rfl hd, hline.trans ?_⟩
    simp [silenced, hw.1, released]
  · rw [silent_line hpowered hplay hexec]
    simp [silenced, hreset]
  · have hline := silent_line hpowered hplay ht
    simp only [State.sld, hline]
    exact ⟨sldHalf_getElem? hk, sldHalf_getElem? hk⟩

end Sys2Proof.Machine
end

section
/-! PROOF. The entry to STARVED, and RESUME by the play state (R99, R101, R108). -/

namespace Sys2Proof.Machine

/-! ### The entry to STARVED (R99) -/

/-- The engine as STARVED begins: the hole wait's count is 0, and the fill-stall timer starts, unless it runs on from
PRIMING (R99, R102). -/
def starvedEngine (s : State) : Engine :=
  { s.engine with
    play := .starved, anticipate := false, holeWait := 0
    stall := if s.engine.play = .priming then s.engine.stall
      else some ⟨s.now, s.params.fillStallTimeout, (s.engine.stall.map StallTimer.stalled).getD false⟩ }

/-- STARVED before a hole at P is judged. -/
def starving (s : State) : State :=
  let t := { s with engine := { s.engine with holeWait := 0 } } |> setPlay .starved
    |> raiseS (.starved s.ring.p) |> rise .starveEpisodes 1
  if s.engine.play = .priming then t else startStall t

/-- The entry to STARVED, before a hole at P is judged: what it leaves and tells. -/
structure Starves (s t : State) : Prop where
  state : t = { s with engine := starvedEngine s, events := t.events }
  dSet : t.events.dSet = s.events.dSet
  counted : ∀ {b : State} {up : CounterId → Nat}, Counted b s up → up .starveEpisodes = 0 →
    Counted b t fun c => if c = .starveEpisodes then 1 else up c
  sSet : RaisesWithin [0, 3, 13] s t
  starved : ∃ n, ⟨SEvent.starved s.ring.p, n⟩ ∈ t.events.sSet
  told : s.engine.play ≠ .starved → ∃ n, ⟨SEvent.playStateChanged .starved s.engine.intent, n⟩ ∈ t.events.sSet

theorem starves_starving (s : State) : Starves s (starving s) := by
  have hplay := setPlay_eq .starved { s with engine := { s.engine with holeWait := 0 } }
  obtain ⟨hdSet, hcounters⟩ := setPlay_rest .starved { s with engine := { s.engine with holeWait := 0 } }
  have hset : RaisesWithin [0] s (setPlay .starved { s with engine := { s.engine with holeWait := 0 } }) :=
    raisesWithin_setPlay (by decide) .starved { s with engine := { s.engine with holeWait := 0 } }
  have htold : s.engine.play ≠ .starved → ∃ n, ⟨SEvent.playStateChanged .starved s.engine.intent, n⟩ ∈
      (setPlay .starved { s with engine := { s.engine with holeWait := 0 } }).events.sSet := fun hne =>
    setPlay_told (s := { s with engine := { s.engine with holeWait := 0 } }) (Ne.symm hne)
  have hevents : (starving s).events = (rise .starveEpisodes 1 (raiseS (.starved s.ring.p)
      (setPlay .starved { s with engine := { s.engine with holeWait := 0 } }))).events := by
    unfold starving; dsimp only; split <;> rfl
  have hstate : starving s = { s with engine := starvedEngine s, events := (starving s).events } := by
    rw [hevents]
    unfold starving starvedEngine
    rw [rise_eq]
    dsimp only
    rw [hplay]
    split <;> rfl
  generalize setPlay .starved { s with engine := { s.engine with holeWait := 0 } } = v at *
  have hraise := raisesWithin_raiseS (ps := [3]) (e := .starved s.ring.p) (by simp [SEvent.pos]) v
  have hrise := raisesWithin_rise (ps := [13]) (by decide) .starveEpisodes 1 (raiseS (.starved s.ring.p) v)
  refine ⟨hstate, ?_, fun {b up} hb hup => ?_, fun x hx => ?_, ?_, fun hne => ?_⟩
  · rw [hevents, rise_dSet]; exact hdSet
  · refine ((hb.congr (t' := raiseS (.starved s.ring.p) v) hcounters fun _ => rfl).rise hup 1).congr ?_ fun _ => rfl
    rw [hevents]
  · rw [hevents]
    exact (((hset.mono (by decide)).trans (hraise.mono (by decide))).trans (hrise.mono (by decide))) x hx
  · rw [hevents]
    exact hrise.keeps (by simp [SEvent.pos]) (exists_mem_latch ..)
  · rw [hevents]
    exact hrise.keeps (by simp [SEvent.pos]) (hraise.keeps (by simp [SEvent.pos]) (htold hne))

theorem enterStarved_starving (s : State) : enterStarved s =
    if s.holeWaitLimit = 0 ∧ (s.slot s.ring.p).isMissing = true then expireHole (starving s) else starving s := by
  have hdef : enterStarved s = if s.holeWaitLimit = 0 then judgeHoleWait (starving s) else starving s := rfl
  have hstate := (starves_starving s).state
  rw [hdef]
  generalize starving s = v at *
  have hslot : v.slot v.ring.p = s.slot s.ring.p ∧ v.holeWaitLimit = s.holeWaitLimit ∧
      v.engine.play = .starved ∧ v.engine.holeWait = 0 := by rw [hstate]; exact ⟨rfl, rfl, rfl, rfl⟩
  obtain ⟨hslot, hlimit, hplay, hwait⟩ := hslot
  by_cases hl : s.holeWaitLimit = 0
  · by_cases hm : (s.slot s.ring.p).isMissing = true
    · rw [if_pos hl, if_pos ⟨hl, hm⟩, judgeHoleWait_over ⟨hplay, by rw [hslot, hm], by omega⟩]
    · rw [if_pos hl, if_neg (by simp [hm]), judgeHoleWait_waits (by simp [hslot, hm])]
  · rw [if_neg hl, if_neg (by simp [hl])]

/-! ### RESUME (R108) -/

theorem not_playable_of_missing {x : Slot} (h : x.isMissing = true) : x.playable = false := by
  revert h; cases x <;> simp [Slot.isMissing, Slot.playable]

section
variable {u : State}

theorem resumeAct_paused (h : u.engine.play = .paused) :
    resumeAct u = respondOk .s [] (finish u (resumePaused u)) := by simp only [resumeAct, h]

theorem resumePaused_end (h : u.ring.p = u.t) : resumePaused u = endOfDisc (setIntent .play u) := if_pos h

theorem resumePaused_playable (h : u.ring.p ≠ u.t) (hp : (u.slot u.ring.p).playable = true) :
    resumePaused u = setPlayTarget 4096 (openAndPlay (setIntent .play u)) := (if_neg h).trans (if_pos hp)

theorem resumePaused_starves (h : u.ring.p ≠ u.t) (hp : (u.slot u.ring.p).playable = false) :
    resumePaused u = enterStarved (setPlayGain 4096 4096 (setIntent .play u)) :=
  (if_neg h).trans (if_neg (by rw [show (setIntent .play u).playable (setIntent .play u).ring.p = false from hp]; simp))

theorem resumeAct_ramp (hd : u.planner.scanDue = false) (h : u.engine.play = .rampDown .paused) :
    resumeAct u = respondOk .s [] (u |> setIntent .play |> setPlay .playing |> setPlayTarget 4096) := by
  simp only [resumeAct, h]
  rw [finish_playing hd (by simp) (by simp) (by simp [h, setPlayTarget_eq])]

theorem resumeAct_wrongState (h : u.engine.play ≠ .paused) (h' : u.engine.play ≠ .rampDown .paused) :
    resumeAct u = refuse .s .wrongState u := by
  unfold resumeAct
  split <;> [contradiction; contradiction; rfl]

end

/-- What RESUME from PAUSED leaves as it was before T, with its answer. -/
def ResumeKeeps (s t : State) : Prop :=
  t.intake = s.intake ∧ t.rates = s.rates ∧ t.session = s.session ∧ t.power = s.power ∧ t.params = s.params ∧
    t.line = s.line ∧ t.dPort = s.dPort ∧ t.now = s.now ∧ t.sPort = answer s .s 0 .ok [0]

/-- An act that keeps to the engine, its orders and its gains leaves the rest. -/
theorem resumeKeeps_finish {s v : State} (h : v = { sendStatus .s 2 s with
      ring := v.ring, planner := v.planner, engine := v.engine, conceal := v.conceal, events := v.events }) :
    ResumeKeeps s (respondOk .s [] (finish (sendStatus .s 2 s) v)) := by
  unfold ResumeKeeps
  simp only [respondOk_def, respond_s, finish_frame]
  rw [h]
  exact ⟨rfl, rfl, rfl, rfl, rfl, rfl, rfl, rfl, rfl⟩

/-- The state of RESUME at a slot P that is not playable, before STARVED is entered (R108). -/
def resumeStarves (s : State) : State := setPlayGain 4096 4096 (setIntent .play (sendStatus .s 2 s))

section
variable {s : State} (hp : s.engine.play = .paused)
include hp

/-- Slot P opens (R92). -/
theorem resume_opens (hd : s.planner.scanDue = false) (hlaw : s.planner.Law) :
    let t := respondOk .s [] (finish (sendStatus .s 2 s)
      (setPlayTarget 4096 (openAndPlay (setIntent .play (sendStatus .s 2 s)))))
    ResumeKeeps s t ∧ t.engine = { opened s.engine with intent := .play } ∧
    t.conceal = { s.conceal with
      gpTarget := 4096
      gpStep := if s.conceal.gpTarget ≠ 4096 ∧ s.conceal.gp = s.conceal.gpTarget then stepOf s.params.rp
        else s.conceal.gpStep } ∧
    (∃ n, ⟨SEvent.playStateChanged .playing .play, n⟩ ∈ t.events.sSet) ∧ t.events.counters = s.events.counters ∧
    t.ring = s.ring ∧ Trims s.ring.p true s t := by
  obtain ⟨hstate, hcuts, hcounters, -, htold⟩ := playsOn_openAndPlay (setIntent .play (sendStatus .s 2 s))
  generalize openAndPlay (setIntent .play (sendStatus .s 2 s)) = v at *
  have htrims := (passes_opened (s := sendStatus .s 2 s) (apart_of_law hlaw) (((hcuts (apart_of_law hlaw)).of_same
    (v := setPlayTarget 4096 v) (by simp) (by simp)).from rfl rfl)).trims hlaw hd (by rw [setPlayTarget_eq, hstate]; rfl)
    (by rw [setPlayTarget_eq, hstate]; rfl)
  obtain ⟨hsSet, hsame⟩ := finish_sSet (sendStatus .s 2 s) (setPlayTarget 4096 v)
  obtain ⟨hring, -, -, hengine, hconceal, -⟩ := finish_frame (sendStatus .s 2 s) (setPlayTarget 4096 v)
  refine ⟨resumeKeeps_finish (by rw [setPlayTarget_eq, hstate]; rfl), hengine.trans ?_, hconceal.trans ?_, ?_,
    hsame.trans ?_, hring.trans ?_, htrims.answered⟩
  · rw [setPlayTarget_eq, hstate]; rfl
  · rw [setPlayTarget_eq, hstate]; rfl
  · refine (htold (by show s.engine.play ≠ _; simp [hp])).imp fun n hn => ?_
    rw [respondOk_def, respond_s, hsSet, setPlayTarget_eq]
    exact hn
  · rw [setPlayTarget_eq]; exact hcounters
  · rw [setPlayTarget_eq, hstate]; rfl

/-- STARVED at a slot P that waits (R99). -/
theorem resume_starves (hd : s.planner.scanDue = false) :
    let t := respondOk .s [] (finish (sendStatus .s 2 s) (starving (resumeStarves s)))
    ResumeKeeps s t ∧
    t.engine = { s.engine with
      intent := .play, play := .starved, anticipate := false, holeWait := 0
      stall := some ⟨s.now, s.params.fillStallTimeout, (s.engine.stall.map StallTimer.stalled).getD false⟩ } ∧
    t.conceal = { s.conceal with gp := 4096, gpTarget := 4096 } ∧
    (Counted s t fun c => if c = .starveEpisodes then 1 else 0) ∧
    (∃ n, ⟨SEvent.starved s.ring.p, n⟩ ∈ t.events.sSet) ∧ t.ring = s.ring ∧ t.planner = s.planner := by
  obtain ⟨hstate, -, hcounted, -, hstarved, -⟩ := starves_starving (resumeStarves s)
  have hkeeps := resumeKeeps_finish (s := s) (v := starving (resumeStarves s)) (by rw [hstate]; rfl)
  dsimp only
  generalize starving (resumeStarves s) = v at *
  have hquiet : finish (sendStatus .s 2 s) v = v :=
    finish_playing hd (by rw [hstate]; rfl) (by rw [hstate]; rfl) (by
      rw [hstate]; show s.engine.play = .stopped ↔ Play.starved = .stopped; simp [hp])
  rw [hquiet] at hkeeps ⊢
  have hengine : v.engine = starvedEngine (resumeStarves s) := by rw [hstate]
  have hnot : (resumeStarves s).engine.play ≠ .priming := by show s.engine.play ≠ _; simp [hp]
  rw [starvedEngine, if_neg hnot] at hengine
  exact ⟨hkeeps, hengine, (congrArg State.conceal hstate).trans rfl, hcounted (counted_of_counters rfl) rfl, hstarved,
    (congrArg State.ring hstate).trans rfl, (congrArg State.planner hstate).trans rfl⟩

end

/-- A hole at P given up at once (R101). -/
theorem resume_goesThrough {s : State} (hd : s.planner.scanDue = false) (hlaw : s.planner.Law) (hring : s.ring.Law)
    (hm : (s.slot s.ring.p).isMissing = true) :
    let t := respondOk .s [] (finish (sendStatus .s 2 s) (expireHole (starving (resumeStarves s))))
    ResumeKeeps s t ∧ t.slot s.ring.p = .void s.ring.p ∧
    (∀ a, s.ring.p < a → a < s.ring.p + s.ring.len → t.slot a = s.slot a) ∧
    t.ring = { s.ring with slots := t.ring.slots } ∧
    t.engine = { opened s.engine with intent := .play, anticipate := false } ∧
    t.conceal = gainsFromStarved s.params false { s.conceal with gp := 4096, gpTarget := 4096 } ∧
    (Counted s t fun c => if c = .starveEpisodes ∨ c = .slotsAbandoned then 1 else 0) ∧
    (∃ n, ⟨SEvent.starved s.ring.p, n⟩ ∈ t.events.sSet) ∧
    (∃ n, ⟨SEvent.slotAbandoned s.ring.p s.ring.p, n⟩ ∈ t.events.sSet) ∧ Trims s.ring.p true s t := by
  obtain ⟨hstate, hdSet, hcounted, -, hstarved, -⟩ := starves_starving (resumeStarves s)
  have hkept : (starving (resumeStarves s)).ring = s.ring := by rw [hstate]; rfl
  have htrims := trims_expireHole (s := sendStatus .s 2 s) hkept (by rw [hstate]; rfl) (hdSet.trans rfl) hd hlaw
  have hkeeps := resumeKeeps_finish (s := s) (v := expireHole (starving (resumeStarves s))) (by
    rw [(expires_expireHole (starving (resumeStarves s))).state, hstate]; rfl)
  obtain ⟨hvoid, hslots, hsame, hengine, hconceal, hsSet, habandoned, -, hcount, -⟩ :=
    holeEnds_expireHole (sendStatus .s 2 s) (w := starving (resumeStarves s)) (hkept ▸ hring) (by
      rw [State.slot, hkept]; exact hm)
  dsimp only
  generalize finish (sendStatus .s 2 s) (expireHole (starving (resumeStarves s))) = t at *
  rw [hstate] at hvoid hslots hsame habandoned hengine hconceal
  refine ⟨hkeeps, hvoid, hslots, hsame, hengine, hconceal,
    (hcount (hcounted (counted_of_counters rfl) rfl) rfl).congr rfl fun c => ?_,
    hsSet.keeps (by simp [SEvent.pos]) hstarved, habandoned, htrims.answered⟩
  cases c <;> rfl

/-- Settles O23: RESUME opens slot P, or starves, or ends the disc, and a pause ramp turns round. -/
theorem resumeByPlayState : Obligations.ResumeByPlayState := by
  intro s h hd hlaw others
  rw [exec_resume h]
  have hpaused : s.engine.play = .paused →
      resumeAct (sendStatus .s 2 s) = respondOk .s [] (finish (sendStatus .s 2 s) (resumePaused (sendStatus .s 2 s))) :=
    fun hp => resumeAct_paused (u := sendStatus .s 2 s) hp
  have hstarves : s.ring.p ≠ s.t → (s.slot s.ring.p).playable = false →
      resumePaused (sendStatus .s 2 s) = enterStarved (resumeStarves s) :=
    fun hend hplays => resumePaused_starves (u := sendStatus .s 2 s) hend hplays
  refine ⟨fun hp hend hplays => ⟨_, ?_, resume_opens hp hd hlaw⟩, fun hp hend hplays hwait => ?starved,
    fun hp hend hm hlimit hring => ?hole, fun hp hend => ?ended, fun hp => ?ramp, fun hp hramp => ?wrongState⟩
  · rw [hpaused hp, resumePaused_playable (u := sendStatus .s 2 s) hend hplays]
  case starved =>
    have hno : ¬ ((resumeStarves s).holeWaitLimit = 0 ∧
        ((resumeStarves s).slot (resumeStarves s).ring.p).isMissing = true) := fun ho =>
      hwait.elim (fun hlt => absurd ho.1 (Nat.ne_of_gt hlt)) fun hm => Bool.noConfusion (hm.symm.trans ho.2)
    obtain ⟨hkeeps, hengine, hconceal, hcounted, hstarved, hring, hplanner⟩ := resume_starves hp hd
    rw [hpaused hp, hstarves hend hplays, enterStarved_starving, if_neg hno]
    exact ⟨_, rfl, hkeeps, by rw [hengine], by rw [hengine], by rw [hengine], by rw [hengine], by rw [hengine],
      ⟨_, by rw [hengine], rfl, rfl⟩, hconceal, hcounted, hstarved, hring, hplanner⟩
  case hole =>
    have hover : (resumeStarves s).holeWaitLimit = 0 ∧
        ((resumeStarves s).slot (resumeStarves s).ring.p).isMissing = true := ⟨hlimit, hm⟩
    obtain ⟨hkeeps, hvoid, hslots, hsame, hengine, hconceal, hcounted, hstarved, habandoned, htrims⟩ :=
      resume_goesThrough hd hlaw hring hm
    rw [hpaused hp, hstarves hend (not_playable_of_missing hm), enterStarved_starving, if_pos hover]
    exact ⟨_, rfl, hkeeps, hvoid, hslots, hsame, by rw [hengine]; rfl, by rw [hengine]; rfl, by rw [hengine],
      by rw [hengine]; rfl, by rw [hengine]; rfl, by rw [hengine]; rfl, hconceal, hcounted, hstarved, habandoned, htrims⟩
  case ended =>
    obtain ⟨hstops, hend'⟩ := stops_endOfDisc (setIntent .play (sendStatus .s 2 s))
    rw [hpaused hp, resumePaused_end (u := sendStatus .s 2 s) hend]
    have hends := hstops.finish (sendStatus .s 2 s)
    have hkept := (raisesWithin_finish [] (sendStatus .s 2 s) (endOfDisc (setIntent .play (sendStatus .s 2 s)))).keeps
      (by simp) hend'
    generalize finish (sendStatus .s 2 s) (endOfDisc (setIntent .play (sendStatus .s 2 s))) = t at *
    obtain ⟨hring, hplanner, -, hengine, -, ⟨hrates, hsession, hpower, hparams, -, hsPort, hdPort, -⟩,
      hdSet, -, -, -, htold, hprogram⟩ := hends
    refine ⟨_, rfl, congrArg Engine.play hengine, congrArg Engine.intent hengine, congrArg Engine.f hengine,
      congrArg Engine.slotOpen hengine, hring, congrArg Planner.queue hplanner, hdSet,
      htold (by show s.engine.play ≠ _; simp [hp]), hkept,
      ⟨hprogram.number, hprogram.raised, hprogram.quiet⟩, hsession, hrates, hpower, hparams, hdPort, ?_⟩
    rw [respondOk_def, respond_s, hsPort]
    rfl
  case ramp =>
    rw [resumeAct_ramp (u := sendStatus .s 2 s) hd hp, setPlayTarget_eq]
    refine ⟨_, rfl, ?_, ?_, ?_, ?_⟩
    · rw [setPlay_eq]; rfl
    · exact (setPlay_sSet ..).trans (if_neg (by show _ ≠ s.engine.play; simp [hp]))
    · exact (setPlay_rest ..).1
    · exact (setPlay_rest ..).2
  case wrongState => rw [resumeAct_wrongState (u := sendStatus .s 2 s) hp hramp]; rfl

end Sys2Proof.Machine
end

section
/-! PROOF. PLAY_AT at a clamped position: the flush into PRIMING (R103, R104, R106). -/

namespace Sys2Proof.Machine

/-! ### The command's position (R104) -/

/-- PLAY_AT reads its address and its frame, and clamps them (R104). -/
theorem exec_playAt {s : State} (h : s.InPlay) {a f : Nat} (ha : a < 16777216) (hf : f < 65536) :
    exec (.playAt (goodFrame 0x08 (le24 a ++ le16 f))) s = .next (playCommand (min a (s.t - 1)) (min f (s.frames - 1))
      (min a (s.t - 1) != a || min f (s.frames - 1) != f) (sendStatus .s 7 s)) := by
  have hact := command_inPlay h 0x08 (le24 a ++ le16 f) (by simp [le24, le16]) (playAtAct (le24 a ++ le16 f))
  have hread : playAtAct (le24 a ++ le16 f) (sendStatus .s 7 s) = playCommand (min a (s.t - 1)) (min f (s.frames - 1))
      (min a (s.t - 1) != a || min f (s.frames - 1) != f) (sendStatus .s 7 s) := by
    have haddress : ofLe ((le24 a ++ le16 f).take 3) = a := ofLe_le24 ha
    have hframe : ofLe ((le24 a ++ le16 f).drop 3) = f := ofLe_le16 hf
    simp only [playAtAct, haddress, hframe]
    rfl
  exact congrArg Host.Outcome.next (hact.trans hread)

theorem flagsByte_clamped (c : Bool) : flagsByte c false = if c then 1 else 0 := by cases c <;> rfl

/-- The flags byte of PLAY_AT (R104). -/
theorem flagsByte_position {a a' f f' : Nat} :
    flagsByte (a' != a || f' != f) false = if a' = a ∧ f' = f then 0 else 1 := by
  rw [flagsByte_clamped]
  by_cases ha : a' = a <;> by_cases hf : f' = f <;> simp [ha, hf]

/-! ### The flush into PRIMING (R106) -/

theorem setIntent_same {i : Intent} {s : State} (h : s.engine.intent = i) : setIntent i s = s := by subst h; rfl

/-- With nothing held, play intended and P before T, PRIMING goes on (R103). -/
theorem enterPriming_waits {w : State} (hintent : w.engine.intent = .play) (he : w.ring.e = w.ring.p)
    (hdepth : 1 ≤ w.params.startDepth) (hp : w.ring.p ≠ w.t) : enterPriming w = priming w := by
  have h := enterPriming_empty he hdepth
  rwa [setIntent_same hintent, if_neg hp] at h

/-- The state in which a flush for PLAY_AT enters PRIMING. -/
def sought (a f : Nat) (s : State) : State := raiseD (.seekRequested a) (setFrame f (flush a (setIntent .play s)))

/-- What a flush for PLAY_AT comes to at the end of an event that began at `b`, where PRIMING does not end at once. -/
structure Seeks (a f : Nat) (b s t : State) : Prop where
  ring : t.ring = s.ring.flush a s.session.fingerprint
  planner : t.planner.queue = [] ∧ t.planner.tagCounter = 0
  intake : t.intake.run = none
  engine : t.engine.f = f ∧ t.engine.intent = .play ∧ t.engine.play = .priming ∧ t.engine.slotOpen = false
  stall : ∃ k, t.engine.stall = some k ∧ k.since = s.now ∧ k.timeout = s.params.fillStallTimeout
  conceal : t.conceal.gp = 0 ∧ t.conceal.gpTarget = 0 ∧ t.conceal.left = ⟨0, none⟩ ∧ t.conceal.right = ⟨0, none⟩
  dSet : t.events.dSet = pauseTold b.pauseFlag false
    (latch DEvent.pos (.seekRequested a) (emptiedTold s.planner.queue s.events.dSet))
  program : ProgramTold s t
  told : s.engine.play ≠ .priming → ∃ n, ⟨SEvent.playStateChanged .priming .play, n⟩ ∈ t.events.sSet
  rest : t.rates = s.rates ∧ t.session = s.session ∧ t.power = s.power ∧ t.params = s.params ∧ t.line = s.line ∧
    t.dPort = s.dPort ∧ t.sPort = s.sPort

theorem seeks_playTo {a f : Nat} {b s : State} (hout : ¬ (s.ring.p ≤ a ∧ a < s.ring.e)) (ha : a < s.t)
    (hdepth : 1 ≤ s.params.startDepth) : Seeks a f b s (finish b (playTo a f s)) := by
  have hplay : playTo a f s = enterPriming (sought a f s) := if_neg hout
  obtain ⟨hstate, hdSet, -, hsSet, -, hprogram⟩ := flushes_flush a (setIntent .play s)
  have hsought : sought a f s = { emptied a (setIntent .play s) with
      engine := { (emptied a (setIntent .play s)).engine with
        f := f, program := (emptied a (setIntent .play s)).programNow }
      events := (sought a f s).events } := by
    unfold sought; rw [hstate]; rfl
  have hwdSet : (sought a f s).events.dSet = latch DEvent.pos (.seekRequested a)
      (emptiedTold s.planner.queue s.events.dSet) := congrArg (latch DEvent.pos (.seekRequested a)) hdSet
  have hwsSet : RaisesWithin [1] s (sought a f s) := hsSet
  have hwprogram : ProgramTold s (sought a f s) :=
    hprogram.within rfl (fun _ _ => .rfl) rfl rfl rfl fun _ _ => .rfl
  generalize sought a f s = w at *
  have hprime : enterPriming w = priming w :=
    enterPriming_waits (by rw [hsought]; rfl) (by rw [hsought]; rfl) (by rw [hsought]; exact hdepth)
      (by rw [hsought]; exact Nat.ne_of_lt ha)
  have hpstate := priming_eq w
  have hpd : (priming w).events.dSet = w.events.dSet := (setPlay_rest _ _).1
  have hps : RaisesWithin [0] w (priming w) := raisesWithin_setPlay (by decide) .priming _
  have hptold : w.engine.play ≠ .priming → ∃ n, ⟨SEvent.playStateChanged .priming .play, n⟩ ∈ (priming w).events.sSet :=
    fun hne => setPlay_told (p := .priming) (s := startStall { setIntent .play w with
      engine := { (setIntent .play w).engine with holeWait := 0 } }) (Ne.symm hne)
  rw [hplay, hprime]
  generalize priming w = v at *
  obtain ⟨hfinish, hfdSet⟩ := finish_emptied (b := b) (s := v) (by rw [hpstate, hsought]; rfl)
    (by rw [hpstate, hsought]; rfl)
  have hflag : v.pauseFlag = false := by rw [hpstate, hsought]; rfl
  have hsame : RaisesWithin [] v (finish b v) := raisesWithin_finish [] b v
  refine ⟨?_, ?_, ?_, ?_, ⟨⟨s.now, s.params.fillStallTimeout, (s.engine.stall.map StallTimer.stalled).getD false⟩,
    ?_, rfl, rfl⟩, ?_, ?_, ?_, fun hne => ?_, ?_⟩
  · rw [hfinish, hpstate, hsought]; rfl
  · rw [hfinish, hpstate, hsought]; exact ⟨rfl, rfl⟩
  · rw [hfinish, hpstate, hsought]; rfl
  · rw [hfinish, hpstate, hsought]; exact ⟨rfl, rfl, rfl, rfl⟩
  · rw [hfinish, hpstate, hsought]; rfl
  · rw [hfinish, hpstate, hsought]; exact ⟨rfl, rfl, rfl, rfl⟩
  · rw [hfdSet, hflag, hpd, hwdSet]
  · exact hwprogram.within rfl (fun _ _ => .rfl) (by rw [hfinish, hpstate]) (by rw [hfinish, hpstate])
      (by rw [hfinish, hpstate]) fun x hx => (hsame x (by simp)).trans (hps x (by simp [hx]))
  · exact hsame.keeps (by simp) (hptold (by rw [hsought]; exact hne))
  · rw [hfinish, hpstate, hsought]; exact ⟨rfl, rfl, rfl, rfl, rfl, rfl, rfl⟩

/-- Settles O26: the flush empties ring and queue, and PRIMING waits there for a depth of at least 1. -/
theorem playAtSeeks : Obligations.PlayAtSeeks := by
  intro a f s h hd ht hdepth a' f' hout
  rw [exec_playAt h a.isLt f.isLt]
  obtain ⟨hring, ⟨hqueue, htag⟩, hrun, ⟨hframe, hintent, hplay, hopen⟩, hstall, ⟨hgp, hgpTarget, hleft, hright⟩, hdSet,
    hprogram, htold, hrates, hsession, hpower, hparams, hline, hdPort, hsPort⟩ :=
    seeks_playTo (a := a') (f := f') (b := sendStatus .s 7 s) (s := sendStatus .s 7 s) hout
      (show a' < s.t by omega) hdepth
  refine ⟨_, rfl, hring, hframe, hintent, hplay, hopen, hstall, hgp, hgpTarget, hleft, hright, hrun, hqueue, htag, hdSet,
    ⟨hprogram.number, hprogram.raised, hprogram.quiet⟩, htold, hrates, hsession, hpower, hparams, hline, hdPort, ?_⟩
  rw [playCommand, respond_s, hsPort, hplay, flagsByte_position]
  rfl

end Sys2Proof.Machine
end

section
/-! PROOF. P moves on to a later address, and the in-window jump (R13, R14, R36, R73, R105). -/

namespace Sys2Proof.Machine

/-! ### The slots behind an advance (R14) -/

theorem emptySlots_slot {r : Ring} {lo n a x : Nat} (hw : slotsWf r.slots = true) (ha : lo ≤ a)
    (hn : a + n ≤ lo + r.len) (hx : lo ≤ x ∧ x < lo + r.len) :
    (emptySlots n a r).slot x = if a ≤ x ∧ x < a + n then .empty else r.slot x := by
  induction n generalizing a r with
  | zero => rw [if_neg (by omega)]; rfl
  | succ n ih =>
    have hstep := ih (r := r.setSlot a .empty) (a := a + 1) (setSlot_wf _ _ hw) (by omega)
      (by show a + 1 + n ≤ lo + r.len; omega) hx
    rw [emptySlots, hstep]
    by_cases hax : x = a
    · subst hax
      rw [if_neg (by omega), if_pos (by omega), slot_setSlot_same _ _ hw]
    · rw [slot_setSlot_ne (lo := lo) _ ⟨ha, by omega⟩ hx hax]
      congr 1
      rw [eq_iff_iff]
      omega

/-- An advance inside the window: the slots passed are EMPTY, the others stay (R14). -/
theorem advance_slot {r : Ring} (hr : r.Law) {a x : Nat} (hlo : r.p ≤ a) (hhi : a ≤ r.e) (hx : r.p ≤ x)
    (hxhi : x < r.p + r.len) : (r.advance a).slot x = if x < a then .empty else r.slot x := by
  obtain ⟨hw, -, hel, -⟩ := (law_iff r).mp hr
  have hslots := emptySlots_slot (r := r) (lo := r.p) (n := a - r.p) (a := r.p) (x := x) hw (le_refl _) (by omega)
    ⟨hx, hxhi⟩
  have hcond : (r.p ≤ x ∧ x < r.p + (a - r.p)) = (x < a) := by rw [eq_iff_iff]; omega
  rw [← if_congr (iff_of_eq hcond) rfl rfl]
  exact hslots

theorem advance_law {r : Ring} (hr : r.Law) {a : Nat} (hlo : r.p ≤ a) (hhi : a ≤ r.e) : (r.advance a).Law :=
  (moves_advance (live := True) (fp := none) (t := 0) trivial hlo fun _ => hhi).law hr

theorem emptySlots_eq (n a : Nat) (r : Ring) : emptySlots n a r = { r with slots := (emptySlots n a r).slots } := by
  induction n generalizing a r with
  | zero => rfl
  | succ n ih => exact ih (a + 1) (r.setSlot a .empty)

theorem advance_frame (a : Nat) (r : Ring) : r.advance a = { r with p := a, slots := (r.advance a).slots } := by
  unfold Ring.advance
  rw [emptySlots_eq]

/-! ### P moves on (R13, R73, R36) -/

/-- P at a later address of the ring `r`, slot P unopened at the frame `f`: the orders are trimmed, and the latch judged. -/
def movedTo (r : Ring) (f : Nat) (s : State) : State :=
  { s with ring := r, engine := { s.engine with f := f, slotOpen := false } } |> trimAll r.p |> judgeLatchLow

/-- What the move leaves and tells: the trim's withdrawals alone (R73). -/
structure MovesTo (r : Ring) (f : Nat) (s t : State) : Prop where
  state : t = { s with
    ring := r, engine := { s.engine with f := f, slotOpen := false }, planner := t.planner
    intake := { s.intake with latch := s.intake.latch && decide (r.len - s.params.releaseMargin < r.fullness) }
    events := t.events }
  cuts : Apart s.planner.queue → Cuts r.p s t
  sSet : t.events.sSet = s.events.sSet
  counters : t.events.counters = s.events.counters

theorem judgeLatchLow_eq (s : State) : judgeLatchLow s = { s with intake := { s.intake with
    latch := s.intake.latch && decide (s.ring.len - s.params.releaseMargin < s.ring.fullness) } } := by
  unfold judgeLatchLow
  split
  · rename_i h; simp [Nat.not_lt.mpr h]
  · rename_i h; simp [Nat.lt_of_not_le h]

theorem movesTo_movedTo (r : Ring) (f : Nat) (s : State) : MovesTo r f s (movedTo r f s) := by
  have hstate := trimAll_state r.p { s with ring := r, engine := { s.engine with f := f, slotOpen := false } }
  obtain ⟨hsSet, hcounters⟩ := trimAll_events r.p { s with ring := r, engine := { s.engine with f := f, slotOpen := false } }
  have hcuts : Apart s.planner.queue → Cuts r.p s
      (trimAll r.p { s with ring := r, engine := { s.engine with f := f, slotOpen := false } }) := fun h =>
    (trimmed_trimAll r.p (s := { s with ring := r, engine := { s.engine with f := f, slotOpen := false } }) h).cuts.from
      rfl rfl
  unfold movedTo
  generalize trimAll r.p { s with ring := r, engine := { s.engine with f := f, slotOpen := false } } = v at *
  rw [judgeLatchLow_eq]
  refine ⟨?_, fun h => (hcuts h).of_same rfl rfl, hsSet, hcounters⟩
  rw [hstate]

/-! ### STARVED entered at the P of `v` (R99, R101) -/

/-- The wait at P ends as it begins: P is a hole, and the hole wait is 0. -/
def playsThrough (v : State) : Bool := decide (v.holeWaitLimit = 0) && (v.slot v.ring.p).isMissing

theorem playsThrough_iff {v : State} :
    playsThrough v = true ↔ v.holeWaitLimit = 0 ∧ (v.slot v.ring.p).isMissing = true := by
  rw [playsThrough, Bool.and_eq_true, decide_eq_true_eq]

/-- What the entry to STARVED leaves and tells before the end of its event. -/
structure StarveLands (v t : State) : Prop where
  state : t = { v with
    ring := if playsThrough v then v.ring.giveUpHole v.ring.p else v.ring
    engine := if playsThrough v then opened (starvedEngine v) else starvedEngine v
    conceal := if playsThrough v then gainsFromStarved v.params false v.conceal else v.conceal
    planner := t.planner
    events := t.events }
  passes : ∀ {s : State}, Cuts v.ring.p s v → Apart s.planner.queue → Passes v.ring.p (playsThrough v) s t
  counted : ∀ {b : State} {up : CounterId → Nat}, Counted b v up → up .starveEpisodes = 0 → up .slotsAbandoned = 0 →
    Counted b t fun c => if c = .starveEpisodes then 1 else if c = .slotsAbandoned ∧ playsThrough v then 1 else up c
  sSet : RaisesWithin [0, 3, 4, 13] v t
  starved : ∃ n, ⟨SEvent.starved v.ring.p, n⟩ ∈ t.events.sSet
  abandoned : playsThrough v = true → ∃ n, ⟨SEvent.slotAbandoned v.ring.p v.ring.p, n⟩ ∈ t.events.sSet

theorem starveLands_enterStarved (v : State) : StarveLands v (enterStarved v) := by
  obtain ⟨hstate, hdSet, hcounted, hsSet, hstarved, -⟩ := starves_starving v
  have hplanner : (starving v).planner = v.planner := by rw [hstate]
  rw [enterStarved_starving]
  by_cases hthrough : playsThrough v = true
  · obtain ⟨hxstate, hcuts, hxcounted, hxsSet, habandoned, -⟩ := expires_expireHole (starving v)
    rw [if_pos (playsThrough_iff.mp hthrough)]
    generalize starving v = w at *
    have hp : w.ring.p = v.ring.p := by rw [hstate]
    rw [hp, hplanner] at hcuts
    rw [hp] at habandoned
    generalize expireHole w = u at *
    refine ⟨?_, fun hv h => ?_, fun hb h1 h2 => ?_, (hsSet.mono (by decide)).trans (hxsSet.mono (by decide)),
      hxsSet.keeps (by simp [SEvent.pos]) hstarved, fun _ => habandoned⟩
    · rw [hxstate, hstate]
      simp only [if_pos hthrough]
      rfl
    · rw [hthrough]
      exact hv.passes_opened h ((hcuts (hv.apart h)).from hplanner hdSet)
    · refine (hxcounted (hcounted hb h1) (by simpa using h2)).congr rfl fun c => ?_
      cases c <;> simp [hthrough]
  · rw [if_neg fun h => hthrough (playsThrough_iff.mpr h)]
    generalize starving v = w at *
    refine ⟨?_, fun hv h => ?_, fun hb h1 _ => ?_, hsSet.mono (by decide), hstarved, fun h => absurd h hthrough⟩
    · simp only [if_neg hthrough]
      exact hstate.trans (by rw [hplanner])
    · rw [Bool.eq_false_iff.mpr hthrough]
      exact (hv.of_same hplanner hdSet).passes h
    · refine (hcounted hb h1).congr rfl fun c => ?_
      simp [hthrough]

end Sys2Proof.Machine
end

section
/-! PROOF. PLAY_AT inside the held range: the in-window jump (R104, R105). -/

namespace Sys2Proof.Machine

/-- A hole given up, or kept, changes no other slot. -/
theorem giveUpHole_slot_ne {r : Ring} {lo a x : Nat} (ha : lo ≤ a ∧ a < lo + r.len) (hx : lo ≤ x ∧ x < lo + r.len)
    (hne : x ≠ a) : (r.giveUpHole a).slot x = r.slot x := by
  unfold Ring.giveUpHole
  split <;> [exact slot_setSlot_ne _ ha hx hne; rfl]

/-! ### The jump before it lands (R105) -/

/-- The gains of a jump: the play gain full, the conceal gain up from 0, the last clean values 0. -/
def jumpGains (p : Params) (c : Conceal) : Conceal :=
  { c with
    left := channelReset, right := channelReset, gp := 4096, gpTarget := 4096, gc := 0, gcTarget := 4096
    gcUp := stepOf p.ru }

/-- They are the gains with which STARVED ends, too. -/
theorem gainsFromStarved_jumpGains (p : Params) (c : Conceal) :
    gainsFromStarved p false (jumpGains p c) = jumpGains p c := by
  simp [gainsFromStarved, jumpGains, concealAim, channelReset, Channel.inLong]

/-- A jump to `a` and `f`, before play lands there. -/
def jumped (a f : Nat) (s : State) : State :=
  judgeProgram (movedTo (s.ring.advance a) f s) |> dropRuns |> setPlayGain 4096 4096
    |> (fun s => { s with engine := { s.engine with anticipate := false } }) |> setConcealGain 0

/-- What a jump leaves and tells before play lands. -/
structure Jumps (a f : Nat) (s v : State) : Prop where
  state : v = { s with
    ring := s.ring.advance a
    engine := { s.engine with f := f, slotOpen := false, anticipate := false, program := v.engine.program }
    planner := v.planner
    intake := { s.intake with
      latch := s.intake.latch && decide ((s.ring.advance a).len - s.params.releaseMargin < (s.ring.advance a).fullness) }
    conceal := jumpGains s.params s.conceal
    events := v.events }
  cuts : Apart s.planner.queue → Cuts a s v
  counters : v.events.counters = s.events.counters
  sSet : RaisesWithin [1] s v
  program : ProgramTold s v

theorem jumps_jumped (a f : Nat) (s : State) : Jumps a f s (jumped a f s) := by
  obtain ⟨hstate, hcuts, hsSet, hcounters⟩ := movesTo_movedTo (s.ring.advance a) f s
  have hjudge := judgeProgram_eq (movedTo (s.ring.advance a) f s)
  have hjrest := judgeProgram_rest (movedTo (s.ring.advance a) f s)
  have hwithin : RaisesWithin [1] s (judgeProgram (movedTo (s.ring.advance a) f s)) :=
    (RaisesWithin.of_sSet hsSet).trans (raisesWithin_judgeProgram (by decide) _)
  have htold : ProgramTold s (judgeProgram (movedTo (s.ring.advance a) f s)) :=
    (judgeProgram_told (movedTo (s.ring.advance a) f s)).within (by rw [hstate]) (fun x _ => by rw [hsSet]) rfl rfl rfl
      fun _ _ => .rfl
  unfold jumped
  rw [setConcealGain_zero]
  generalize judgeProgram (movedTo (s.ring.advance a) f s) = v at *
  generalize movedTo (s.ring.advance a) f s = w at *
  refine ⟨?_, fun h => (hcuts h).of_same ?_ ?_, ?_, hwithin, ⟨htold.number, htold.raised, htold.quiet⟩⟩
  · rw [hjudge, hstate]; rfl
  · rw [hjudge]; rfl
  · exact hjrest.1
  · exact hjrest.2.trans hcounters

theorem playTo_inside {a f : Nat} {s : State} (h : s.ring.p ≤ a ∧ a < s.ring.e) :
    playTo a f s = landJump (jumped a f (setIntent .play s)) := if_pos h

/-! ### Where play lands (R105) -/

/-- Play goes on at the P of `v`: its slot is playable, or a hole that does not wait. -/
def goesOnAt (v : State) : Bool := (v.slot v.ring.p).playable || playsThrough v

/-- What landing at the P of `v` leaves and tells before the end of its event. -/
structure Landing (v t : State) : Prop where
  state : t = { v with
    ring := if playsThrough v then v.ring.giveUpHole v.ring.p else v.ring
    engine := t.engine
    conceal := if playsThrough v then gainsFromStarved v.params false v.conceal else v.conceal
    planner := t.planner
    events := t.events }
  engine : t.engine.f = v.engine.f ∧ t.engine.intent = v.engine.intent ∧ t.engine.program = v.engine.program
  plays : goesOnAt v = true → t.engine.play = .playing ∧ t.engine.slotOpen = true
  starves : goesOnAt v = false → t.engine.play = .starved ∧ t.engine.slotOpen = v.engine.slotOpen
  passes : ∀ {s : State}, Cuts v.ring.p s v → Apart s.planner.queue → Passes v.ring.p (goesOnAt v) s t
  counted : ∀ {b : State}, Counted b v (fun _ => 0) →
    Counted b t fun c => if c = .starveEpisodes ∧ (v.slot v.ring.p).playable = false then 1
      else if c = .slotsAbandoned ∧ playsThrough v then 1 else 0
  sSet : RaisesWithin [0, 3, 4, 13] v t

theorem landing_landJump (v : State) : Landing v (landJump v) := by
  by_cases hp : (v.slot v.ring.p).playable = true
  · have hthrough : ¬ playsThrough v = true := fun h =>
      Bool.noConfusion (hp.symm.trans (not_playable_of_missing (playsThrough_iff.mp h).2))
    have hgoes : goesOnAt v = true := by rw [goesOnAt, hp]; rfl
    have hland : landJump v = openAndPlay v := if_pos hp
    obtain ⟨hstate, hcuts, hcounters, hsSet, -⟩ := playsOn_openAndPlay v
    rw [hland]
    generalize openAndPlay v = t at *
    have hengine : t.engine = opened v.engine := by rw [hstate]
    refine ⟨?_, by rw [hengine]; exact ⟨rfl, rfl, rfl⟩, fun _ => by rw [hengine]; exact ⟨rfl, rfl⟩,
      fun h => Bool.noConfusion (hgoes.symm.trans h), fun hv h => ?_, fun hb => ?_, hsSet.mono (by decide)⟩
    · simp only [if_neg hthrough]
      exact hstate.trans (by rw [hengine])
    · rw [hgoes]
      exact hv.passes_opened h (hcuts (hv.apart h))
    · exact hb.congr hcounters fun c => by simp [hp, hthrough]
  · have hplays : (v.slot v.ring.p).playable = false := by simpa using hp
    have hgoes : goesOnAt v = playsThrough v := by rw [goesOnAt, hplays]; rfl
    have hland : landJump v = enterStarved v := if_neg hp
    obtain ⟨hstate, hpasses, hcounted, hsSet, -, -⟩ := starveLands_enterStarved v
    rw [hland]
    generalize enterStarved v = t at *
    have hengine : t.engine = if playsThrough v then opened (starvedEngine v) else starvedEngine v := by rw [hstate]
    refine ⟨hstate.trans (by rw [hengine]), ?_, fun h => ?_, fun h => ?_, hgoes ▸ hpasses, fun hb => ?_, hsSet⟩
    · rw [hengine]; split <;> exact ⟨rfl, rfl, rfl⟩
    · rw [hengine, if_pos (by simpa [hgoes] using h)]; exact ⟨rfl, rfl⟩
    · rw [hengine, if_neg (by simpa [hgoes] using h)]; exact ⟨rfl, rfl⟩
    · exact (hcounted hb rfl rfl).congr rfl fun c => by simp [hplays]

/-- The ring behind a landing: slot P is VOID where play goes on through it, and the other slots stay. -/
theorem Landing.slots {v t : State} (h : Landing v t) {lo : Nat} (hp : lo ≤ v.ring.p ∧ v.ring.p < lo + v.ring.len) :
    t.ring = { v.ring with slots := t.ring.slots } ∧
    (v.ring.Law → t.slot v.ring.p = if playsThrough v then .void v.ring.p else v.slot v.ring.p) ∧
    ∀ x, lo ≤ x → x < lo + v.ring.len → x ≠ v.ring.p → t.slot x = v.slot x := by
  have hring : t.ring = if playsThrough v then v.ring.giveUpHole v.ring.p else v.ring := by rw [h.state]
  by_cases hthrough : playsThrough v = true
  · rw [if_pos hthrough] at hring
    simp only [if_pos hthrough, State.slot, hring]
    exact ⟨giveUpHole_frame _ _, fun hlaw => (giveUpHole_slot hlaw (le_refl _)
      (Nat.lt_add_of_pos_right (len_pos _)) (playsThrough_iff.mp hthrough).2).1, fun x hx hxhi hne => giveUpHole_slot_ne hp ⟨hx, hxhi⟩ hne⟩
  · rw [if_neg hthrough] at hring
    simp only [if_neg hthrough, State.slot, hring]
    exact ⟨trivial, fun _ => trivial, fun _ _ _ _ => trivial⟩

/-! ### The jump at the end of its event -/

/-- The ring and the rules of the part that has jumped to `a`, before play lands there. -/
theorem Jumps.window {a f : Nat} {s v : State} (h : Jumps a f s v) (hlaw : s.ring.Law) (hlo : s.ring.p ≤ a)
    (hhi : a < s.ring.e) : v.ring = { s.ring with p := a, slots := v.ring.slots } ∧ v.ring.Law ∧
    (∀ x, s.ring.p ≤ x → x < s.ring.p + s.ring.len → v.slot x = if x < a then .empty else s.slot x) ∧
    v.slot v.ring.p = s.slot a ∧
    (playsThrough v = true ↔ (s.slot a).isMissing = true ∧ s.holeWaitLimit = 0) := by
  have hring : v.ring = s.ring.advance a := by rw [h.state]
  have hel := ((law_iff _).mp hlaw).2.2.1
  have hslot : ∀ x, s.ring.p ≤ x → x < s.ring.p + s.ring.len → v.slot x = if x < a then .empty else s.slot x :=
    fun x hx hxl => by rw [State.slot, hring]; exact advance_slot hlaw hlo hhi.le hx hxl
  have hp : v.ring.p = a := by rw [hring]; rfl
  have ha : v.slot v.ring.p = s.slot a := by rw [hp, hslot a hlo (by omega), if_neg (lt_irrefl a)]
  have hlimit : v.holeWaitLimit = s.holeWaitLimit := by rw [h.state]; rfl
  refine ⟨by rw [hring]; exact advance_frame a s.ring, by rw [hring]; exact advance_law hlaw hlo hhi.le, hslot, ha, ?_⟩
  rw [playsThrough_iff, ha, hlimit]
  exact and_comm

/-- What a jump comes to at the end of its event, but for the slots. -/
structure JumpEnds (a f : Nat) (goes : Bool) (s t : State) : Prop where
  trims : Trims a goes s t
  flag : FlagTold s t
  program : ProgramTold s t
  engine : t.engine.f = f ∧ t.engine.intent = .play
  plays : goes = true → t.engine.play = .playing ∧ t.engine.slotOpen = true
  starves : goes = false → t.engine.play = .starved ∧ t.engine.slotOpen = false
  conceal : t.conceal = jumpGains s.params s.conceal
  intake : t.intake = { s.intake with
    latch := s.intake.latch && decide (s.ring.len - s.params.releaseMargin < s.ring.e - a) }
  rest : t = { s with
    ring := t.ring, intake := t.intake, engine := t.engine, conceal := t.conceal, planner := t.planner, events := t.events }

theorem jumpEnds_finish {a f : Nat} {s : State} (hlaw : s.planner.Law) (hd : s.planner.scanDue = false) :
    JumpEnds a f (goesOnAt (jumped a f (setIntent .play s))) s
      (finish s (landJump (jumped a f (setIntent .play s)))) := by
  obtain ⟨hstate, hcuts, -, hsSet, hprogram⟩ := jumps_jumped a f (setIntent .play s)
  have hland := landing_landJump (jumped a f (setIntent .play s))
  generalize jumped a f (setIntent .play s) = v at *
  obtain ⟨hlstate, ⟨hf, hintent, hlprogram⟩, hplays, hstarves, hpasses, -, hlsSet⟩ := hland
  generalize landJump v = w at *
  have hvp : v.ring.p = a := by rw [hstate]; rfl
  have hwp : w.ring.p = v.ring.p := by
    rw [hlstate]; dsimp only; split <;> [exact giveUpHole_p _ _; rfl]
  have hopen : w.engine.slotOpen = goesOnAt v := by
    cases hg : goesOnAt v with
    | true => exact (hplays hg).2
    | false => rw [(hstarves hg).2, hstate]
  have hgains : w.conceal = jumpGains s.params s.conceal := by
    have hv : v.conceal = jumpGains s.params s.conceal := by rw [hstate]; rfl
    have hp : v.params = s.params := by rw [hstate]; rfl
    rw [hlstate]
    simp only [hv, hp, gainsFromStarved_jumpGains, ite_self]
  have hpass : Passes a (goesOnAt v) s w :=
    hvp ▸ hpasses (s := s) (hvp ▸ (hcuts (apart_of_law hlaw)).from rfl rfl) (apart_of_law hlaw)
  have hsame : RaisesWithin [] w (finish s w) := raisesWithin_finish [] s w
  obtain ⟨hfring, hfintake, -, hfengine, hfconceal, -, hfsession, -⟩ := finish_frame s w
  refine ⟨hpass.trims hlaw hd (hwp.trans hvp) hopen, hpass.flagTold, ?_, ?_, fun hg => ?_, fun hg => ?_,
    hfconceal.trans hgains, ?_, ?_⟩
  · exact hprogram.within (s := s) rfl (fun _ _ => .rfl) (by rw [hfengine, hlprogram]) (by rw [hfsession, hlstate])
      (by rw [hfring, hwp]) fun x hx => (hsame x (by simp)).trans (hlsSet x (by simp [hx]))
  · rw [hfengine, hf, hintent, hstate]; exact ⟨rfl, rfl⟩
  · rw [hfengine]; exact hplays hg
  · rw [hfengine, (hstarves hg).1, (hstarves hg).2, hstate]; exact ⟨rfl, rfl⟩
  · have hlen : (s.ring.advance a).len = s.ring.len := len_of_straps (by rw [advance_frame])
    have hfull : (s.ring.advance a).fullness = s.ring.e - a := by rw [Ring.fullness, advance_frame]
    rw [hfintake, hlstate, hstate, ← hlen, ← hfull]
    rfl
  · have hfinish := finish_state s w
    generalize finish s w = t at *
    rw [hfinish, hlstate, hstate]
    rfl

/-- Settles O25: P moves on inside the window, and play lands on its new slot. -/
theorem playAtJumps : Obligations.PlayAtJumps := by
  intro a f s h hring hlaw hd ht a' f' through goes hlo hhi
  rw [exec_playAt h a.isLt f.isLt]
  have hplay : playTo a' f' (sendStatus .s 7 s) = landJump (jumped a' f' (setIntent .play (sendStatus .s 7 s))) :=
    playTo_inside (s := sendStatus .s 7 s) ⟨hlo, hhi⟩
  have hjump := jumps_jumped a' f' (setIntent .play (sendStatus .s 7 s))
  have hland := landing_landJump (jumped a' f' (setIntent .play (sendStatus .s 7 s)))
  have hends := jumpEnds_finish (a := a') (f := f') (s := sendStatus .s 7 s) hlaw hd
  rw [playCommand, hplay, flagsByte_position]
  generalize jumped a' f' (setIntent .play (sendStatus .s 7 s)) = v at *
  obtain ⟨hvring, hvlaw, hvslot, hva, hthrough⟩ := hjump.window hring hlo hhi
  change v.ring = { s.ring with p := a', slots := v.ring.slots } at hvring
  change ∀ x, s.ring.p ≤ x → x < s.ring.p + s.ring.len → v.slot x = if x < a' then .empty else s.slot x at hvslot
  change v.slot v.ring.p = s.slot a' at hva
  change playsThrough v = true ↔ through at hthrough
  have hvp : v.ring.p = a' := by rw [hvring]
  have hvlen : v.ring.len = s.ring.len := len_of_straps (by rw [hvring])
  have hel := ((law_iff _).mp hring).2.2.1
  have hgoes : goesOnAt v = goes := congrArg₂ or (congrArg Slot.playable hva) (by
    rw [Bool.eq_iff_iff, hthrough, decide_eq_true_eq])
  obtain ⟨hwring, hwp, hwothers⟩ := hland.slots (lo := s.ring.p) (by rw [hvp, hvlen]; omega)
  have hcount : Counted s (finish (sendStatus .s 7 s) (landJump v)) fun c =>
      if c = .starveEpisodes ∧ (s.slot a').playable = false then 1
      else if c = .slotsAbandoned ∧ through then 1 else 0 :=
    (hland.counted (counted_of_counters (s := s) hjump.counters)).finish _ fun c => by rw [hva]; simp only [hthrough]
  have hfring := (finish_frame (sendStatus .s 7 s) (landJump v)).1
  rw [hgoes] at hends
  generalize landJump v = w at *
  rw [← hfring] at hwring
  have hslot : ∀ x, (finish (sendStatus .s 7 s) w).slot x = w.slot x :=
    fun x => congrArg (Ring.slot · x) hfring
  generalize finish (sendStatus .s 7 s) w = t at *
  obtain ⟨htrims, hflag, hprogram, ⟨hf, hintent⟩, hplays, hstarves, hconceal, hintake, hrest⟩ := hends
  simp only [hvp, hvlen] at hwp hwothers
  refine ⟨_, rfl, ?_, ?_, ?_, ?_, ?_, fun x hx hxe => ?_, fun x hx hxa => ?_, hf, hintent, hplays, hstarves, htrims.answered,
    hcount, congrArg Conceal.gp hconceal, congrArg Conceal.gpTarget hconceal, congrArg Conceal.gc hconceal,
    congrArg Conceal.gcTarget hconceal, congrArg Conceal.left hconceal, congrArg Conceal.right hconceal, hintake,
    ⟨hflag.raised, hflag.quiet⟩, ⟨hprogram.number, hprogram.raised, hprogram.quiet⟩, ?_, ?_, ?_, ?_, ?_, ?_, ?_⟩
  · show t.ring.p = a'
    rw [hwring, hvp]
  · show t.ring.e = s.ring.e
    rw [hwring, hvring]
  · show t.ring.owner = s.ring.owner
    rw [hwring, hvring]
  · show t.ring.straps = s.ring.straps
    rw [hwring, hvring]
  · refine (hslot a').trans ((hwp hvlaw).trans ?_)
    simp only [hthrough]
    rw [hvslot a' hlo (by omega), if_neg (lt_irrefl _)]
  · refine (hslot x).trans ((hwothers x (by omega) (by omega) (by omega)).trans ?_)
    rw [hvslot x (by omega) (by omega), if_neg (by omega)]
  · refine (hslot x).trans ((hwothers x hx (by omega) (by omega)).trans ?_)
    rw [hvslot x hx (by omega), if_pos hxa]
  all_goals rw [hrest]; rfl

end Sys2Proof.Machine
end

section
/-! PROOF. PLAY_PROGRAM and PLAY_AT: what play at a position does, whatever the S-port holds (R104). -/

namespace Sys2Proof.Machine

/-! ### Operations that do not look at the S-port -/

/-- The S-port holds `x`. -/
def holdS (x : PortState) (s : State) : State := { s with sPort := x }

/-- An operation neither reads nor writes what the S-port holds. -/
def BlindS (f : State → State) : Prop := ∀ x s, f (holdS x s) = holdS x (f s)

theorem BlindS.comp {f g : State → State} (hg : BlindS g) (hf : BlindS f) : BlindS fun s => g (f s) := fun x s =>
  (congrArg g (hf x s)).trans (hg x (f s))

theorem blindS_setPlay (p : Play) : BlindS (setPlay p) := fun x s => by
  unfold setPlay; dsimp only; rw [apply_ite (holdS x)]; rfl

theorem blindS_rise (c : CounterId) (n : Nat) : BlindS (rise c n) := fun x s => by
  unfold rise; dsimp only; rw [apply_ite (holdS x), apply_ite (holdS x)]; rfl

theorem blindS_judgeProgram : BlindS judgeProgram := fun x s => by
  unfold judgeProgram; dsimp only; rw [apply_ite (holdS x)]; rfl

theorem blindS_judgeLatchLow : BlindS judgeLatchLow := fun x s => by
  unfold judgeLatchLow; rw [apply_ite (holdS x)]; rfl

theorem blindS_setConcealGain (n : Nat) : BlindS (setConcealGain n) := fun _ _ => rfl

theorem blindS_setPlayTarget (n : Nat) : BlindS (setPlayTarget n) := fun x s => by
  unfold setPlayTarget; dsimp only; rw [apply_ite (holdS x)]; rfl

theorem blindS_emptyQueue : BlindS emptyQueue := fun x s => by
  rw [emptyQueue_eq, emptyQueue_eq s]
  unfold emptyQueue
  dsimp only
  rw [show (holdS x s).planner.issuedEntry = s.planner.issuedEntry from rfl]
  cases s.planner.issuedEntry <;> rfl

theorem blindS_trimForPlay (low : Nat) (o : Order) : BlindS (trimForPlay low o) := fun x s => by
  unfold trimForPlay; rw [apply_ite (holdS x), apply_ite (holdS x)]; rfl

theorem blindS_foldl {α : Type} {f : State → α → State} (h : ∀ o, BlindS fun s => f s o) (l : List α) :
    BlindS fun s => l.foldl f s := by
  induction l with
  | nil => exact fun _ _ => rfl
  | cons o l ih => exact fun x s => (congrArg (l.foldl f) (h o x s)).trans (ih x (f s o))

theorem blindS_trimAll (low : Nat) : BlindS (trimAll low) := fun x s =>
  blindS_foldl (f := fun s o => trimForPlay low o s) (fun o => blindS_trimForPlay low o) s.planner.queue x s

theorem blindS_flush (a : Nat) : BlindS (flush a) := fun x s => by
  rw [flush_emptied, flush_emptied, ← blindS_judgeProgram]
  refine congrArg judgeProgram ?_
  rw [blindS_emptyQueue]
  rfl

theorem blindS_scan : BlindS scan := fun x s => by
  unfold scan; rw [apply_ite (holdS x)]; rfl

theorem blindS_scanIfDue : BlindS scanIfDue := fun x s => by
  unfold scanIfDue; dsimp only; rw [blindS_scan, apply_ite (holdS x)]; rfl

theorem tellWork_holdS (b : State) (x : PortState) (u s : State) :
    tellWork b (holdS x u) (holdS x s) = holdS x (tellWork b u s) := by
  unfold tellWork; rw [apply_ite (holdS x)]; rfl

theorem blindS_tellPause (b : State) : BlindS (tellPause b) := fun x s => by
  unfold tellPause; rw [apply_ite (holdS x)]; rfl

/-- The end of an event that began whatever the S-port held. -/
theorem finish_holdS (x y : PortState) (b s : State) : finish (holdS y b) (holdS x s) = holdS x (finish b s) := by
  show tellPause b (tellWork b (holdS x s) (scanIfDue (holdS x s))) = _
  rw [blindS_scanIfDue, tellWork_holdS, blindS_tellPause]
  rfl

/-! ### Play at a position (R104) -/

theorem blindS_openAndPlay : BlindS openAndPlay :=
  (blindS_setPlay .playing).comp (f := fun s => dropWaits (openSlot s)) fun x s =>
    congrArg dropWaits (blindS_trimAll (s.ring.p + 1) x { s with engine := { s.engine with slotOpen := true } })

theorem blindS_expireHole : BlindS expireHole := fun x s =>
  (congrArg (fun t => setConcealGain 0 (openAndPlay t)) (blindS_rise .slotsAbandoned 1 x
    (raiseS (.slotAbandoned s.ring.p s.ring.p) { s with ring := s.ring.giveUpHole s.ring.p }))).trans
  ((blindS_setConcealGain 0).comp blindS_openAndPlay x _)

theorem blindS_starving : BlindS starving := fun x s => by
  have hplay := congrArg (fun t => rise .starveEpisodes 1 (raiseS (.starved s.ring.p) t))
    (blindS_setPlay .starved x { s with engine := { s.engine with holeWait := 0 } })
  have hrise := blindS_rise .starveEpisodes 1 x
    (raiseS (.starved s.ring.p) (setPlay .starved { s with engine := { s.engine with holeWait := 0 } }))
  unfold starving
  dsimp only
  rw [apply_ite (holdS x)]
  exact ite_congr rfl (fun _ => hplay.trans hrise) fun _ => congrArg startStall (hplay.trans hrise)

theorem blindS_enterStarved : BlindS enterStarved := fun x s => by
  rw [enterStarved_starving, enterStarved_starving, apply_ite (holdS x)]
  exact ite_congr rfl (fun _ => blindS_expireHole.comp blindS_starving x s) fun _ => blindS_starving x s

theorem blindS_enterStopped : BlindS enterStopped := fun x s =>
  congrArg (fun t => setPlayGain 0 0 (setFrame 0 t)) (((blindS_flush s.ring.p).comp
    (f := fun s => dropWaits (setPlay .stopped s)) fun x s => congrArg dropWaits (blindS_setPlay .stopped x s)) x s)

theorem blindS_landJump : BlindS landJump := fun x s => by
  unfold landJump
  rw [apply_ite (holdS x)]
  exact ite_congr rfl (fun _ => blindS_openAndPlay x s) fun _ => blindS_enterStarved x s

theorem blindS_jump (a f : Nat) : BlindS (jump a f) := fun x s => by
  have hjump : ∀ s, jump a f s = landJump (jumped a f s) := fun _ => rfl
  have htrim := blindS_trimAll a x { s with
    ring := s.ring.advance a, engine := { s.engine with f := f, slotOpen := false } }
  have hjumped : jumped a f (holdS x s) = holdS x (jumped a f s) :=
    (congrArg (fun t => setConcealGain 0 { setPlayGain 4096 4096 (dropRuns t) with
      engine := { (setPlayGain 4096 4096 (dropRuns t)).engine with anticipate := false } })
      (congrArg (fun t => judgeProgram (judgeLatchLow t)) htrim |>.trans
        (blindS_judgeProgram.comp blindS_judgeLatchLow x _)))
  rw [hjump, hjump, hjumped, blindS_landJump]

theorem blindS_endPriming : BlindS endPriming := fun x s => by
  unfold endPriming
  rw [apply_ite (holdS x)]
  refine ite_congr rfl (fun _ => ?_) fun _ => ?_
  · exact congrArg (raiseS (.endOfDisc s.t)) (blindS_enterStopped x (setIntent .stop s))
  · exact ((blindS_setConcealGain 4096).comp ((blindS_setPlayTarget 4096).comp blindS_openAndPlay)) x s

theorem blindS_react : BlindS react := fun x s => by
  have hplay : (holdS x s).engine.play = s.engine.play := rfl
  unfold react
  rw [hplay]
  cases s.engine.play with
  | starved =>
    dsimp only
    rw [apply_ite (holdS x)]
    exact ite_congr rfl (fun _ => (blindS_setConcealGain 0).comp blindS_openAndPlay x s) fun _ => rfl
  | priming =>
    dsimp only
    rw [apply_ite (holdS x)]
    exact ite_congr rfl (fun _ => blindS_endPriming x s) fun _ => rfl
  | _ => rfl

theorem blindS_enterPriming : BlindS enterPriming := fun x s =>
  (congrArg (fun t => react (setPlayGain 0 0 t))
    (blindS_setPlay .priming x (startStall { s with engine := { s.engine with holeWait := 0 } }))).trans
  (blindS_react x (setPlayGain 0 0 (setPlay .priming (startStall { s with engine := { s.engine with holeWait := 0 } }))))

theorem blindS_seek (a f : Nat) : BlindS (seek a f) := fun x s =>
  (congrArg (fun t => enterPriming (raiseD (.seekRequested a) (setFrame f t))) (blindS_flush a x s)).trans
  (blindS_enterPriming x (raiseD (.seekRequested a) (setFrame f (flush a s))))

theorem blindS_playTo (a f : Nat) : BlindS (playTo a f) := fun x s => by
  unfold playTo
  dsimp only
  rw [apply_ite (holdS x)]
  exact ite_congr rfl (fun _ => blindS_jump a f x (setIntent .play s)) fun _ => blindS_seek a f x (setIntent .play s)

/-! ### Where it comes to (R104) -/

/-- Play is at the address `a` and the frame `f`, with play intended. -/
def PlaysAt (a f : Nat) (s : State) : Prop := s.ring.p = a ∧ s.engine.f = f ∧ s.engine.intent = .play

/-- PRIMING ends before T where its P and its frame are (R103). -/
theorem playsAt_endPriming {a f : Nat} {s : State} (h : PlaysAt a f s) (ht : s.ring.p ≠ s.t) :
    PlaysAt a f (endPriming s) := by
  have hend : endPriming s = setConcealGain 4096 (setPlayTarget 4096 (openAndPlay s)) := if_neg ht
  have hstate := (playsOn_openAndPlay s).state
  rw [hend, setConcealGain_full]
  generalize openAndPlay s = v at *
  rw [hstate]
  exact h

theorem playsAt_enterPriming {a f : Nat} {s : State} (h : PlaysAt a f s) (ht : s.ring.p ≠ s.t) :
    PlaysAt a f (enterPriming s) := by
  have hpriming : PlaysAt a f (priming s) := by rw [priming_eq]; exact ⟨h.1, h.2.1, rfl⟩
  have hprimet : (priming s).ring.p ≠ (priming s).t := by rw [priming_eq]; exact ht
  rw [← setIntent_same h.2.2, enterPriming_eq]
  split
  · exact playsAt_endPriming hpriming hprimet
  · exact hpriming

theorem playsAt_playTo {a : Nat} (f : Nat) {s : State} (ht : a < s.t) : PlaysAt a f (playTo a f s) := by
  by_cases hin : s.ring.p ≤ a ∧ a < s.ring.e
  · obtain ⟨hstate, ⟨hf, hintent, -⟩, -⟩ := landing_landJump (jumped a f (setIntent .play s))
    have hjumped := (jumps_jumped a f (setIntent .play s)).state
    rw [playTo_inside hin]
    generalize jumped a f (setIntent .play s) = v at *
    have hp : (landJump v).ring.p = v.ring.p := by
      rw [hstate]; dsimp only; split <;> [exact giveUpHole_p _ _; rfl]
    exact ⟨by rw [hp, hjumped]; rfl, by rw [hf, hjumped], by rw [hintent, hjumped]; rfl⟩
  · have hseek : playTo a f s = enterPriming (sought a f s) := if_neg hin
    have hflush := (flushes_flush a (setIntent .play s)).state
    rw [hseek]
    refine playsAt_enterPriming ?_ ?_
    · unfold sought; rw [hflush]; exact ⟨rfl, rfl, rfl⟩
    · unfold sought; rw [hflush]; exact Nat.ne_of_lt ht

/-! ### PLAY_PROGRAM (R104) -/

/-- PLAY_PROGRAM plays at the start of the clamped program, when that lies before T. -/
theorem exec_playProgram {s : State} (h : s.InPlay) {d : Directory} (hd : s.session.directory = some d) (k : Byte)
    (hstart : d.startOf (clampTo 1 d.starts.length k.toNat) < s.t) :
    exec (.playProgram (goodFrame 0x09 [k])) s = .next (playCommand (d.startOf (clampTo 1 d.starts.length k.toNat)) 0
      (clampTo 1 d.starts.length k.toNat != k.toNat) (sendStatus .s 3 s)) := by
  have hact := command_inPlay h 0x09 [k] (by simp) (playProgramAct [k])
  have hread : ofLe [k] = k.toNat := by simp [ofLe]
  have hdir : (sendStatus .s 3 s).session.directory = some d := hd
  have hmin : min (d.startOf (clampTo 1 d.starts.length k.toNat)) ((sendStatus .s 3 s).t - 1) =
      d.startOf (clampTo 1 d.starts.length k.toNat) := by
    show min _ (s.t - 1) = _
    omega
  have hplay : playProgramAct [k] (sendStatus .s 3 s) = playCommand (d.startOf (clampTo 1 d.starts.length k.toNat)) 0
      (clampTo 1 d.starts.length k.toNat != k.toNat) (sendStatus .s 3 s) := by
    simp only [playProgramAct, hdir, hread, hmin, bne_self_eq_false, Bool.or_false]
  exact congrArg Host.Outcome.next (hact.trans hplay)

/-- The play commands differ in what the S-port sends alone. -/
theorem finish_playTo_sendStatus (a f n : Nat) (s : State) : finish (sendStatus .s n s) (playTo a f (sendStatus .s n s)) =
    holdS (sendStatus .s n s).sPort (finish s (playTo a f s)) :=
  (congrArg (finish (sendStatus .s n s)) (blindS_playTo a f (sendStatus .s n s).sPort s)).trans
    (finish_holdS _ (sendStatus .s n s).sPort s (playTo a f s))

/-- Settles O27: both commands play at the program's start, which they reach whatever the S-port holds. -/
theorem playProgramActsAsPlayAt : Obligations.PlayProgramActsAsPlayAt := by
  intro k d s h hdir hn hstarts ht k' a
  have hk : k' - 1 < d.starts.length := by omega
  have hat : a < d.t := by
    have hget : a = d.starts[k' - 1] := List.getD_eq_getElem _ _ hk
    rw [hget]
    exact hstarts _ (List.getElem_mem hk)
  have hst : s.t = d.t := by rw [State.t, hdir]
  have hprogram := exec_playProgram h hdir k (hst ▸ hat)
  have hplayAt := exec_playAt h (a := a) (f := 0) (by omega) (by omega)
  have hmin : min a (s.t - 1) = a := by omega
  rw [hmin, Nat.zero_min] at hplayAt
  obtain ⟨hp, hf, hintent⟩ := playsAt_playTo 0 (s := s) (hst ▸ hat)
  obtain ⟨hring, -, -, hengine, -⟩ := finish_frame s (playTo a 0 s)
  refine ⟨_, _, hprogram, hplayAt, ?_, ?_, ?_, ?_, ?_⟩
  · simp only [playCommand, finish_playTo_sendStatus]
    rfl
  · simp only [playCommand, finish_playTo_sendStatus, flagsByte_clamped, bne_iff_ne, ite_not]
    rfl
  · simp only [playCommand, finish_playTo_sendStatus]
    exact (congrArg Ring.p hring).trans hp
  · simp only [playCommand, finish_playTo_sendStatus]
    exact (congrArg Engine.f hengine).trans hf
  · simp only [playCommand, finish_playTo_sendStatus]
    exact (congrArg Engine.intent hengine).trans hintent

end Sys2Proof.Machine
end

section
/-! PROOF. The frame played from slot P: its words, its gains and what it counts (R93, R98, R116 to R130). -/

namespace Sys2Proof.Machine

/-! ### Counting the words (R116, R121) -/

/-- What counting the words of a frame leaves and tells. -/
structure CountsWords (l r : Channel) (hl hr : Produced) (s t : State) : Prop where
  state : t = { s with events := t.events }
  counted : ∀ {b : State}, Counted b s (fun _ => 0) → Counted b t fun c =>
    if c = .wordsInterpolated then oneIf (hl == .short) + oneIf (hr == .short)
    else if c = .wordsHeld then oneIf (hl == .long) + oneIf (hr == .long)
    else if c = .concealMutes then oneIf (beganLong l hl) + oneIf (beganLong r hr)
    else 0
  dSet : t.events.dSet = s.events.dSet
  sSet : RaisesWithin [5, 13] s t
  muted : (0 < oneIf (beganLong l hl) + oneIf (beganLong r hr) ∧
      ¬ (hl = .long ∧ l.inLong = true ∨ hr = .long ∧ r.inLong = true)) →
    ∃ n, ⟨SEvent.concealMute s.ring.p s.engine.f, n⟩ ∈ t.events.sSet
  unmuted : ¬ (0 < oneIf (beganLong l hl) + oneIf (beganLong r hr) ∧
      ¬ (hl = .long ∧ l.inLong = true ∨ hr = .long ∧ r.inLong = true)) → RaisesWithin [13] s t

/-- The counts of a frame's words, without the mute that they may begin. -/
def countedWords (l r : Channel) (hl hr : Produced) (s : State) : State :=
  s |> rise .wordsInterpolated (oneIf (hl == .short) + oneIf (hr == .short))
    |> rise .wordsHeld (oneIf (hl == .long) + oneIf (hr == .long))
    |> rise .concealMutes (oneIf (beganLong l hl) + oneIf (beganLong r hr))

theorem countWords_eq (l r : Channel) (hl hr : Produced) (s : State) : countWords l r hl hr s =
    if 0 < oneIf (beganLong l hl) + oneIf (beganLong r hr) ∧
        ¬ (hl = .long ∧ l.inLong = true ∨ hr = .long ∧ r.inLong = true) then
      raiseS (.concealMute s.ring.p s.engine.f) (countedWords l r hl hr s)
    else countedWords l r hl hr s := by
  have hframe : (countedWords l r hl hr s).ring = s.ring ∧ (countedWords l r hl hr s).engine = s.engine := by
    simp [countedWords]
  have hdef : countWords l r hl hr s =
      if (decide (oneIf (beganLong l hl) + oneIf (beganLong r hr) > 0) &&
          !((l.inLong && hl == .long) || (r.inLong && hr == .long))) = true then
        raiseS (.concealMute (countedWords l r hl hr s).ring.p (countedWords l r hl hr s).engine.f)
          (countedWords l r hl hr s)
      else countedWords l r hl hr s := rfl
  rw [hdef, hframe.1, hframe.2]
  refine ite_congr ?_ (fun _ => rfl) fun _ => rfl
  simp only [Bool.and_eq_true, decide_eq_true_eq, Bool.not_eq_true', Bool.or_eq_false_iff, Bool.and_eq_false_iff,
    beq_eq_false_iff_ne, gt_iff_lt, eq_iff_iff]
  refine and_congr_right fun _ => ?_
  cases l.inLong <;> cases r.inLong <;> simp

theorem countsWords_countWords (l r : Channel) (hl hr : Produced) (s : State) :
    CountsWords l r hl hr s (countWords l r hl hr s) := by
  have hrises : RaisesWithin [13] s (countedWords l r hl hr s) :=
    (raisesWithin_rise (by decide) .wordsInterpolated _ s).trans
      ((raisesWithin_rise (by decide) .wordsHeld _ _).trans (raisesWithin_rise (by decide) .concealMutes _ _))
  have hstate : countedWords l r hl hr s = { s with events := (countedWords l r hl hr s).events } := by
    unfold countedWords
    rw [rise_eq .concealMutes, rise_eq .wordsHeld, rise_eq .wordsInterpolated]
  have hdSet : (countedWords l r hl hr s).events.dSet = s.events.dSet := by simp only [countedWords, rise_dSet]
  have hcounted : ∀ {b : State}, Counted b s (fun _ => 0) → Counted b (countedWords l r hl hr s) fun c =>
      if c = .wordsInterpolated then oneIf (hl == .short) + oneIf (hr == .short)
      else if c = .wordsHeld then oneIf (hl == .long) + oneIf (hr == .long)
      else if c = .concealMutes then oneIf (beganLong l hl) + oneIf (beganLong r hr)
      else 0 := fun hb =>
    (((hb.rise (c := .wordsInterpolated) rfl _).rise (c := .wordsHeld) rfl _).rise (c := .concealMutes) rfl _).congr rfl
      fun c => by cases c <;> rfl
  rw [countWords_eq]
  generalize countedWords l r hl hr s = v at *
  split
  · rename_i h
    refine ⟨by rw [hstate]; rfl, fun hb => (hcounted hb).congr rfl fun _ => rfl, hdSet, ?_, fun _ => exists_mem_latch ..,
      fun h' => absurd h h'⟩
    exact (hrises.mono (by decide)).trans
      (raisesWithin_raiseS (e := .concealMute s.ring.p s.engine.f) (by simp [SEvent.pos]) v)
  · rename_i h
    exact ⟨hstate, hcounted, hdSet, hrises.mono (by decide), fun h' => absurd h' h, fun _ => hrises⟩

/-! ### The frame (R93) -/

/-- What is counted in an event that plays a frame from `s`. -/
def soundCount (s : State) (also : CounterId → Nat) (c : CounterId) : Nat :=
  if c = .wordsInterpolated then (played s).shorts
  else if c = .wordsHeld then (played s).longs
  else if c = .concealMutes then (played s).begun
  else also c

/-- What follows the frame in its event leaves what it put out, and counts on. -/
theorem Sounds.within {s v t : State} {also also' : CounterId → Nat} {ps : List Nat} (h : Sounds s v also)
    (hline : t.line = v.line) (hcounted : Counted s t (soundCount s also')) (hsSet : RaisesWithin ps v t) (hps : 5 ∉ ps) :
    Sounds s t also' := by
  obtain ⟨hvline, -, hmuted, hunmuted⟩ := h
  exact ⟨hline.trans hvline, hcounted, fun hm => hsSet.keeps hps (hmuted hm), fun hm x hx hpos =>
    hunmuted hm x ((hsSet x (hpos ▸ hps)).mp hx) hpos⟩

/-- The state behind a frame played from slot P, before a ramp or a block ends with it. -/
def framed (s : State) : State :=
  let t := { s with power := { s.power with lastSlf := s.now } } |> judgeAnticipation |> produceFrame
  setFrame (t.engine.f + 1) t

/-- What a frame played from slot P leaves and tells before anything ends with it. -/
structure Frames (s v : State) : Prop where
  state : v = { s with
    engine := { s.engine with f := s.engine.f + 1, anticipate := (played s).anticipate }
    conceal := (played s).conceal
    line := ⟨(played s).frame, s.line.produced⟩
    power := { s.power with lastSlf := s.now }
    events := v.events }
  sounds : Sounds s v fun _ => 0
  dSet : v.events.dSet = s.events.dSet
  sSet : RaisesWithin [5, 13] s v

theorem produceFrame_eq (s : State) :
    let l := channelWord s .left s.conceal.left
    let r := channelWord s .right s.conceal.right
    let c := steppedGains s.params s.engine.anticipate { s.conceal with left := l.1, right := r.1 }
    let t := countWords s.conceal.left s.conceal.right l.2.2 r.2.2
      { s with conceal := { s.conceal with left := l.1, right := r.1 } }
    produceFrame s = { s with
      conceal := c
      line := ⟨⟨outWord l.2.1 c.gp c.gc, outWord r.2.1 c.gp c.gc, l.2.2 != .clean || r.2.2 != .clean || c.gc < 4096⟩,
        s.line.produced⟩
      events := t.events } := by
  intro l r c t
  have hstate : t = { s with conceal := { s.conceal with left := l.1, right := r.1 }, events := t.events } :=
    (countsWords_countWords s.conceal.left s.conceal.right l.2.2 r.2.2 _).state
  have hdef : produceFrame s = putFrame ⟨outWord l.2.1 (stepGains t).conceal.gp (stepGains t).conceal.gc,
      outWord r.2.1 (stepGains t).conceal.gp (stepGains t).conceal.gc,
      l.2.2 != .clean || r.2.2 != .clean || (stepGains t).conceal.gc < 4096⟩ (stepGains t) := rfl
  rw [hdef, stepGains_eq, hstate]
  rfl

/-- A mute begins where a LONG run begins and none goes on (R121, log 18). -/
theorem played_mutes_iff (s : State) :
    let l := channelWord s .left s.conceal.left
    let r := channelWord s .right s.conceal.right
    (played s).mutes = true ↔ 0 < oneIf (beganLong s.conceal.left l.2.2) + oneIf (beganLong s.conceal.right r.2.2) ∧
      ¬ (l.2.2 = .long ∧ s.conceal.left.inLong = true ∨ r.2.2 = .long ∧ s.conceal.right.inLong = true) := by
  intro l r
  have hmutes : (played s).mutes =
      (decide (0 < oneIf (beganLong s.conceal.left l.2.2) + oneIf (beganLong s.conceal.right r.2.2)) &&
        !(l.2.2 == .long && s.conceal.left.inLong) && !(r.2.2 == .long && s.conceal.right.inLong)) := rfl
  simp [hmutes, and_assoc, imp_iff_not_or]

theorem played_counts (s : State) :
    let l := channelWord s .left s.conceal.left
    let r := channelWord s .right s.conceal.right
    (played s).shorts = oneIf (l.2.2 == .short) + oneIf (r.2.2 == .short) ∧
    (played s).longs = oneIf (l.2.2 == .long) + oneIf (r.2.2 == .long) ∧
    (played s).begun = oneIf (beganLong s.conceal.left l.2.2) + oneIf (beganLong s.conceal.right r.2.2) := by
  intro l r
  have hone : ∀ x y : Produced, (if x = y then 1 else 0) = oneIf (x == y) := fun x y => by simp [oneIf]
  exact ⟨congrArg₂ (· + ·) (hone ..) (hone ..), congrArg₂ (· + ·) (hone ..) (hone ..), rfl⟩

/-- The words of the frame counted, its request judged before (R127 step 3, R98). -/
def soundedWords (s : State) : State :=
  let l := channelWord s .left s.conceal.left
  let r := channelWord s .right s.conceal.right
  countWords s.conceal.left s.conceal.right l.2.2 r.2.2
    { judgeAnticipation { s with power := { s.power with lastSlf := s.now } } with
      conceal := { s.conceal with left := l.1, right := r.1 } }

theorem framed_eq (s : State) : framed s = { s with
    engine := { s.engine with f := s.engine.f + 1, anticipate := (played s).anticipate }
    conceal := (played s).conceal
    line := ⟨(played s).frame, s.line.produced⟩
    power := { s.power with lastSlf := s.now }
    events := (soundedWords s).events } :=
  congrArg (fun t : State => setFrame (t.engine.f + 1) t)
    (produceFrame_eq (judgeAnticipation { s with power := { s.power with lastSlf := s.now } }))

theorem frames_framed (s : State) : Frames s (framed s) := by
  have hmutes := played_mutes_iff s
  obtain ⟨-, hcounted, hdSet, hsSet, hmuted, hunmuted⟩ := countsWords_countWords s.conceal.left s.conceal.right
    (channelWord s .left s.conceal.left).2.2 (channelWord s .right s.conceal.right).2.2
    { judgeAnticipation { s with power := { s.power with lastSlf := s.now } } with
      conceal := { s.conceal with
        left := (channelWord s .left s.conceal.left).1, right := (channelWord s .right s.conceal.right).1 } }
  obtain ⟨hshorts, hlongs, hbegun⟩ := played_counts s
  have hevents : (framed s).events = (soundedWords s).events := by rw [framed_eq]
  refine ⟨by rw [hevents]; exact framed_eq s, ⟨by rw [framed_eq], ?_, fun hm => ?_, fun hm x hx hpos => ?_⟩,
    ?_, fun x hx => ?_⟩
  · exact (hcounted (counted_of_counters (s := s) rfl)).congr (by rw [hevents]; rfl) fun c => by
      rw [hshorts, hlongs, hbegun]
  · rw [hevents]; exact hmuted (hmutes.mp hm)
  · rw [hevents] at hx
    exact (hunmuted (fun h => Bool.noConfusion ((hmutes.mpr h).symm.trans hm)) x (by simp [hpos])).mp hx
  · rw [hevents]; exact hdSet
  · rw [hevents]; exact hsSet x hx

end Sys2Proof.Machine
end

section
/-! PROOF. The end of a leave: the entry stored, what is told, and where the session goes (R111, R134, R143, R167). -/

namespace Sys2Proof.Machine

/-! ### The steps of R143 -/

/-- A leave as its last step finds it: the entry is stored, the engine halted, and both reports are made. -/
def leaveTold (s : State) : State :=
  s |> storeResume |> halt |> tellEnded (resumeEntryNow s) |> raiseD .sessionChanged

theorem storeResume_eq (s : State) : storeResume s = { s with session := { s.session with
    table := (storeResume s).session.table } } := by
  unfold storeResume; split <;> rfl

theorem tellEnded_eq (e : Option ResumeEntry) (s : State) :
    tellEnded e s = { s with events := (tellEnded e s).events } := by
  cases e <;> rfl

theorem leaveTold_eq (s : State) : leaveTold s = { s with
    engine := { s.engine with play := .halted, holeWait := 0, stall := none, anticipate := false }
    session := { s.session with table := (storeResume s).session.table }
    events := (leaveTold s).events } := by
  have hhalt : halt (storeResume s) = { s with
      engine := { s.engine with play := .halted, holeWait := 0, stall := none, anticipate := false }
      session := { s.session with table := (storeResume s).session.table }
      events := (halt (storeResume s)).events } := by
    rw [halt, setPlay_eq, storeResume_eq]; rfl
  unfold leaveTold
  rw [tellEnded_eq]
  generalize halt (storeResume s) = v at *
  rw [hhalt]
  rfl

/-- The state of the session unit and the power controller behind the last step (R143 step 4, R166, R167). -/
theorem endSession_eq (s : State) : endSession s = { s with
    session := { s.session with
      state := if s.loadWaits then .identifying else .noDisc
      pendingLoad := false
      identify := if s.loadWaits then some ⟨s.now, false⟩ else s.session.identify }
    power := (endSession s).power
    ring := (endSession s).ring
    planner := { s.planner with tagCounter := (endSession s).planner.tagCounter } } := by
  unfold endSession State.loadWaits
  dsimp only
  cases he : s.power.entry with
  | some e => simp [completeEntry]
  | none => cases hl : s.session.pendingLoad <;> simp [startIdentify]

/-- What the end of a leave comes to. -/
structure LeaveCloses (s t : State) : Prop where
  ends : LeaveEnds s t
  state : t = { s with
    engine := { s.engine with play := .halted, holeWait := 0, stall := none, anticipate := false }
    session := t.session, power := t.power, ring := t.ring
    planner := { s.planner with tagCounter := t.planner.tagCounter }
    events := t.events }
  window : t.ring.p = s.ring.p ∧ t.ring.e = s.ring.e ∧ t.ring.owner = s.ring.owner ∧ t.ring.straps = s.ring.straps
  dSet : t.events.dSet = latch DEvent.pos .sessionChanged s.events.dSet
  counters : t.events.counters = s.events.counters
  sSet : RaisesWithin [0, 11] s t
  told : s.engine.play ≠ .halted → ∃ n, ⟨SEvent.playStateChanged .halted s.engine.intent, n⟩ ∈ t.events.sSet
  stored : ∀ d fp, s.session.directory = some d → s.session.fingerprint = some fp →
    t.session.table.head? = some ⟨fp, d.starts.length, d.t, s.ring.p, s.engine.f, s.engine.intent.stored, learnedCap s⟩ ∧
    ∃ n, ⟨SEvent.sessionEnded fp s.ring.p s.engine.f s.engine.intent.stored, n⟩ ∈ t.events.sSet

theorem tellEnded_rest (e : Option ResumeEntry) (s : State) : (tellEnded e s).events.dSet = s.events.dSet ∧
    (tellEnded e s).events.counters = s.events.counters ∧ RaisesWithin [11] s (tellEnded e s) := by
  cases e with
  | none => exact ⟨rfl, rfl, .of_sSet rfl⟩
  | some e => exact ⟨rfl, rfl, raisesWithin_raiseS (e := .sessionEnded e.fingerprint e.address e.frame e.intent)
      (by simp [SEvent.pos]) s⟩

theorem leaveTold_events (s : State) : (leaveTold s).events.dSet = latch DEvent.pos .sessionChanged s.events.dSet ∧
    (leaveTold s).events.counters = s.events.counters ∧ RaisesWithin [0, 11] s (leaveTold s) ∧
    (s.engine.play ≠ .halted → ∃ n, ⟨SEvent.playStateChanged .halted s.engine.intent, n⟩ ∈ (leaveTold s).events.sSet) ∧
    ∀ e, resumeEntryNow s = some e →
      ∃ n, ⟨SEvent.sessionEnded e.fingerprint e.address e.frame e.intent, n⟩ ∈ (leaveTold s).events.sSet := by
  have hsame : (dropWaits (storeResume s)).events = s.events ∧
      (dropWaits (storeResume s)).engine.play = s.engine.play ∧
      (dropWaits (storeResume s)).engine.intent = s.engine.intent := by rw [storeResume_eq]; exact ⟨rfl, rfl, rfl⟩
  obtain ⟨hevents, hplay, hintent⟩ := hsame
  have hhalt : halt (storeResume s) = setPlay .halted (dropWaits (storeResume s)) := rfl
  have hset : RaisesWithin [0] s (halt (storeResume s)) :=
    (RaisesWithin.of_sSet (by rw [hevents])).trans (raisesWithin_setPlay (by decide) .halted _)
  obtain ⟨hdSet, hcounters⟩ := setPlay_rest .halted (dropWaits (storeResume s))
  have htold : s.engine.play ≠ .halted →
      ∃ n, ⟨SEvent.playStateChanged .halted s.engine.intent, n⟩ ∈ (halt (storeResume s)).events.sSet := fun hne => by
    have h := setPlay_told (p := .halted) (s := dropWaits (storeResume s)) (by rw [hplay]; exact Ne.symm hne)
    rwa [hintent] at h
  rw [← hhalt, hevents] at hdSet hcounters
  obtain ⟨hedSet, hecounters, hesSet⟩ := tellEnded_rest (resumeEntryNow s) (halt (storeResume s))
  unfold leaveTold
  generalize halt (storeResume s) = v at *
  refine ⟨?_, hecounters.trans hcounters, ?_, fun hne => hesSet.keeps (by simp [SEvent.pos]) (htold hne), fun e he => ?_⟩
  · exact congrArg (latch DEvent.pos .sessionChanged) (hedSet.trans hdSet)
  · exact (hset.mono (by decide)).trans (hesSet.mono (by decide))
  · rw [he]; exact exists_mem_latch ..

theorem leaveEnds_endSession (s : State) : LeaveEnds s (endSession s) := by
  refine ⟨?_, fun h => ?_, fun e h => ?_⟩
  · rw [endSession_eq]
  · unfold endSession
    dsimp only
    rw [h]
    dsimp only
    split <;> exact ⟨rfl, rfl⟩
  · unfold endSession
    dsimp only
    rw [h]
    dsimp only
    cases e.target <;> exact ⟨rfl, rfl, rfl, rfl⟩

theorem endSession_window (s : State) : (endSession s).ring.p = s.ring.p ∧ (endSession s).ring.e = s.ring.e ∧
    (endSession s).ring.owner = s.ring.owner ∧ (endSession s).ring.straps = s.ring.straps := by
  have hends := leaveEnds_endSession s
  cases he : s.power.entry with
  | none => rw [(hends.stays he).2]; exact ⟨rfl, rfl, rfl, rfl⟩
  | some e =>
    rw [(hends.enters e he).2.1]
    split <;> exact ⟨rfl, rfl, rfl, rfl⟩

theorem leaveCloses_leaveEnd (s : State) : LeaveCloses s (leaveEnd s) := by
  have hdef : leaveEnd s = endSession (leaveTold s) := rfl
  have hstate := leaveTold_eq s
  obtain ⟨hdSet, hcounters, hsSet, htold, hentry⟩ := leaveTold_events s
  rw [hdef]
  generalize leaveTold s = v at *
  obtain ⟨hsession, hstays, henters⟩ := leaveEnds_endSession v
  have hwindow := endSession_window v
  have hend := endSession_eq v
  generalize endSession v = t at *
  have hpower : v.power = s.power := by rw [hstate]
  have hring : v.ring = s.ring := by rw [hstate]
  have hwaits : v.loadWaits = s.loadWaits := by rw [State.loadWaits, hpower, hstate]; rfl
  have htable : t.session.table = (storeResume s).session.table := by rw [hend, hstate]
  rw [hpower, hring] at hstays henters
  have hevents : t.events = v.events := by rw [hend]
  refine ⟨⟨?_, hstays, henters⟩, ?_, by rw [← hring]; exact hwindow, by rw [hevents, hdSet], by rw [hevents, hcounters],
    fun x hx => by rw [hevents]; exact hsSet x hx, fun hne => by rw [hevents]; exact htold hne, fun d fp hd hfp => ?_⟩
  · rw [hend, hwaits, hstate]
  · rw [hend, hstate]
  · have hnow : resumeEntryNow s = some ⟨fp, d.starts.length, d.t, s.ring.p, s.engine.f, s.engine.intent.stored,
        learnedCap s⟩ := by simp only [resumeEntryNow, hd, hfp]
    rw [hevents]
    refine ⟨?_, hentry _ hnow⟩
    rw [htable, storeResume, hnow]
    rfl

end Sys2Proof.Machine
end

section
/-! PROOF. FRAME_CLOCK inside a block: play goes on, or a ramp ends with the frame (R93, R110). -/

namespace Sys2Proof.Machine

theorem exec_frameClock_plays {s : State} (hpowered : s.power.powered = true) (hplay : s.engine.play.producing = true) :
    exec .frameClock s = .next (finish s
      (if s.frames ≤ s.engine.f + 1 then blockBoundary (framed s) else afterFrame (framed s))) := by
  have hexec : exec .frameClock s = execFrameClock s := rfl
  have hframes : (framed s).frames = s.frames ∧ (framed s).engine.f = s.engine.f + 1 := by
    rw [(frames_framed s).state]; exact ⟨rfl, rfl⟩
  have hplayed : playFrame { s with power := { s.power with lastSlf := s.now } } =
      if s.frames ≤ s.engine.f + 1 then blockBoundary (framed s) else afterFrame (framed s) := by
    rw [← hframes.1, ← hframes.2]; rfl
  rw [hexec, execFrameClock, if_neg (by simp [hpowered])]
  dsimp only
  rw [if_pos hplay, hplayed]

/-! ### What follows the frame (R110) -/

section
variable {v : State}

theorem afterFrame_playing (h : v.engine.play = .playing) : afterFrame v = v := by simp only [afterFrame, h]

theorem afterFrame_ramp {dest : Dest} (h : v.engine.play = .rampDown dest) (hg : v.conceal.gp ≠ 0) : afterFrame v = v := by
  simp only [afterFrame, h, if_neg hg]

theorem afterFrame_ended {dest : Dest} (h : v.engine.play = .rampDown dest) (hg : v.conceal.gp = 0) :
    afterFrame v = rampEnd dest v := by
  simp only [afterFrame, h, if_pos hg]

end

/-- The part behind a frame inside a block, but for its events. -/
def afterPlayed (s : State) : State :=
  { s with
    engine := { s.engine with f := s.engine.f + 1, anticipate := (played s).anticipate }
    conceal := (played s).conceal
    line := ⟨(played s).frame, s.line.produced⟩
    power := { s.power with lastSlf := s.now } }

theorem stored_eq (i : Intent) : i.stored = if i = .play then .playing else .paused := by cases i <;> rfl

section
variable {s v : State} (hv : Frames s v)
include hv

/-- Where nothing ends with the frame, the event ends with it. -/
theorem Frames.goesOn (hd : s.planner.scanDue = false) : finish s v = v ∧ v = { afterPlayed s with events := v.events } ∧
    Sounds s v (fun _ => 0) ∧ v.events.dSet = s.events.dSet ∧
    ∀ y ∈ v.events.sSet, y.ev.pos ≠ 5 → y.ev.pos ≠ 13 → y ∈ s.events.sSet := by
  obtain ⟨hstate, hsounds, hdSet, hsSet⟩ := hv
  refine ⟨finish_playing hd (by rw [hstate]) (by rw [hstate]) (by rw [hstate]), hstate, hsounds, hdSet,
    fun y hy h5 h13 => (hsSet y (by simp [h5, h13])).mp hy⟩

/-- A ramp to PAUSED ends with the frame. -/
theorem Frames.pauses (hd : s.planner.scanDue = false) (hp : s.engine.play = .rampDown .paused) :
    let t := finish s (setPlay .paused v)
    Sounds s t (fun _ => 0) ∧
    t = { afterPlayed s with
      engine := { (afterPlayed s).engine with play := .paused, anticipate := false }, events := t.events } ∧
    (∃ n, ⟨SEvent.playStateChanged .paused s.engine.intent, n⟩ ∈ t.events.sSet) ∧ t.events.dSet = s.events.dSet := by
  obtain ⟨hstate, hsounds, hdSet, hsSet⟩ := hv
  have hpstate := setPlay_eq .paused v
  obtain ⟨hpdSet, hpcounters⟩ := setPlay_rest .paused v
  have hplay : v.engine.play = s.engine.play ∧ v.engine.intent = s.engine.intent := by rw [hstate]; exact ⟨rfl, rfl⟩
  have htold := setPlay_told (p := .paused) (s := v) (by rw [hplay.1, hp]; decide)
  rw [hplay.2] at htold
  have hquiet : finish s (setPlay .paused v) = setPlay .paused v :=
    finish_playing hd (by rw [hpstate, hstate]) (by rw [hpstate, hstate]) (by rw [hpstate, hp]; simp)
  have hwithin := raisesWithin_setPlay (ps := [0]) (by decide) .paused v
  dsimp only
  rw [hquiet]
  generalize setPlay .paused v = t at *
  refine ⟨hsounds.within (by rw [hpstate]) (hsounds.counted.congr hpcounters fun _ => rfl) hwithin (by decide), ?_, htold,
    hpdSet.trans hdSet⟩
  rw [hpstate, hstate]
  rfl

/-- A ramp to STOPPED ends with the frame. -/
theorem Frames.stopsRamp (hp : s.engine.play = .rampDown .stopped) :
    let t := finish s (enterStopped v)
    (Sounds s t fun _ => 0) ∧ t.engine.play = .stopped ∧ t.engine.f = 0 ∧ t.engine.slotOpen = false ∧ t.conceal.gp = 0 ∧
    t.conceal.gpTarget = 0 ∧ t.ring = { s.ring with slots := [], e := s.ring.p, owner := s.session.fingerprint } ∧
    t.planner.queue = [] ∧ t.events.dSet = pauseTold s.pauseFlag true (emptiedTold s.planner.queue s.events.dSet) ∧
    (∃ n, ⟨SEvent.playStateChanged .stopped s.engine.intent, n⟩ ∈ t.events.sSet) ∧
    t.engine.intent = s.engine.intent ∧ t.session = s.session ∧ t.pauseFlag = true ∧ ProgramTold s t := by
  obtain ⟨hstate, hsounds, hdSet, hsSet⟩ := hv
  have hends := (stops_enterStopped v).finish s
  dsimp only
  generalize finish s (enterStopped v) = t at *
  have hflag := hends.flag
  obtain ⟨hring, hplanner, -, hengine, hconceal, ⟨-, hsession, -, -, hline, -⟩, htdSet, hcounters, htsSet, -, htold,
    hprogram⟩ := hends
  rw [hdSet] at htdSet
  have hfacts : v.ring = s.ring ∧ v.session = s.session ∧ v.planner = s.planner ∧ v.engine.intent = s.engine.intent ∧
      v.engine.play = s.engine.play ∧ v.engine.program = s.engine.program := by
    rw [hstate]; exact ⟨rfl, rfl, rfl, rfl, rfl, rfl⟩
  obtain ⟨hvring, hvsession, hvplanner, hvintent, hvplay, hvprogram⟩ := hfacts
  rw [hvring, hvsession] at hring
  rw [hvplanner] at htdSet
  rw [hvintent, hvplay] at htold
  exact ⟨hsounds.within hline (hsounds.counted.congr hcounters fun _ => rfl) htsSet (by decide),
    congrArg Engine.play hengine, congrArg Engine.f hengine, congrArg Engine.slotOpen hengine,
    congrArg Conceal.gp hconceal, congrArg Conceal.gpTarget hconceal, hring, congrArg Planner.queue hplanner, htdSet,
    htold (by rw [hp]; decide), (congrArg Engine.intent hengine).trans hvintent, hsession.trans hvsession, hflag,
    hprogram.within hvprogram (fun x hx => hsSet x (by simp [hx])) rfl rfl rfl fun _ _ => .rfl⟩

/-- A ramp to HALTED ends with the frame. -/
theorem Frames.leaves (hd : s.planner.scanDue = false) (hp : s.engine.play = .rampDown .leave) {d : Directory}
    {fp : BitVec 32} (hdir : s.session.directory = some d) (hfp : s.session.fingerprint = some fp) :
    let t := finish s (leaveEnd v)
    (Sounds s t fun _ => 0) ∧ t.engine.play = .halted ∧ t.engine.f = s.engine.f + 1 ∧ t.conceal = (played s).conceal ∧
    (t.session.table.map fun e => (e.fingerprint, e.address, e.frame)).head? = some (fp, s.ring.p, s.engine.f + 1) ∧
    (∃ n, ⟨SEvent.playStateChanged .halted s.engine.intent, n⟩ ∈ t.events.sSet) ∧
    (∃ n, ⟨SEvent.sessionEnded fp s.ring.p (s.engine.f + 1)
      (if s.engine.intent = .play then .playing else .paused), n⟩ ∈ t.events.sSet) ∧
    t.events.dSet = latch DEvent.pos .sessionChanged s.events.dSet ∧ LeaveEnds (afterPlayed s) t := by
  obtain ⟨hstate, hsounds, hdSet, hsSet⟩ := hv
  obtain ⟨hleave, htstate, -, htdSet, hcounters, htsSet, htold, hstored⟩ := leaveCloses_leaveEnd v
  dsimp only
  generalize leaveEnd v = t at *
  have hquiet : finish s t = t := finish_quiet (by rw [htstate, hstate]; exact hd) (by rw [htstate, hstate]) (by
    rw [htstate, hstate, State.pauseFlag, State.pauseFlag, hp]; rfl)
  rw [hquiet]
  have hvengine : v.engine.play = s.engine.play ∧ v.engine.intent = s.engine.intent := by rw [hstate]; exact ⟨rfl, rfl⟩
  obtain ⟨hhead, htells⟩ := hstored d fp (by rw [hstate]; exact hdir) (by rw [hstate]; exact hfp)
  rw [hvengine.1, hvengine.2] at htold
  have hentry : v.ring.p = s.ring.p ∧ v.engine.f = s.engine.f + 1 := by rw [hstate]; exact ⟨rfl, rfl⟩
  rw [hvengine.2, hentry.1, hentry.2] at htells
  refine ⟨hsounds.within (by rw [htstate]) (hsounds.counted.congr hcounters fun _ => rfl) htsSet (by decide),
    by rw [htstate], by rw [htstate]; exact hentry.2, by rw [htstate, hstate], ?_, htold (by rw [hp]; decide), ?_,
    htdSet.trans (by rw [hdSet]), ?_⟩
  · rw [List.head?_map, hhead, hentry.1, hentry.2]; rfl
  · rwa [← stored_eq]
  · rw [hstate] at hleave
    exact ⟨hleave.session, hleave.stays, hleave.enters⟩

end

/-- Settles O44: the frame goes out, and a ramp that has come to 0 ends behind it. -/
theorem playedFrameClock : Obligations.PlayedFrameClock := by
  intro s hpowered hd hf x after goesOn
  have hv := frames_framed s
  have hexec : s.engine.play.producing = true → exec .frameClock s = .next (finish s (afterFrame (framed s))) :=
    fun hplay => by rw [exec_frameClock_plays hpowered hplay, if_neg (by omega)]
  have hplay : (framed s).engine.play = s.engine.play ∧ (framed s).conceal = x.conceal := by
    rw [hv.state]; exact ⟨rfl, rfl⟩
  generalize framed s = v at *
  obtain ⟨hplay, hconceal⟩ := hplay
  have hgoesOn : s.engine.play.producing = true → afterFrame v = v → goesOn := fun hproducing hafter => by
    obtain ⟨hquiet, hstate, hsounds, hdSet, hsSet⟩ := hv.goesOn hd
    exact ⟨v, by rw [hexec hproducing, hafter, hquiet], hstate, hsounds, hdSet, hsSet⟩
  have hended : ∀ dest, s.engine.play = .rampDown dest → x.conceal.gp = 0 →
      exec .frameClock s = .next (finish s (rampEnd dest v)) := fun dest hp hg => by
    rw [hexec (by rw [hp]; rfl), afterFrame_ended (hplay.trans hp) (by rw [hconceal]; exact hg)]
  refine ⟨fun hp => hgoesOn (by rw [hp]; rfl) (afterFrame_playing (hplay.trans hp)),
    fun dest hp hg => hgoesOn (by rw [hp]; rfl) (afterFrame_ramp (hplay.trans hp) (by rw [hconceal]; exact hg)),
    fun hp hg => ⟨_, hended _ hp hg, hv.pauses hd hp⟩, fun hp hg => ⟨_, hended _ hp hg, ?stopped⟩,
    fun d fp hp hg hdir hfp => ⟨_, hended _ hp hg, ?leave⟩⟩
  case stopped => exact hv.stopsRamp hp
  case leave => exact hv.leaves hd hp hdir hfp

end Sys2Proof.Machine
end

section
/-! PROOF. The block boundary: slot P released, and P one higher (R13, R36, R73, R94, R96). -/

namespace Sys2Proof.Machine

/-! ### The release of slot P (R13) -/

/-- Emptying an index takes its entry off the slot list. -/
theorem slotsPut_empty (i : Nat) {l : List (Nat × Slot)} (h : slotsWf l = true) :
    slotsPut i .empty l = l.filter fun y => y.1 != i := by
  induction l with
  | nil => rfl
  | cons x rest ih =>
    obtain ⟨j, u⟩ := x
    obtain ⟨-, habove, hrest⟩ := (slotsWf_cons j u rest).mp h
    have hkeep : ∀ k, k ≤ j → (rest.filter fun y => y.1 != k) = rest := fun k hk =>
      List.filter_eq_self.mpr fun y hy => by
        have := habove y hy
        simp only [bne_iff_ne, ne_eq]
        omega
    have hput : slotsPut i .empty ((j, u) :: rest) =
        if i < j then (j, u) :: rest else if i = j then rest else (j, u) :: slotsPut i .empty rest := rfl
    have hfilter : ((j, u) :: rest).filter (fun y => y.1 != i) =
        if j = i then rest.filter (fun y => y.1 != i) else (j, u) :: rest.filter (fun y => y.1 != i) := by
      rw [List.filter_cons]
      by_cases hji : j = i <;> simp [hji]
    rw [hput, hfilter]
    by_cases hlt : i < j
    · rw [if_pos hlt, if_neg (by omega), hkeep i hlt.le]
    · rw [if_neg hlt]
      by_cases heq : i = j
      · rw [if_pos heq, if_pos heq.symm, hkeep i heq.le]
      · rw [if_neg heq, if_neg (Ne.symm heq), ih hrest]

/-- The release of a held slot P is the advance by one (R13, R14). -/
theorem release_eq {r : Ring} (h : (r.slot r.p).isEmpty = false) : r.release = r.advance (r.p + 1) := by
  have hn : r.p + 1 - r.p = 1 := by omega
  rw [Ring.release, if_neg (by simp [h]), Ring.advance, hn]
  rfl

theorem advance_one_eq {r : Ring} (h : slotsWf r.slots = true) :
    r.advance (r.p + 1) = { r with p := r.p + 1, slots := r.slots.filter fun y => y.1 != r.p % r.len } := by
  have hn : r.p + 1 - r.p = 1 := by omega
  rw [Ring.advance, hn, ← slotsPut_empty _ h]
  rfl

theorem one_lt_len (r : Ring) : 1 < r.len := by
  unfold Ring.len ringLength; (repeat' split) <;> omega

/-! ### The part across the boundary -/

/-- Behind the frame and the release, with the gains `c`: P one higher with its slot unopened, the orders trimmed. -/
structure Crosses (c : Conceal) (s w : State) : Prop where
  state : w = { s with
    ring := s.ring.advance (s.ring.p + 1)
    engine := { s.engine with f := 0, slotOpen := false, anticipate := false, program := w.engine.program }
    conceal := c
    line := ⟨(played s).frame, s.line.produced⟩
    power := { s.power with lastSlf := s.now }
    intake := { s.intake with
      latch := s.intake.latch && decide (s.ring.len - s.params.releaseMargin < s.ring.e - (s.ring.p + 1)) }
    planner := w.planner
    events := w.events }
  cuts : Cuts (s.ring.p + 1) s w
  sounds : Sounds s w fun _ => 0
  sSet : RaisesWithin [1, 5, 13] s w

section
variable {s : State}

theorem crosses_releaseSlot (hheld : (s.slot s.ring.p).isEmpty = false) (hapart : Apart s.planner.queue) :
    let u := releaseSlot (framed s)
    Crosses (played s).conceal s u ∧ u.engine.program = s.engine.program ∧ RaisesWithin [5, 13] s u := by
  obtain ⟨hstate, hsounds, hdSet, hsSet⟩ := frames_framed s
  generalize framed s = v at *
  have hring : v.ring = s.ring := by rw [hstate]
  have hmoved : releaseSlot v = movedTo (s.ring.advance (s.ring.p + 1)) 0
      { v with engine := { v.engine with anticipate := false } } := by
    have hdef : releaseSlot v = movedTo v.ring.release 0 { v with engine := { v.engine with anticipate := false } } := rfl
    rw [hdef, hring, release_eq hheld]
  obtain ⟨hmstate, hcuts, hmsSet, hcounters⟩ := movesTo_movedTo (s.ring.advance (s.ring.p + 1)) 0
    { v with engine := { v.engine with anticipate := false } }
  dsimp only
  rw [hmoved]
  generalize movedTo (s.ring.advance (s.ring.p + 1)) 0 { v with engine := { v.engine with anticipate := false } } = u at *
  have hsame : RaisesWithin [] v u := .of_sSet hmsSet
  have hplanner : v.planner = s.planner := by rw [hstate]
  have hlen : (s.ring.advance (s.ring.p + 1)).len = s.ring.len := len_of_straps (by rw [advance_frame])
  have hfull : (s.ring.advance (s.ring.p + 1)).fullness = s.ring.e - (s.ring.p + 1) := by
    rw [Ring.fullness, advance_frame]
  refine ⟨⟨?_, (hcuts (by rw [hplanner]; exact hapart)).from hplanner hdSet, ?_, ?_⟩, ?_, ?_⟩
  · rw [hmstate, hlen, hfull, hstate]
  · exact hsounds.within (by rw [hmstate]) (hsounds.counted.congr hcounters fun _ => rfl) hsame (by simp)
  · exact (hsSet.mono (by decide)).trans (hsame.mono (by simp))
  · rw [hmstate, hstate]
  · exact hsSet.trans (hsame.mono (by simp))

/-- The program number is computed for the new P (R94, R96). -/
theorem Crosses.judged {c : Conceal} {u : State} (hu : Crosses c s u) (hprogram : u.engine.program = s.engine.program)
    (hsSet : RaisesWithin [5, 13] s u) : Crosses c s (judgeProgram u) ∧ ProgramTold s (judgeProgram u) := by
  obtain ⟨hstate, hcuts, hsounds, -⟩ := hu
  have hjstate := judgeProgram_eq u
  obtain ⟨hjdSet, hjcounters⟩ := judgeProgram_rest u
  have htold := judgeProgram_told u
  have hwithin : RaisesWithin [1] u (judgeProgram u) := raisesWithin_judgeProgram (by decide) u
  generalize judgeProgram u = w at *
  refine ⟨⟨?_, hcuts.of_same (by rw [hjstate]) hjdSet, ?_, ?_⟩,
    htold.within hprogram (fun x hx => hsSet x (by simp [hx])) rfl rfl rfl fun _ _ => .rfl⟩
  · rw [hjstate, hstate]
  · exact hsounds.within (by rw [hjstate]) (hsounds.counted.congr hjcounters fun _ => rfl) hwithin (by decide)
  · exact (hsSet.mono (by decide)).trans (hwithin.mono (by decide))

/-- The play gain is set to 0 where it has not come to it (R126). -/
theorem Crosses.silenced {c : Conceal} {w : State} (hw : Crosses c s w) :
    Crosses { c with gp := 0, gpTarget := 0 } s (setPlayGain 0 0 w) := by
  obtain ⟨hstate, hcuts, hsounds, hsSet⟩ := hw
  refine ⟨?_, hcuts.of_same rfl rfl, ⟨hsounds.line, hsounds.counted, hsounds.muted, hsounds.unmuted⟩, hsSet⟩
  have hconceal : w.conceal = c := by rw [hstate]
  have hdef : setPlayGain 0 0 w = { w with conceal := { w.conceal with gp := 0, gpTarget := 0 } } := rfl
  rw [hdef, hconceal]
  conv_lhs => rw [hstate]

end

end Sys2Proof.Machine
end

section
/-! PROOF. What the block boundary comes to: the next slot opened, STARVED, PAUSED, STOPPED or HALTED (R94, R95, R99, R110). -/

namespace Sys2Proof.Machine

/-! ### What every boundary keeps -/

/-- What a boundary leaves whatever follows it, with what else it counts. -/
structure Lasts (also : CounterId → Nat) (s t : State) : Prop where
  sounds : Sounds s t also
  rest : t.rates = s.rates ∧ t.params = s.params ∧ t.sPort = s.sPort ∧ t.dPort = s.dPort ∧ t.now = s.now ∧
    t.engine.f = 0 ∧ t.ring.p = s.ring.p + 1 ∧ t.ring.straps = s.ring.straps ∧ t.planner.fails = s.planner.fails
  flag : FlagTold s t

theorem lasts_finish {also : CounterId → Nat} {s x : State} (hsounds : Sounds s x also)
    (hrest : x.rates = s.rates ∧ x.params = s.params ∧ x.sPort = s.sPort ∧ x.dPort = s.dPort ∧ x.now = s.now ∧
      x.engine.f = 0 ∧ x.ring.p = s.ring.p + 1 ∧ x.ring.straps = s.ring.straps ∧ x.planner.fails = s.planner.fails)
    (hpause : ∀ y : Latched DEvent, y.ev.pos = 3 → (y ∈ x.events.dSet ↔ y ∈ s.events.dSet)) :
    Lasts also s (finish s x) := by
  refine ⟨?_, ?_, finish_flagTold hpause⟩
  · exact hsounds.within (by simp) (hsounds.counted.finish s fun _ => rfl) (raisesWithin_finish [] s x) (by simp)
  · rw [finish_state]
    rw [finish_planner]
    exact hrest

/-- The end of an event leaves all but the planner and the event unit as its last step does. -/
theorem finish_of_state {b x y : State} (h : x = { y with planner := x.planner, events := x.events }) :
    finish b x = { y with planner := (finish b x).planner, events := (finish b x).events } := by
  have hfinish := finish_state b x
  generalize finish b x = t at *
  rw [hfinish, h]

/-- The program number told before the boundary's last step stays told. -/
theorem ProgramTold.on {ps : List Nat} {s w t : State} (h : ProgramTold s w) (hprogram : t.engine.program = w.engine.program)
    (hsession : t.session = w.session) (hp : t.ring.p = w.ring.p) (hsSet : RaisesWithin ps w t) (hps : 1 ∉ ps) :
    ProgramTold s t :=
  h.within rfl (fun _ _ => .rfl) hprogram hsession hp fun x hx => hsSet x (hx ▸ hps)

theorem Cuts.pause {low : Nat} {s u : State} (h : Cuts low s u) (y : Latched DEvent) (hy : y.ev.pos = 3) :
    y ∈ u.events.dSet ↔ y ∈ s.events.dSet := by
  rw [h.dSet]; exact mem_withdrawnTold (by omega) _ _ _

theorem Crosses.rest {c : Conceal} {s w : State} (hw : Crosses c s w) :
    w.rates = s.rates ∧ w.params = s.params ∧ w.sPort = s.sPort ∧ w.dPort = s.dPort ∧ w.now = s.now ∧
      w.engine.f = 0 ∧ w.ring.p = s.ring.p + 1 ∧ w.ring.straps = s.ring.straps ∧ w.planner.fails = s.planner.fails := by
  have hplanner := hw.cuts.planner
  rw [hplanner, hw.state]
  refine ⟨rfl, rfl, rfl, rfl, rfl, rfl, rfl, ?_, rfl⟩
  dsimp only
  rw [advance_frame]

/-! ### The next slot opens (R92, R94) -/

section
variable {c : Conceal} {s w : State} (hw : Crosses c s w)

theorem openSlot_facts (w : State) : openSlot w = { w with
      engine := { w.engine with slotOpen := true }, planner := (openSlot w).planner, events := (openSlot w).events } ∧
    (Apart w.planner.queue → Cuts (w.ring.p + 1) w (openSlot w)) ∧ (openSlot w).events.sSet = w.events.sSet ∧
    (openSlot w).events.counters = w.events.counters := by
  obtain ⟨hsSet, hcounters⟩ := trimAll_events (w.ring.p + 1) { w with engine := { w.engine with slotOpen := true } }
  refine ⟨trimAll_state (w.ring.p + 1) { w with engine := { w.engine with slotOpen := true } }, fun h => ?_, hsSet, hcounters⟩
  exact (trimmed_trimAll (w.ring.p + 1) (s := { w with engine := { w.engine with slotOpen := true } }) h).cuts.from rfl rfl

include hw

theorem Crosses.opens (hlaw : s.planner.Law) (hd : s.planner.scanDue = false) :
    let t := finish s (openSlot w)
    Lasts (fun _ => 0) s t ∧ RaisesWithin [] w t ∧ Trims (s.ring.p + 1) true s t ∧
    t = { w with engine := { w.engine with slotOpen := true }, planner := t.planner, events := t.events } := by
  have hapart := apart_of_law hlaw
  have hrest := hw.rest
  obtain ⟨hstate, hcuts, hsounds, hsSet⟩ := hw
  obtain ⟨hxstate, hxcuts, hxsSet, hxcounters⟩ := openSlot_facts w
  have hp : w.ring.p = s.ring.p + 1 := by rw [hstate]; rfl
  have hxcut := hxcuts (hcuts.apart hapart)
  rw [hp] at hxcut
  dsimp only
  generalize openSlot w = x at *
  have hwithin : RaisesWithin [] w x := .of_sSet hxsSet
  have hpasses := hcuts.passes_opened hapart hxcut
  have hfails : x.planner.fails = w.planner.fails := by rw [hxcut.planner]
  refine ⟨lasts_finish ?_ ?_ fun y hy => (hxcut.pause y hy).trans (hcuts.pause y hy), hwithin.trans (raisesWithin_finish [] s x),
    hpasses.trims hlaw hd (by rw [hxstate]; exact hp) (by rw [hxstate]), ?_⟩
  · exact hsounds.within (by rw [hxstate]) (hsounds.counted.congr hxcounters fun _ => rfl) hwithin (by simp)
  · rw [← hfails] at hrest
    rw [hxstate]
    exact hrest
  · exact finish_of_state (y := { w with engine := { w.engine with slotOpen := true } }) hxstate

/-! ### STARVED (R99, R101) -/

/-- What STARVED counts at the P of `w`. -/
def starveCount (w : State) (x : CounterId) : Nat :=
  if x = .starveEpisodes then 1 else if x = .slotsAbandoned ∧ playsThrough w then 1 else 0

theorem Crosses.starves (hlaw : s.planner.Law) (hd : s.planner.scanDue = false) :
    let t := finish s (enterStarved w)
    Lasts (starveCount w) s t ∧ RaisesWithin [0, 3, 4, 13] w t ∧ Trims (s.ring.p + 1) (playsThrough w) s t ∧
    (∃ n, ⟨SEvent.starved (s.ring.p + 1), n⟩ ∈ t.events.sSet) ∧
    (playsThrough w = true → ∃ n, ⟨SEvent.slotAbandoned (s.ring.p + 1) (s.ring.p + 1), n⟩ ∈ t.events.sSet) ∧
    t = { w with
      ring := if playsThrough w then w.ring.giveUpHole w.ring.p else w.ring
      engine := if playsThrough w then opened (starvedEngine w) else starvedEngine w
      conceal := if playsThrough w then gainsFromStarved w.params false w.conceal else w.conceal
      planner := t.planner, events := t.events } := by
  have hapart := apart_of_law hlaw
  have hrest := hw.rest
  have hopen : w.engine.slotOpen = false := by rw [hw.state]
  obtain ⟨hstate, hcuts, hsounds, -⟩ := hw
  obtain ⟨hxstate, hxpasses, hxcounted, hxsSet, hstarved, habandoned⟩ := starveLands_enterStarved w
  have hp : w.ring.p = s.ring.p + 1 := by rw [hstate]; rfl
  have hpasses := hxpasses (hp ▸ hcuts) hapart
  rw [hp] at hpasses hstarved habandoned
  dsimp only
  generalize enterStarved w = x at *
  have hsame : RaisesWithin [] x (finish s x) := raisesWithin_finish [] s x
  have hfails : x.planner.fails = w.planner.fails := by rw [hpasses.planner, hcuts.planner]
  have hring : x.ring.p = w.ring.p ∧ x.ring.straps = w.ring.straps := by
    rw [hxstate]; dsimp only; split <;> [(rw [giveUpHole_frame]; exact ⟨rfl, rfl⟩); exact ⟨rfl, rfl⟩]
  have hengine : x.engine.f = w.engine.f ∧ x.engine.slotOpen = playsThrough w := by
    rw [hxstate]
    dsimp only
    cases playsThrough w <;> [exact ⟨rfl, hopen⟩; exact ⟨rfl, rfl⟩]
  refine ⟨lasts_finish ?_ ?_ fun y hy => hpasses.dSet y (by omega), hxsSet.trans (hsame.mono (by simp)),
    hpasses.trims hlaw hd (by rw [hring.1, hp]) hengine.2, hsame.keeps (by simp) hstarved,
    fun h => hsame.keeps (by simp) (habandoned h), finish_of_state (y := { w with
      ring := if playsThrough w then w.ring.giveUpHole w.ring.p else w.ring
      engine := if playsThrough w then opened (starvedEngine w) else starvedEngine w
      conceal := if playsThrough w then gainsFromStarved w.params false w.conceal else w.conceal }) hxstate⟩
  · refine hsounds.within (by rw [hxstate]) ?_ hxsSet (by decide)
    refine (hxcounted hsounds.counted rfl rfl).congr rfl fun x => ?_
    cases x <;> rfl
  · rw [← hring.1, ← hring.2, ← hfails, ← hengine.1] at hrest
    rw [hxstate] at hrest ⊢
    exact hrest

end

end Sys2Proof.Machine
end

section
/-! PROOF. The end of a ramp and the end of the disc at a block boundary (R94, R95, R110, R143). -/

namespace Sys2Proof.Machine

/-! ### A queue emptied with an ISSUED entry (R76) -/

theorem mem_emptiedTold {x : Latched DEvent} (hx : x.ev.pos ≠ 2) (q : List Order) (d : List (Latched DEvent)) :
    x ∈ emptiedTold q d ↔ x ∈ d := by
  unfold emptiedTold
  split <;> [exact mem_latch_other (by simpa [DEvent.pos] using hx) _; rfl]

/-- A trim leaves an entry ISSUED or QUEUED as it was. -/
theorem issue_of_behind {low : Nat} {o g : Order} (h : o.behind low = some g) : g.issue = o.issue := by
  unfold Order.behind at h
  split at h <;> cases h
  rfl

/-- The ISSUED entry of the queue emptied is told of (R76). -/
theorem emptiedTold_issued {q : List Order} {g : Order} {i : Issue} (hq : q.countP Order.isIssued ≤ 1) (hg : g ∈ q)
    (hi : g.issue = some i) (d : List (Latched DEvent)) :
    ∃ n, ⟨DEvent.orderWithdrawn i.tag g.first, n⟩ ∈ emptiedTold q d := by
  obtain ⟨l, r, rfl⟩ := List.append_of_mem hg
  have hfind : ((l ++ g :: r).find? fun o => o.issue.isSome) = some g :=
    find?_issued (by simp [Order.isIssued, hi]) hq
  have htag : g.toldTag = i.tag := by simp [Order.toldTag, hi]
  rw [emptiedTold, hfind]
  dsimp only
  rw [htag]
  exact exists_mem_latch ..

/-- What STOPPED at a boundary comes to, the intent being `i`. -/
structure StopsAt (i : Intent) (s t : State) : Prop where
  lasts : Lasts (fun _ => 0) s t
  keeps : t.session = s.session ∧ t.power = { s.power with lastSlf := s.now }
  ring : t.ring = { s.ring with
    slots := [], p := s.ring.p + 1, e := s.ring.p + 1, owner := s.session.fingerprint }
  engine : t.engine.play = .stopped ∧ t.engine.intent = i ∧ t.engine.slotOpen = false ∧ t.engine.stall = none ∧
    t.engine.holeWait = 0
  conceal : t.conceal.gp = 0 ∧ t.conceal.gpTarget = 0 ∧ t.conceal.gc = (played s).conceal.gc ∧
    t.conceal.left = ⟨0, none⟩ ∧ t.conceal.right = ⟨0, none⟩
  emptied : t.intake.run = none ∧ t.planner.queue = [] ∧ t.planner.tagCounter = 0
  flag : t.pauseFlag = true
  flagTold : s.pauseFlag = false → ∃ n, ⟨DEvent.pauseChanged true, n⟩ ∈ t.events.dSet
  withdrawn : ∀ o ∈ s.planner.queue, ∀ j g, o.issue = some j → o.behind (s.ring.p + 1) = some g →
    ∃ n, ⟨DEvent.orderWithdrawn j.tag g.first, n⟩ ∈ t.events.dSet
  told : ∃ n, ⟨SEvent.playStateChanged .stopped i, n⟩ ∈ t.events.sSet

/-- The end of a leave goes by the session unit, the power controller, the ring and the timebase. -/
theorem LeaveEnds.congr {s s' t t' : State} (h : LeaveEnds s t)
    (hs : s'.session = s.session ∧ s'.power = s.power ∧ s'.ring = s.ring ∧ s'.now = s.now)
    (ht : t'.session = t.session ∧ t'.power = t.power ∧ t'.ring = t.ring ∧
      t'.planner.tagCounter = t.planner.tagCounter) : LeaveEnds s' t' := by
  obtain ⟨hsession, hstays, henters⟩ := h
  obtain ⟨hs1, hs2, hs3, hs4⟩ := hs
  obtain ⟨ht1, ht2, ht3, ht4⟩ := ht
  have hwaits : s'.loadWaits = s.loadWaits := by rw [State.loadWaits, State.loadWaits, hs1, hs2]
  refine ⟨?_, ?_, ?_⟩
  · rw [ht1, hs1, hs4, hwaits]; exact hsession
  · rw [ht2, ht3, hs2, hs3]; exact hstays
  · rw [ht2, ht3, ht4, hs2, hs3]; exact henters

/-- What the end of a leave at a boundary comes to, with the gains `c`. -/
structure LeavesAt (c : Conceal) (s t : State) : Prop where
  lasts : Lasts (fun _ => 0) s t
  engine : t.engine.play = .halted ∧ t.engine.intent = s.engine.intent ∧ t.engine.slotOpen = false
  conceal : t.conceal = c
  window : t.ring.e = s.ring.e ∧ t.ring.owner = s.ring.owner
  ends : LeaveEnds { s with
    ring := { s.ring with
      p := s.ring.p + 1, slots := s.ring.slots.filter fun y => y.1 != s.ring.p % s.ring.len }
    power := { s.power with lastSlf := s.now } } t
  stored : ∀ d fp, s.session.directory = some d → s.session.fingerprint = some fp →
    (t.session.table.map fun e => (e.fingerprint, e.address, e.frame, e.intent)).head? =
      some (fp, s.ring.p + 1, 0, if s.engine.intent = .play then .playing else .paused) ∧
    ∃ n, ⟨SEvent.sessionEnded fp (s.ring.p + 1) 0 (if s.engine.intent = .play then .playing else .paused), n⟩ ∈
      t.events.sSet
  told : ∃ n, ⟨SEvent.playStateChanged .halted s.engine.intent, n⟩ ∈ t.events.sSet
  changed : ∃ n, ⟨DEvent.sessionChanged, n⟩ ∈ t.events.dSet

section
variable {c : Conceal} {s w : State} (hw : Crosses c s w)
include hw

/-! ### PAUSED -/

theorem Crosses.pauses (hlaw : s.planner.Law) (hd : s.planner.scanDue = false) (hp : s.engine.play ≠ .paused) :
    let t := finish s (setPlay .paused w)
    Lasts (fun _ => 0) s t ∧ RaisesWithin [0] w t ∧ Trims (s.ring.p + 1) false s t ∧
    (∃ n, ⟨SEvent.playStateChanged .paused s.engine.intent, n⟩ ∈ t.events.sSet) ∧
    t = { w with
      engine := { w.engine with play := .paused, anticipate := false }, planner := t.planner, events := t.events } := by
  have hrest := hw.rest
  have hopen : w.engine.slotOpen = false := by rw [hw.state]
  have hengine : w.engine.play = s.engine.play ∧ w.engine.intent = s.engine.intent := by rw [hw.state]; exact ⟨rfl, rfl⟩
  obtain ⟨hstate, hcuts, hsounds, -⟩ := hw
  have hwp : w.ring.p = s.ring.p + 1 := by rw [hstate]; rfl
  have hxstate := setPlay_eq .paused w
  obtain ⟨hxdSet, hxcounters⟩ := setPlay_rest .paused w
  have htold := setPlay_told (p := .paused) (s := w) (by rw [hengine.1]; exact Ne.symm hp)
  rw [hengine.2] at htold
  have hxsSet : RaisesWithin [0] w (setPlay .paused w) := raisesWithin_setPlay (by decide) .paused w
  dsimp only
  generalize setPlay .paused w = x at *
  have hplanner : x.planner = w.planner := by rw [hxstate]
  have hpasses := (hcuts.of_same hplanner hxdSet).passes (apart_of_law hlaw)
  have hsame : RaisesWithin [] x (finish s x) := raisesWithin_finish [] s x
  refine ⟨lasts_finish ?_ ?_ fun y hy => hpasses.dSet y (by omega), hxsSet.trans (hsame.mono (by simp)),
    hpasses.trims hlaw hd (by rw [hxstate]; exact hwp) (by rw [hxstate]; exact hopen), hsame.keeps (by simp) htold, ?_⟩
  · exact hsounds.within (by rw [hxstate]) (hsounds.counted.congr hxcounters fun _ => rfl) hxsSet (by decide)
  · rw [hxstate]; exact hrest
  · refine finish_of_state (y := { w with engine := { w.engine with play := .paused, anticipate := false } })
      (hxstate.trans ?_)
    rw [hxstate]
    rfl

/-! ### STOPPED -/

theorem Crosses.stops {i : Intent} {x : State} (hx : Stops (setIntent i w) x) (hconceal : c.gc = (played s).conceal.gc)
    (hlaw : s.planner.Law) (hp : s.engine.play ≠ .stopped) : StopsAt i s (finish s x) ∧
      (ProgramTold s w → ProgramTold s (finish s x)) ∧
      (w.engine.program = s.engine.program → RaisesWithin [5, 13] s w → ProgramTold s (finish s x)) := by
  have hrest := hw.rest
  obtain ⟨hstate, hcuts, hsounds, -⟩ := hw
  have hpause : ∀ y : Latched DEvent, y.ev.pos = 3 → (y ∈ x.events.dSet ↔ y ∈ s.events.dSet) := fun y hy => by
    rw [hx.dSet, mem_emptiedTold (by omega)]
    exact hcuts.pause y hy
  have hlasts : Lasts (fun _ => 0) s (finish s x) := by
    refine lasts_finish ?_ ?_ hpause
    · exact hsounds.within (by rw [hx.state]; rfl) (hsounds.counted.congr hx.counters fun _ => rfl) hx.sSet (by decide)
    · rw [hx.state]
      obtain ⟨hrates, hparams, hsPort, hdPort, hnow, -, hwp, hstraps, hfails⟩ := hrest
      exact ⟨hrates, hparams, hsPort, hdPort, hnow, rfl, hwp, hstraps, hfails⟩
  have hends := hx.finish s
  generalize finish s x = t at *
  have hflag := hends.flag
  obtain ⟨hring, hplanner, hintake, hengine, htconceal, ⟨-, hsession, hpower, -⟩, hdSet, -, -, hstill, htold,
    hprogram⟩ := hends
  have hring' : t.ring.p = w.ring.p := by rw [hring]; rfl
  have hnumber : t.engine.program = w.programNow := by rw [hengine]; rfl
  refine ⟨⟨hlasts, ⟨hsession.trans (by rw [hstate]; rfl), hpower.trans (by rw [hstate]; rfl)⟩, ?_, ?_, ?_,
    ⟨by rw [hintake], by rw [hplanner], by rw [hplanner]⟩, hflag, fun hf => ?_, fun o ho j g hj hg => ?_, ?_⟩,
    fun h => h.on (hnumber.trans h.number.symm) hsession hring' (hstill h.number.symm) (by decide),
    fun hp hs => hprogram.within hp (fun y hy => hs y (by simp [hy])) rfl rfl rfl fun _ _ => .rfl⟩
  · rw [hring, hstate]
    show (s.ring.advance (s.ring.p + 1)).flush _ _ = _
    rw [advance_frame]
    rfl
  · rw [hengine]; exact ⟨rfl, rfl, rfl, rfl, rfl⟩
  · rw [htconceal, hstate]; exact ⟨rfl, rfl, hconceal, rfl, rfl⟩
  · rw [hdSet, hf]; exact exists_mem_latch ..
  · have hleft : g ∈ w.planner.queue := by rw [hcuts.planner]; exact List.mem_filterMap.mpr ⟨o, ho, hg⟩
    have hissue : g.issue = some j := (issue_of_behind hg).trans hj
    have hone : w.planner.queue.countP Order.isIssued ≤ 1 := by
      rw [hcuts.planner]
      exact ((cut_behind _ _).law ((plannerLaw_iff _).mp hlaw).1).issued
    obtain ⟨n, hn⟩ := emptiedTold_issued hone hleft hissue (setIntent i w).events.dSet
    rw [hdSet, pauseTold]
    split
    · exact ⟨n, hn⟩
    · exact ⟨n, (mem_latch_other (by simp [DEvent.pos]) _).mpr hn⟩
  · exact htold (by rw [hstate]; exact hp)

/-! ### HALTED -/

theorem Crosses.leaves (hlaw : slotsWf s.ring.slots = true) (hp : s.engine.play = .rampDown .leave) :
    LeavesAt c s (finish s (leaveEnd w)) ∧ (ProgramTold s w → ProgramTold s (finish s (leaveEnd w))) := by
  have hrest := hw.rest
  obtain ⟨hstate, hcuts, hsounds, -⟩ := hw
  obtain ⟨hends, hxstate, ⟨hxp, hxe, hxowner, hxstraps⟩, hxdSet, hxcounters, hxsSet, hxtold, hstored⟩ :=
    leaveCloses_leaveEnd w
  generalize leaveEnd w = x at *
  have hsame : RaisesWithin [] x (finish s x) := raisesWithin_finish [] s x
  obtain ⟨hfring, -, -, hfengine, hfconceal, -, hfsession, -, -, hfpower, -⟩ := finish_frame s x
  have hwring : w.ring = { s.ring with
      p := s.ring.p + 1, slots := s.ring.slots.filter fun y => y.1 != s.ring.p % s.ring.len } := by
    rw [hstate]; exact advance_one_eq hlaw
  have hlasts : Lasts (fun _ => 0) s (finish s x) := by
    refine lasts_finish ?_ ?_ fun y hy => ?_
    · exact hsounds.within (by rw [hxstate]) (hsounds.counted.congr hxcounters fun _ => rfl) hxsSet (by decide)
    · rw [← hxp, ← hxstraps] at hrest
      rw [hxstate]
      exact hrest
    · rw [hxdSet, mem_latch_other (show y.ev.pos ≠ DEvent.sessionChanged.pos by rw [hy]; decide)]
      exact hcuts.pause y hy
  have hengine : x.engine.play = .halted ∧ x.engine.intent = s.engine.intent ∧ x.engine.slotOpen = false ∧
      x.engine.program = w.engine.program := by rw [hxstate, hstate]; exact ⟨rfl, rfl, rfl, rfl⟩
  have htag : (finish s x).planner.tagCounter = x.planner.tagCounter := by rw [finish_planner]
  have hwhere : w.ring.p = s.ring.p + 1 ∧ w.engine.f = 0 ∧ w.engine.intent = s.engine.intent ∧
      w.engine.play = s.engine.play := by rw [hstate]; exact ⟨rfl, rfl, rfl, rfl⟩
  obtain ⟨hwp, hwf, hwintent, hwplay⟩ := hwhere
  rw [hwplay, hwintent] at hxtold
  rw [hwp, hwf, hwintent, stored_eq] at hstored
  refine ⟨⟨hlasts, ?_, ?_, ?_, ?_, fun d fp hdir hfp => ?_, ?_, ?_⟩, fun htold => ?_⟩
  · rw [hfengine]; exact ⟨hengine.1, hengine.2.1, hengine.2.2.1⟩
  · rw [hfconceal, hxstate, hstate]
  · rw [hfring, hxe, hxowner, hwring]; exact ⟨rfl, rfl⟩
  · exact hends.congr ⟨by rw [hstate], by rw [hstate], hwring.symm, by rw [hstate]⟩ ⟨hfsession, hfpower, hfring, htag⟩
  · obtain ⟨hhead, htells⟩ := hstored d fp (by rw [hstate]; exact hdir) (by rw [hstate]; exact hfp)
    refine ⟨?_, hsame.keeps (by simp) htells⟩
    rw [hfsession, List.head?_map, hhead]
    rfl
  · exact hsame.keeps (by simp) (hxtold (by rw [hp]; decide))
  · refine (exists_mem_latch (pos := DEvent.pos) .sessionChanged w.events.dSet).imp fun n hn => ?_
    exact (mem_finish_dSet (by simp [DEvent.pos]) (by simp [DEvent.pos]) s x).mpr (hxdSet ▸ hn)
  · have hnow : (finish s x).programNow = w.programNow := by
      have hdir : x.session.directory = w.session.directory := by rw [hends.session]
      rw [State.programNow, State.programNow, hfsession, hfring, hxp, hdir]
    have hprogram : (finish s x).engine.program = w.engine.program := by rw [hfengine, hengine.2.2.2]
    have hlast : RaisesWithin [0, 11] w (finish s x) := hxsSet.trans (hsame.mono (by simp))
    refine ⟨by rw [hprogram, hnow, htold.number], fun hne => ?_, fun heq y hy hpos => ?_⟩
    · rw [hprogram, hfring, hxp]
      exact hlast.keeps (by simp [SEvent.pos]) (htold.raised (hprogram ▸ hne))
    · exact htold.quiet (hprogram ▸ heq) y ((hlast y (by rw [hpos]; decide)).mp hy) hpos

end

end Sys2Proof.Machine
end

section
/-! PROOF. FRAME_CLOCK on the last frame of slot P, by what follows the boundary (R94, R95). -/

namespace Sys2Proof.Machine

/-! ### Which step follows -/

section
variable {w : State}

theorem boundaryNext_opens (h : w.engine.play = .playing ∨ (∃ dest, w.engine.play = .rampDown dest) ∧ w.conceal.gp ≠ 0)
    (hp : (w.slot w.ring.p).playable = true) : boundaryNext w = openSlot w := by
  have hp' : w.playable w.ring.p = true := hp
  rcases h with h | ⟨⟨dest, h⟩, hg⟩
  · simp only [boundaryNext, h, hp', if_true]
  · simp only [boundaryNext, h, hp', if_neg hg, if_true]

theorem boundaryNext_starves (h : w.engine.play = .playing) (hp : (w.slot w.ring.p).playable = false) :
    boundaryNext w = enterStarved w := by
  have hp' : w.playable w.ring.p = false := hp
  simp only [boundaryNext, h, hp', if_neg Bool.false_ne_true]

theorem boundaryNext_ends {dest : Dest} (h : w.engine.play = .rampDown dest)
    (hp : w.conceal.gp = 0 ∨ (w.slot w.ring.p).playable = false) :
    boundaryNext w = rampEnd dest (if w.conceal.gp = 0 then w else setPlayGain 0 0 w) := by
  by_cases hg : w.conceal.gp = 0
  · simp only [boundaryNext, h, if_pos hg]
  · have hp' : w.playable w.ring.p = false := hp.resolve_left hg
    simp only [boundaryNext, h, if_neg hg, hp', if_neg Bool.false_ne_true]

theorem boundaryEndOfDisc_stops (h : w.engine.play ≠ .rampDown .leave) : boundaryEndOfDisc w = endOfDisc w := by
  unfold boundaryEndOfDisc
  split <;> [contradiction; rfl]

theorem boundaryEndOfDisc_leaves (h : w.engine.play = .rampDown .leave) :
    boundaryEndOfDisc w = leaveEnd (setPlayGain 0 0 w) := by simp only [boundaryEndOfDisc, h]

end

/-! ### The window behind the boundary -/

/-- The slots of the part across the boundary, and what the lower fullness makes of the latch (R13, R36). -/
theorem Crosses.window {c : Conceal} {s w : State} (hw : Crosses c s w) (hlaw : s.ring.Law)
    (hheld : (s.slot s.ring.p).isEmpty = false) :
    w.ring.e = s.ring.e ∧ w.ring.owner = s.ring.owner ∧ w.ring.len = s.ring.len ∧ w.ring.Law ∧
    w.slot s.ring.p = .empty ∧ w.slot (s.ring.p + 1) = s.slot (s.ring.p + 1) ∧
    ∀ a, s.ring.p + 1 < a → a < s.ring.e → w.slot a = s.slot a := by
  have hring : w.ring = s.ring.advance (s.ring.p + 1) := by rw [hw.state]
  have hpe := p_lt_e hlaw hheld
  have hel := ((law_iff _).mp hlaw).2.2.1
  have hlen := one_lt_len s.ring
  have hslot : ∀ a, s.ring.p ≤ a → a < s.ring.p + s.ring.len →
      w.slot a = if a < s.ring.p + 1 then .empty else s.slot a := fun a hlo hhi => by
    rw [State.slot, hring]
    exact advance_slot hlaw (Nat.le_succ _) hpe hlo hhi
  refine ⟨by rw [hring, advance_frame], by rw [hring, advance_frame], len_of_straps (by rw [hring, advance_frame]),
    by rw [hring]; exact advance_law hlaw (Nat.le_succ _) hpe, ?_, ?_, fun a hlo hhi => ?_⟩
  · rw [hslot _ (le_refl _) (by omega), if_pos (Nat.lt_succ_self _)]
  · rw [hslot _ (Nat.le_succ _) (by omega), if_neg (lt_irrefl _)]
  · rw [hslot a (by omega) (by omega), if_neg (by omega)]

/-! ### The boundary by what follows it -/

/-- The last frame of a playable slot P, in a lawful part. -/
structure AtBoundary (s : State) : Prop where
  producing : s.engine.play.producing = true
  playable : (s.slot s.ring.p).playable = true
  ring : s.ring.Law
  law : s.planner.Law
  quiet : s.planner.scanDue = false

/-- The part with slot P released, at T too. -/
def released (s : State) : State := releaseSlot (framed s)

/-- The part before T with its program number computed. -/
def crossing (s : State) : State := judgeProgram (released s)

/-- The part in which a ramp ends. -/
def rampOver (s : State) : State :=
  if (crossing s).conceal.gp = 0 then crossing s else setPlayGain 0 0 (crossing s)

/-- The gains at the end of a ramp before T, or of a leave at T (R126). -/
def silentGains (s : State) : Conceal :=
  { (played s).conceal with
    gp := 0
    gpTarget := if (played s).conceal.gp = 0 ∧ s.ring.p + 1 ≠ s.t then (played s).conceal.gpTarget else 0 }

section
variable {s : State} (h : AtBoundary s)
include h

theorem AtBoundary.held : (s.slot s.ring.p).isEmpty = false := by
  have hp := h.playable
  revert hp
  cases s.slot s.ring.p <;> simp [Slot.playable, Slot.isEmpty]

theorem AtBoundary.released : Crosses (played s).conceal s (released s) ∧
    (Machine.released s).engine.program = s.engine.program ∧ RaisesWithin [5, 13] s (Machine.released s) :=
  crosses_releaseSlot h.held (apart_of_law h.law)

theorem AtBoundary.crossing : Crosses (played s).conceal s (crossing s) ∧ ProgramTold s (Machine.crossing s) :=
  h.released.1.judged h.released.2.1 h.released.2.2

theorem AtBoundary.rampOver (ht : s.ring.p + 1 ≠ s.t) :
    Crosses (silentGains s) s (rampOver s) ∧ ProgramTold s (Machine.rampOver s) := by
  obtain ⟨hw, htold⟩ := h.crossing
  have hconceal : (Machine.crossing s).conceal = (played s).conceal := by rw [hw.state]
  unfold Machine.rampOver silentGains
  rw [hconceal]
  generalize Machine.crossing s = w at *
  generalize (played s).conceal = c at *
  by_cases hg : c.gp = 0
  · have hsame : { c with gp := 0, gpTarget := c.gpTarget } = c := by rw [← hg]
    rw [if_pos hg, if_pos ⟨hg, ht⟩, hsame]
    exact ⟨hw, htold⟩
  · rw [if_neg hg, if_neg fun hh => hg hh.1]
    exact ⟨hw.silenced, htold.number, htold.raised, htold.quiet⟩

/-- The part in which a leave ends at T. -/
theorem AtBoundary.leftAtEnd (ht : s.ring.p + 1 = s.t) :
    Crosses (silentGains s) s (setPlayGain 0 0 (Machine.released s)) := by
  unfold silentGains
  rw [if_neg fun hh => hh.2 ht]
  exact h.released.1.silenced

theorem AtBoundary.boundary_beforeEnd (ht : s.ring.p + 1 ≠ s.t) :
    blockBoundary (framed s) = boundaryNext (Machine.crossing s) := by
  have hstate := h.released.1.state
  refine if_neg fun hh => ht ?_
  change (Machine.released s).ring.p = (Machine.released s).t at hh
  rw [hstate] at hh
  exact hh

theorem AtBoundary.boundary_atEnd (ht : s.ring.p + 1 = s.t) :
    blockBoundary (framed s) = boundaryEndOfDisc (Machine.released s) := by
  have hstate := h.released.1.state
  refine if_pos ?_
  change (Machine.released s).ring.p = (Machine.released s).t
  rw [hstate]
  exact ht

/-- What the next step finds. -/
theorem AtBoundary.finds : (Machine.crossing s).engine.play = s.engine.play ∧
    (Machine.crossing s).conceal.gp = (played s).conceal.gp ∧
    (Machine.crossing s).slot (Machine.crossing s).ring.p = s.slot (s.ring.p + 1) := by
  have hw := h.crossing.1
  obtain ⟨-, -, -, -, -, hslot, -⟩ := hw.window h.ring h.held
  have hp : (Machine.crossing s).ring.p = s.ring.p + 1 := by rw [hw.state]; rfl
  rw [hp, hslot, hw.state]
  exact ⟨rfl, rfl, rfl⟩

end

end Sys2Proof.Machine
end

section
/-! PROOF. FRAME_CLOCK on the last frame of slot P, at the end of its event (R13, R94, R95, R110). -/

namespace Sys2Proof.Machine

/-- The part behind the event of the last frame of slot P. -/
def bounded (s : State) : State := finish s (blockBoundary (framed s))

/-- STARVED follows the boundary (R99). -/
abbrev starvesNext (s : State) : Prop :=
  s.engine.play = .playing ∧ s.ring.p + 1 ≠ s.t ∧ (s.slot (s.ring.p + 1)).playable = false

/-- The wait at the hole behind the boundary ends as it begins (R101). -/
abbrev goesThrough (s : State) : Prop :=
  s.engine.play = .playing ∧ s.ring.p + 1 ≠ s.t ∧ (s.slot (s.ring.p + 1)).isMissing = true ∧ s.holeWaitLimit = 0

theorem starvesNext_of_goesThrough {s : State} (h : goesThrough s) : starvesNext s :=
  ⟨h.1, h.2.1, not_playable_of_missing h.2.2.1⟩

/-- What the boundary counts beside the frame's words. -/
def boundaryCount (s : State) (c : CounterId) : Nat :=
  if c = .starveEpisodes ∧ starvesNext s then 1 else if c = .slotsAbandoned ∧ goesThrough s then 1 else 0

theorem boundaryCount_quiet {s : State} (h : ¬ starvesNext s) (c : CounterId) : boundaryCount s c = 0 := by
  have hthrough : ¬ goesThrough s := fun hh => h (starvesNext_of_goesThrough hh)
  simp only [boundaryCount, h, hthrough, and_false, if_false]

theorem Lasts.congr {also also' : CounterId → Nat} {s t : State} (h : Lasts also s t) (heq : ∀ c, also' c = also c) :
    Lasts also' s t := (funext heq : also' = also) ▸ h

theorem playing_or_ramp {p : Play} (h : p.producing = true) : p = .playing ∨ ∃ dest, p = .rampDown dest := by
  cases p <;> simp_all [Play.producing]

section
variable {s : State} (h : AtBoundary s)
include h

/-! ### The branches -/

theorem AtBoundary.opens (ht : s.ring.p + 1 ≠ s.t) (hplay : s.engine.play = .playing ∨ (played s).conceal.gp ≠ 0)
    (hp : (s.slot (s.ring.p + 1)).playable = true) : bounded s = finish s (openSlot (Machine.crossing s)) := by
  obtain ⟨hfplay, hfgp, hfslot⟩ := h.finds
  have hplay' : s.engine.play = .playing ∨ (∃ dest, s.engine.play = .rampDown dest) ∧ (played s).conceal.gp ≠ 0 :=
    (playing_or_ramp h.producing).imp_right fun hramp => ⟨hramp, hplay.resolve_left fun hpl => by
      obtain ⟨dest, hd⟩ := hramp
      rw [hpl] at hd
      cases hd⟩
  rw [bounded, h.boundary_beforeEnd ht, boundaryNext_opens (by rw [hfplay, hfgp]; exact hplay') (by rw [hfslot]; exact hp)]

theorem AtBoundary.starves (hs : starvesNext s) : bounded s = finish s (enterStarved (Machine.crossing s)) := by
  obtain ⟨hfplay, -, hfslot⟩ := h.finds
  rw [bounded, h.boundary_beforeEnd hs.2.1, boundaryNext_starves (by rw [hfplay]; exact hs.1) (by rw [hfslot]; exact hs.2.2)]

theorem AtBoundary.ends (ht : s.ring.p + 1 ≠ s.t) {dest : Dest} (hplay : s.engine.play = .rampDown dest)
    (hp : (played s).conceal.gp = 0 ∨ (s.slot (s.ring.p + 1)).playable = false) :
    bounded s = finish s (rampEnd dest (Machine.rampOver s)) := by
  obtain ⟨hfplay, hfgp, hfslot⟩ := h.finds
  rw [bounded, h.boundary_beforeEnd ht, boundaryNext_ends (by rw [hfplay]; exact hplay) (by rw [hfgp, hfslot]; exact hp)]
  rfl

theorem AtBoundary.stopsAtEnd (ht : s.ring.p + 1 = s.t) (hplay : s.engine.play ≠ .rampDown .leave) :
    bounded s = finish s (endOfDisc (Machine.released s)) := by
  have hfplay : (Machine.released s).engine.play = s.engine.play := by rw [h.released.1.state]
  rw [bounded, h.boundary_atEnd ht, boundaryEndOfDisc_stops (by rw [hfplay]; exact hplay)]

theorem AtBoundary.leavesAtEnd (ht : s.ring.p + 1 = s.t) (hplay : s.engine.play = .rampDown .leave) :
    bounded s = finish s (leaveEnd (setPlayGain 0 0 (Machine.released s))) := by
  have hfplay : (Machine.released s).engine.play = s.engine.play := by rw [h.released.1.state]
  rw [bounded, h.boundary_atEnd ht, boundaryEndOfDisc_leaves (by rw [hfplay]; exact hplay)]

/-! ### STOPPED and HALTED -/

/-- The end of the disc, and a ramp to STOPPED that has ended (R95, R110). -/
theorem AtBoundary.stopped (hplay : s.engine.play ≠ .rampDown .leave)
    (hend : s.ring.p + 1 = s.t ∨ s.engine.play = .rampDown .stopped ∧
      ((played s).conceal.gp = 0 ∨ (s.slot (s.ring.p + 1)).playable = false)) :
    StopsAt (if s.ring.p + 1 = s.t then .stop else s.engine.intent) s (bounded s) ∧ ProgramTold s (bounded s) ∧
    (s.ring.p + 1 = s.t → ∃ n, ⟨SEvent.endOfDisc s.t, n⟩ ∈ (bounded s).events.sSet) := by
  have hnot : s.engine.play ≠ .stopped := fun hh => by
    have := h.producing
    rw [hh] at this
    cases this
  by_cases ht : s.ring.p + 1 = s.t
  · obtain ⟨hw, hprogram, hsSet⟩ := h.released
    obtain ⟨hstops, htold⟩ := stops_endOfDisc (Machine.released s)
    obtain ⟨hat, -, hnumber⟩ := hw.stops hstops rfl h.law hnot
    have hst : (Machine.released s).t = s.t := by rw [hw.state]; rfl
    rw [hst] at htold
    rw [h.stopsAtEnd ht hplay, if_pos ht]
    exact ⟨hat, hnumber hprogram hsSet, fun _ => (raisesWithin_finish [] s _).keeps (by simp) htold⟩
  · obtain ⟨hramp, hover⟩ := hend.resolve_left ht
    obtain ⟨hw, htold⟩ := h.rampOver ht
    have hintent : (Machine.rampOver s).engine.intent = s.engine.intent := by rw [hw.state]
    have hstops := stops_enterStopped (Machine.rampOver s)
    rw [h.ends ht hramp hover, if_neg ht]
    have hstops' : Stops (setIntent s.engine.intent (Machine.rampOver s)) (enterStopped (Machine.rampOver s)) := by
      rw [setIntent_same hintent]; exact hstops
    obtain ⟨hat, hnumber, -⟩ := hw.stops hstops' rfl h.law hnot
    exact ⟨hat, hnumber htold, fun hh => absurd hh ht⟩

/-- The end of a leave, at T or before (R143). -/
theorem AtBoundary.left (hplay : s.engine.play = .rampDown .leave)
    (hend : s.ring.p + 1 = s.t ∨ (played s).conceal.gp = 0 ∨ (s.slot (s.ring.p + 1)).playable = false) :
    LeavesAt (silentGains s) s (bounded s) ∧ (s.ring.p + 1 ≠ s.t → ProgramTold s (bounded s)) := by
  by_cases ht : s.ring.p + 1 = s.t
  · rw [h.leavesAtEnd ht hplay]
    exact ⟨((h.leftAtEnd ht).leaves h.ring.1 hplay).1, fun hh => absurd ht hh⟩
  · obtain ⟨hw, htold⟩ := h.rampOver ht
    obtain ⟨hat, hnumber⟩ := hw.leaves h.ring.1 hplay
    rw [h.ends ht hplay (hend.resolve_left ht)]
    exact ⟨hat, fun _ => hnumber htold⟩

/-! ### The window goes on -/

/-- The slot behind the boundary opens (R92, R95). -/
theorem AtBoundary.opened (ht : s.ring.p + 1 ≠ s.t) (hplay : s.engine.play = .playing ∨ (played s).conceal.gp ≠ 0)
    (hp : (s.slot (s.ring.p + 1)).playable = true) :
    Lasts (fun _ => 0) s (bounded s) ∧ ProgramTold s (bounded s) ∧ Trims (s.ring.p + 1) true s (bounded s) ∧
    bounded s = { Machine.crossing s with
      engine := { (Machine.crossing s).engine with slotOpen := true }
      planner := (bounded s).planner, events := (bounded s).events } := by
  obtain ⟨hw, htold⟩ := h.crossing
  obtain ⟨hlasts, hsSet, htrims, hstate⟩ := hw.opens h.law h.quiet
  rw [← h.opens ht hplay hp] at hlasts hsSet htrims hstate
  generalize bounded s = t at *
  generalize Machine.crossing s = w at *
  exact ⟨hlasts, htold.on (by rw [hstate]) (by rw [hstate]) (by rw [hstate]) hsSet (by simp), htrims, hstate⟩

/-- A ramp to PAUSED has ended (R110). -/
theorem AtBoundary.paused (ht : s.ring.p + 1 ≠ s.t) (hplay : s.engine.play = .rampDown .paused)
    (hp : (played s).conceal.gp = 0 ∨ (s.slot (s.ring.p + 1)).playable = false) :
    Lasts (fun _ => 0) s (bounded s) ∧ ProgramTold s (bounded s) ∧ Trims (s.ring.p + 1) false s (bounded s) ∧
    (∃ n, ⟨SEvent.playStateChanged .paused s.engine.intent, n⟩ ∈ (bounded s).events.sSet) ∧
    bounded s = { Machine.rampOver s with
      engine := { (Machine.rampOver s).engine with play := .paused, anticipate := false }
      planner := (bounded s).planner, events := (bounded s).events } := by
  obtain ⟨hw, htold⟩ := h.rampOver ht
  obtain ⟨hlasts, hsSet, htrims, hpaused, hstate⟩ := hw.pauses h.law h.quiet (by rw [hplay]; decide)
  have hbranch := h.ends ht hplay hp
  simp only [rampEnd] at hbranch
  rw [← hbranch] at hlasts hsSet htrims hpaused hstate
  generalize bounded s = t at *
  generalize Machine.rampOver s = w at *
  exact ⟨hlasts, htold.on (by rw [hstate]) (by rw [hstate]) (by rw [hstate]) hsSet (by simp), htrims, hpaused, hstate⟩

theorem AtBoundary.playsThrough_iff (hs : starvesNext s) : playsThrough (Machine.crossing s) = true ↔ goesThrough s := by
  obtain ⟨-, -, hslot⟩ := h.finds
  have hlimit : (Machine.crossing s).holeWaitLimit = s.holeWaitLimit := by rw [h.crossing.1.state]; rfl
  rw [Machine.playsThrough_iff, hslot, hlimit]
  exact ⟨fun hh => ⟨hs.1, hs.2.1, hh.2, hh.1⟩, fun hh => ⟨hh.2.2.2, hh.2.2.1⟩⟩

/-- STARVED behind the boundary, and what a hole wait of 0 makes of it (R99, R101). -/
theorem AtBoundary.starved (hs : starvesNext s) :
    Lasts (boundaryCount s) s (bounded s) ∧ ProgramTold s (bounded s) ∧
    Trims (s.ring.p + 1) (decide (goesThrough s)) s (bounded s) ∧
    (∃ n, ⟨SEvent.starved (s.ring.p + 1), n⟩ ∈ (bounded s).events.sSet) ∧
    (goesThrough s → ∃ n, ⟨SEvent.slotAbandoned (s.ring.p + 1) (s.ring.p + 1), n⟩ ∈ (bounded s).events.sSet) ∧
    bounded s = { Machine.crossing s with
      ring := if goesThrough s then (Machine.crossing s).ring.giveUpHole (s.ring.p + 1) else (Machine.crossing s).ring
      engine := if goesThrough s then Machine.opened (starvedEngine (Machine.crossing s))
        else starvedEngine (Machine.crossing s)
      conceal := if goesThrough s then gainsFromStarved (Machine.crossing s).params false (played s).conceal
        else (played s).conceal
      planner := (bounded s).planner, events := (bounded s).events } := by
  obtain ⟨hw, htold⟩ := h.crossing
  have hthrough := h.playsThrough_iff hs
  have hdecide : Machine.playsThrough (Machine.crossing s) = decide (goesThrough s) := by
    rw [Bool.eq_iff_iff, hthrough, decide_eq_true_eq]
  obtain ⟨hlasts, hsSet, htrims, hstarved, habandoned, hstate⟩ := hw.starves h.law h.quiet
  have hkept : (Machine.crossing s).ring.p = s.ring.p + 1 ∧ (Machine.crossing s).conceal = (played s).conceal := by
    rw [hw.state]; exact ⟨rfl, rfl⟩
  rw [← h.starves hs] at hlasts hsSet htrims hstarved habandoned hstate
  simp only [hthrough, hkept.1, hkept.2] at hstate habandoned
  rw [hdecide] at htrims
  generalize bounded s = t at *
  refine ⟨hlasts.congr fun c => ?_, ?_, htrims, hstarved, habandoned, hstate⟩
  · simp only [boundaryCount, starveCount, hthrough, and_iff_left hs]
  · generalize Machine.crossing s = w at *
    refine htold.on ?_ (by rw [hstate]) ?_ hsSet (by decide)
    · rw [hstate]; dsimp only; split <;> rfl
    · rw [hstate]; dsimp only; split <;> [exact giveUpHole_p _ _; rfl]

end

end Sys2Proof.Machine
end

section
/-! PROOF. The block boundary, assembled (R13, R94, R95, R99, R110, R143). -/

namespace Sys2Proof.Machine

section
variable {s : State} (h : AtBoundary s)
include h

/-! ### What every boundary comes to -/

/-- The session unit and the power controller behind a boundary that ends no leave. -/
theorem AtBoundary.crossing_keeps : (Machine.crossing s).session = s.session ∧
    (Machine.crossing s).power = { s.power with lastSlf := s.now } := by
  rw [h.crossing.1.state]; exact ⟨rfl, rfl⟩

/-- Where neither STARVED nor the end of a ramp follows, the slot behind the boundary opens. -/
theorem AtBoundary.opens_of (hs : ¬ starvesNext s) (hover : ¬ ((∃ dest, s.engine.play = .rampDown dest) ∧
      ((played s).conceal.gp = 0 ∨ (s.slot (s.ring.p + 1)).playable = false))) (ht : s.ring.p + 1 ≠ s.t) :
    (s.engine.play = .playing ∨ (played s).conceal.gp ≠ 0) ∧ (s.slot (s.ring.p + 1)).playable = true := by
  rcases playing_or_ramp h.producing with hp | hp
  · exact ⟨.inl hp, by simpa using fun hb => hs ⟨hp, ht, hb⟩⟩
  · exact ⟨.inr fun hg => hover ⟨hp, .inl hg⟩, by simpa using fun hb => hover ⟨hp, .inr hb⟩⟩

theorem AtBoundary.lasts : Lasts (boundaryCount s) s (bounded s) ∧
    (s.engine.play ≠ .rampDown .leave → (bounded s).session = s.session ∧
      (bounded s).power = { s.power with lastSlf := s.now }) ∧
    (s.ring.p + 1 ≠ s.t ∨ s.engine.play ≠ .rampDown .leave → ProgramTold s (bounded s)) := by
  by_cases hs : starvesNext s
  · obtain ⟨hlasts, htold, -, -, -, hstate⟩ := h.starved hs
    refine ⟨hlasts, fun _ => ?_, fun _ => htold⟩
    rw [hstate]
    exact h.crossing_keeps
  have hquiet := boundaryCount_quiet hs
  by_cases hleave : s.engine.play = .rampDown .leave ∧
      (s.ring.p + 1 = s.t ∨ (played s).conceal.gp = 0 ∨ (s.slot (s.ring.p + 1)).playable = false)
  · obtain ⟨hat, htold⟩ := h.left hleave.1 hleave.2
    exact ⟨hat.lasts.congr hquiet, fun hne => absurd hleave.1 hne, fun hor => htold (hor.resolve_right fun hne => hne hleave.1)⟩
  by_cases hstop : s.engine.play ≠ .rampDown .leave ∧ (s.ring.p + 1 = s.t ∨ s.engine.play = .rampDown .stopped ∧
      ((played s).conceal.gp = 0 ∨ (s.slot (s.ring.p + 1)).playable = false))
  · obtain ⟨hat, htold, -⟩ := h.stopped hstop.1 hstop.2
    exact ⟨hat.lasts.congr hquiet, fun _ => hat.keeps, fun _ => htold⟩
  have ht : s.ring.p + 1 ≠ s.t := fun ht => by
    by_cases hl : s.engine.play = .rampDown .leave
    · exact hleave ⟨hl, .inl ht⟩
    · exact hstop ⟨hl, .inl ht⟩
  by_cases hover : (∃ dest, s.engine.play = .rampDown dest) ∧
      ((played s).conceal.gp = 0 ∨ (s.slot (s.ring.p + 1)).playable = false)
  · obtain ⟨⟨dest, hplay⟩, hend⟩ := hover
    cases dest with
    | leave => exact absurd ⟨hplay, .inr hend⟩ hleave
    | stopped => exact absurd ⟨by rw [hplay]; decide, .inr ⟨hplay, hend⟩⟩ hstop
    | paused =>
      obtain ⟨hlasts, htold, -, -, hstate⟩ := h.paused ht hplay hend
      refine ⟨hlasts.congr hquiet, fun _ => ?_, fun _ => htold⟩
      rw [hstate]
      rw [(h.rampOver ht).1.state]
      exact ⟨rfl, rfl⟩
  · obtain ⟨hplay, hp⟩ := h.opens_of hs hover ht
    obtain ⟨hlasts, htold, -, hstate⟩ := h.opened ht hplay hp
    refine ⟨hlasts.congr hquiet, fun _ => ?_, fun _ => htold⟩
    rw [hstate]
    exact h.crossing_keeps

/-- The engine as it waits at a slot behind the boundary that is not playable (R99, R102). -/
def waitingEngine (s : State) : Engine :=
  { s.engine with
    f := 0, slotOpen := false, anticipate := false, program := (crossing s).engine.program, play := .starved, holeWait := 0
    stall := some ⟨s.now, s.params.fillStallTimeout, (s.engine.stall.map StallTimer.stalled).getD false⟩ }

theorem AtBoundary.starved_engine (hs : starvesNext s) :
    (bounded s).engine = if goesThrough s then Machine.opened (waitingEngine s) else waitingEngine s := by
  obtain ⟨-, -, -, -, -, hstate⟩ := h.starved hs
  have hw := h.crossing.1.state
  have hplay : (Machine.crossing s).engine.play ≠ .priming := by rw [hw]; show s.engine.play ≠ _; rw [hs.1]; decide
  have hwait : starvedEngine (Machine.crossing s) = waitingEngine s := by
    rw [starvedEngine, if_neg hplay, hw]; rfl
  rw [← hwait]
  exact congrArg State.engine hstate

/-- The window behind a boundary that ends in no flush and no leave (R13, R36, R98). -/
structure WindowKept (s t : State) : Prop where
  ring : t.ring.e = s.ring.e ∧ t.ring.owner = s.ring.owner
  released : t.slot s.ring.p = .empty
  next : t.slot (s.ring.p + 1) = if goesThrough s then .void (s.ring.p + 1) else s.slot (s.ring.p + 1)
  others : ∀ a, s.ring.p + 1 < a → a < s.ring.e → t.slot a = s.slot a
  anticipate : t.engine.anticipate = false
  intake : t.intake = { s.intake with
    latch := s.intake.latch && decide (s.ring.len - s.params.releaseMargin < s.ring.e - (s.ring.p + 1)) }

theorem AtBoundary.windowKept_of {c : Conceal} {w t : State} (hw : Crosses c s w) (hthrough : ¬ goesThrough s)
    (hring : t.ring = w.ring) (hintake : t.intake = w.intake) (hant : t.engine.anticipate = false) : WindowKept s t := by
  obtain ⟨he, howner, -, -, hslot, hnext, hothers⟩ := hw.window h.ring h.held
  refine ⟨⟨by rw [hring, he], by rw [hring, howner]⟩, ?_, ?_, fun a hlo hhi => ?_, hant, by rw [hintake, hw.state]⟩
  · rw [State.slot, hring]; exact hslot
  · rw [if_neg hthrough, State.slot, hring]; exact hnext
  · rw [State.slot, hring]; exact hothers a hlo hhi

/-- A hole given up behind the boundary is VOID, and the other slots stay (R101). -/
theorem AtBoundary.windowKept_through (hthrough : goesThrough s) : WindowKept s (bounded s) := by
  obtain ⟨-, -, -, -, -, hstate⟩ := h.starved (starvesNext_of_goesThrough hthrough)
  have hw := h.crossing.1
  obtain ⟨he, howner, hlen, hwlaw, hslot, hnext, hothers⟩ := hw.window h.ring h.held
  have hwp : (Machine.crossing s).ring.p = s.ring.p + 1 := by rw [hw.state]; rfl
  have hintake : (Machine.crossing s).intake = { s.intake with
      latch := s.intake.latch && decide (s.ring.len - s.params.releaseMargin < s.ring.e - (s.ring.p + 1)) } := by
    rw [hw.state]
  have hpe := p_lt_e h.ring h.held
  have hel := ((law_iff _).mp h.ring).2.2.1
  have hone := one_lt_len s.ring
  have hring : (bounded s).ring = (Machine.crossing s).ring.giveUpHole (s.ring.p + 1) := by
    rw [hstate]; exact if_pos hthrough
  have hengine : (bounded s).engine = Machine.opened (starvedEngine (Machine.crossing s)) := by
    rw [hstate]; exact if_pos hthrough
  have hkept : ∀ a, s.ring.p ≤ a → a < s.ring.e → a ≠ s.ring.p + 1 → (bounded s).slot a = (Machine.crossing s).slot a :=
    fun a hlo hhi hne => by
      rw [State.slot, hring]
      exact giveUpHole_slot_ne (lo := s.ring.p) (by omega) (by omega) hne
  refine ⟨?_, ?_, ?_, fun a hlo hhi => ?_, by rw [hengine]; rfl, by rw [hstate]; exact hintake⟩
  · rw [hring, giveUpHole_frame]; exact ⟨he, howner⟩
  · rw [hkept _ (le_refl _) hpe (by omega), hslot]
  · rw [if_pos hthrough, State.slot, hring]
    exact (giveUpHole_slot hwlaw (by omega) (by omega) (by
      show ((Machine.crossing s).slot _).isMissing = true; rw [hnext]; exact hthrough.2.2.1)).1
  · rw [hkept a (by omega) hhi (by omega), hothers a hlo hhi]

theorem AtBoundary.windowKept (ht : s.ring.p + 1 ≠ s.t) (hstop : (bounded s).engine.play ≠ .stopped)
    (hhalt : (bounded s).engine.play ≠ .halted) : WindowKept s (bounded s) := by
  have hw := h.crossing.1
  by_cases hthrough : goesThrough s
  · exact h.windowKept_through hthrough
  by_cases hs : starvesNext s
  · obtain ⟨-, -, -, -, -, hstate⟩ := h.starved hs
    refine h.windowKept_of hw hthrough ?_ ?_ ?_
    · rw [hstate]; exact if_neg hthrough
    · rw [hstate]
    · rw [hstate]; dsimp only; rw [if_neg hthrough]; rfl
  by_cases hover : (∃ dest, s.engine.play = .rampDown dest) ∧
      ((played s).conceal.gp = 0 ∨ (s.slot (s.ring.p + 1)).playable = false)
  · obtain ⟨⟨dest, hplay⟩, hend⟩ := hover
    cases dest with
    | leave => exact absurd (h.left hplay (.inr hend)).1.engine.1 hhalt
    | stopped => exact absurd (h.stopped (by rw [hplay]; decide) (.inr ⟨hplay, hend⟩)).1.engine.1 hstop
    | paused =>
      obtain ⟨-, -, -, -, hstate⟩ := h.paused ht hplay hend
      exact h.windowKept_of (h.rampOver ht).1 hthrough (by rw [hstate]) (by rw [hstate]) (by rw [hstate])
  · obtain ⟨hplay, hp⟩ := h.opens_of hs hover ht
    obtain ⟨-, -, -, hstate⟩ := h.opened ht hplay hp
    exact h.windowKept_of hw hthrough (by rw [hstate]) (by rw [hstate]) (by rw [hstate, hw.state])

end

/-- Settles O45: the frame goes out, slot P is released, and what follows is told by the new P. The model's own boundary has
the obligation's name. -/
theorem blockBoundary_obligation : Obligations.BlockBoundary := by
  intro s hpowered hd hring hlaw hproducing hf hplayable x p through goes starves silent
  have h : AtBoundary s := ⟨hproducing, hplayable, hring, hlaw, hd⟩
  have hexec : exec .frameClock s = .next (bounded s) := by
    rw [exec_frameClock_plays hpowered hproducing, if_pos hf.ge]
    rfl
  obtain ⟨⟨hsounds, ⟨hrates, hparams, hsPort, hdPort, hnow, hframe, hp, hstraps, hfails⟩, hflag⟩, hkeeps, hprogram⟩ :=
    h.lasts
  refine ⟨bounded s, hexec, hsounds, hrates, hparams, hsPort, hdPort, hnow, hframe, hp, hstraps, hfails, hkeeps, hflag,
    hprogram, ⟨?playing, ?ramp, ?paused⟩, ?window, ?stopped, ?left⟩
  case playing =>
    intro hplay ht
    cases hpl : (s.slot p).playable with
    | true =>
      have hthrough : ¬ through := fun hh => Bool.noConfusion (hpl.symm.trans (not_playable_of_missing hh.2.2.1))
      have hgoes : goes = true := by simp only [goes, hpl, Bool.true_or]
      obtain ⟨-, -, htrims, hstate⟩ := h.opened ht (.inl hplay) hpl
      have hw := h.crossing.1.state
      refine ⟨?_, ?_, ?_, fun _ => ?_, fun hh => absurd hh hthrough, fun hh => ?_, fun hh => ?_⟩
      · rw [if_neg hthrough, hstate, hw]
      · rw [hstate, hw]
      · rw [hgoes]; exact htrims
      · rw [hstate, hw]; exact ⟨hplay, rfl, rfl, rfl⟩
      · exact Bool.noConfusion (hgoes.symm.trans hh)
      · exact Bool.noConfusion (hpl.symm.trans hh.2.2)
    | false =>
      have hs : starvesNext s := ⟨hplay, ht, hpl⟩
      have hgoes : goes = decide (goesThrough s) := by simp only [goes, hpl, Bool.false_or]; rfl
      obtain ⟨-, -, htrims, hstarved, habandoned, hstate⟩ := h.starved hs
      have hengine := h.starved_engine hs
      have hparams : (Machine.crossing s).params = s.params := by rw [h.crossing.1.state]
      have hconceal : (bounded s).conceal = if goesThrough s then gainsFromStarved s.params false (played s).conceal
          else (played s).conceal := by rw [← hparams]; exact congrArg State.conceal hstate
      refine ⟨hconceal, ?_, hgoes ▸ htrims, fun hh => Bool.noConfusion hh, fun hh => ?_, fun hh => ?_, fun _ => hstarved⟩
      · rw [hengine]; split <;> rfl
      · rw [hengine, if_pos (c := goesThrough s) hh]
        exact ⟨rfl, rfl, rfl, rfl, habandoned hh⟩
      · rw [hgoes] at hh
        rw [hengine, if_neg (by simpa using hh)]
        exact ⟨rfl, rfl, rfl, _, rfl, rfl, rfl⟩
  case ramp =>
    intro hne hg hpl ht
    obtain ⟨-, -, htrims, hstate⟩ := h.opened ht (.inr hg) hpl
    have hw := h.crossing.1.state
    refine ⟨?_, ?_, ?_, ?_, htrims⟩
    · rw [hstate, hw]
    · rw [hstate, hw]
    · rw [hstate, hw]
    · rw [hstate]
  case paused =>
    intro hplay hover ht
    obtain ⟨-, -, htrims, htold, hstate⟩ := h.paused ht hplay hover
    have hw := (h.rampOver ht).1.state
    refine ⟨?_, ?_, ?_, ?_, htrims, htold⟩
    · rw [hstate, hw]; rfl
    · rw [hstate]
    · rw [hstate, hw]
    · rw [hstate, hw]
  case stopped =>
    intro hne hend
    obtain ⟨⟨-, -, hring', ⟨hplay, hintent, hopen, hstall, hwait⟩, ⟨hgp, hgpTarget, hgc, hleft, hright⟩,
      ⟨hrun, hqueue, htag⟩, hpause, hpaused, hwithdrawn, htold⟩, -, hended⟩ := h.stopped hne hend
    exact ⟨hring', hplay, hintent, hopen, hstall, hwait, hgp, hgpTarget, hgc, hleft, hright, hrun, hqueue, htag, hpause,
      hpaused, hwithdrawn, by rw [hintent]; exact htold, hended⟩
  case left =>
    intro d fp hplay hend hdir hfp
    obtain ⟨⟨-, ⟨hhalted, hintent, hopen⟩, hconceal, ⟨he, howner⟩, hends, hstored, htold, hchanged⟩, -⟩ := h.left hplay hend
    obtain ⟨hhead, hended⟩ := hstored d fp hdir hfp
    exact ⟨hhalted, hintent, hopen, hconceal, he, howner, hends, hhead, htold, hended, hchanged⟩
  case window =>
    intro ht hstop hhalt
    obtain ⟨⟨he, howner⟩, hreleased, hnext, hothers, hant, hintake⟩ := h.windowKept ht hstop hhalt
    exact ⟨he, howner, hreleased, hnext, hothers, hant, hintake⟩

end Sys2Proof.Machine
end
